-- ==== Sys2Proof/Word.lean ====
section
/-! DEFINITION. The word types of the host address space: a byte, a register word of 32 bits (R31) and a host address of 24 bits (R29). -/

namespace Sys2Proof

/-- One byte of a table entry, a message area or a host-link frame. -/
abbrev Byte := BitVec 8

/-- One register word (R31). -/
abbrev Word := BitVec 32

/-- A host address; the page number is bits 23 to 12 (R29). -/
abbrev Addr := BitVec 24

end Sys2Proof
end

