-- ==== Sys2Proof/Syntax.lean ====
section
/-! DEFINITION. The commands of the segment controller module, one constructor per row of the table of operations and events, with the operand types they use. -/

namespace Sys2Proof

/-- The two wicks. -/
inductive Wick where
  | a
  | b
deriving DecidableEq, Repr

/-- The other wick of the pair. -/
def Wick.other : Wick → Wick
  | .a => .b
  | .b => .a

/-- Master IDs 0x1 to 0x6 (R47). -/
inductive Master where
  | mss
  | wickA
  | wickB
  | hostS
  | hostN
  | remote
deriving DecidableEq, Repr

/-- The ID number of a master (R47). -/
def Master.id : Master → Nat
  | .mss => 1
  | .wickA => 2
  | .wickB => 3
  | .hostS => 4
  | .hostN => 5
  | .remote => 6

/-- The master that is a wick (R47). -/
def Wick.master : Wick → Master
  | .a => .wickA
  | .b => .wickB

/-- The master of an ID number, none for 0 and 7 (R47). -/
def Master.ofId : Nat → Option Master
  | 1 => some .mss
  | 2 => some .wickA
  | 3 => some .wickB
  | 4 => some .hostS
  | 5 => some .hostN
  | 6 => some .remote
  | _ => none

/-- The three windowed table ports (R54). -/
inductive PortId where
  | registry
  | sched
  | wave
deriving DecidableEq, Repr

/-- A page access error that occurs in the cycle of another access: who made it, where, under which code (R42). -/
structure PageErr where
  master : Master
  off : Nat
  code : Nat
deriving DecidableEq, Repr

/-- A write of CH_ACK that meets another write in one cycle (R92). -/
structure AckWrite where
  master : Master
  ret : BitVec 16
  seq : Byte
deriving DecidableEq, Repr

/-- The descriptor registers of a channel (R86). -/
inductive DescReg where
  | offset
  | length
  | opcode
deriving DecidableEq, Repr

/-- One detection of a preamble: its channel and the RSSI on each input over the first 16 symbols, dB below 0 dBm (R102, R104). -/
structure Detect where
  chan : Nat
  mainNeg : Nat
  divNeg : Nat
deriving DecidableEq, Repr

/-- A PHY header as it arrives: mode switch, FCS type of 4 octets, length, whether a coded one decodes (R108). -/
structure Phr where
  modeSwitch : Bool
  fcs4 : Bool
  length : Nat
  decoded : Bool
deriving DecidableEq, Repr

/-- A request to the duty ledger: channel, class, PSDU octets, preamble in symbols, the air-link flag (R118). -/
structure LedgerReq where
  channel : Fin 64
  cls : Fin 4
  psdu : BitVec 16
  wake : Word
  air : Bool
deriving DecidableEq, Repr

/-- An ACK that reaches step 9: its source, TAG, RESULT and ACKED_SEQ (R175). -/
structure AckIn where
  src : Nat
  tag : Byte
  result : Byte
  ackedSeq : Nat
deriving DecidableEq, Repr

/-- One instant of a phase as the converters of a metering domain deliver it: the 24-bit samples of VM_x, VM_N and IM_x (R242, R244). -/
structure Sample where
  v : Int
  n : Int
  i : Int
deriving DecidableEq, Repr

/-- What an Announce message says of its grandmaster, and who sends it (R351). -/
structure Announce where
  prio1 : Nat
  cls : Nat
  accuracy : Nat
  variance : Nat
  prio2 : Nat
  gm : Nat
  steps : Nat
  utcOff : Nat
  utcValid : Bool
  sender : Nat
deriving DecidableEq, Repr

/-- A PTP message with its DOMAIN, as it arrives on a port; times in ns of the port's time stamps (R351). -/
inductive PtpMsg where
  | announce (domain : Nat) (x : Announce)
  | sync (domain seq : Nat) (twoStep : Bool) (t1 t2 : Int)
  | followUp (domain seq : Nat) (t1 : Int)
  | delayReq (domain seq : Nat)
  | delayResp (domain seq : Nat) (t4 : Int)
  | other
deriving DecidableEq, Repr

/-- A PTP message that a port sends. -/
inductive PtpTx where
  | sync
  | announce
  | delayReq
deriving DecidableEq, Repr

/-- A Camrus frame on a backbone port: the port, the MOD_UID of the module at its other end, the bytes from DA on (R339). -/
structure FabRx where
  port : Fin 2
  uid : BitVec 64
  frame : List Byte
deriving DecidableEq, Repr

/-- Who asked for an internal transaction, and what its close means to them. -/
inductive Purpose where
  | host
  | leave
  | joinAccept
  | push (addr bitNo : Nat)
  | schedule
  | step
  | refresh (program : Nat)
  | wave (slot : Nat)
  | hold
  | attrib
  | campaign (step : Nat)
  | block (n : Nat)
  | keyPush (addr : Nat)
deriving DecidableEq, Repr

/-- A reading of the management subsystem's sensors: temperature of a sensor in 0.1 °C, humidity in 0.1 %RH, light in lux with whether
it has stood on its side of the limit for 1 s, a rail in mV with whether it has stood there for 1 ms (R422, R423).
  DESIGN CHOICE (log entry 144). -/
inductive Reading where
  | temp (n : Fin 6) (v : BitVec 16)
  | humidity (v : BitVec 10)
  | light (v : BitVec 16) (held : Bool)
  | rail (n : Fin 8) (v : BitVec 16) (held : Bool)
deriving DecidableEq, Repr

/-- The end of a self-test: the steps that passed, whether the dry boot was reached, its duration in 100 ms (R324, R325). -/
structure TestEnd where
  steps : BitVec 5
  dryRan : Bool
  dur : BitVec 16
deriving DecidableEq, Repr

/-- The commands of the block: one constructor for each row of the table of operations and events. An operand that names another event of the same
cycle has as its default that there is none. DESIGN CHOICE (log entries 5, 6, 95). -/
inductive Instr where
  /-- REGISTER_WRITE (R9): A master writes a register field that has no behaviour of its own; access and lock checks apply, and the value is stored, journalled or kept in the settings record as the page requires. -/
  | registerWrite (m : Master) (a : Addr) (v : Word)
  /-- WRITE_HI_COMMIT (R32): A write of a _HI register commits the held _LO half and the _HI half together. -/
  | writeHiCommit (m : Master) (a : Addr) (v : Word)
  /-- READ_LO_CAPTURE (R32): A read of a _LO register captures the matching _HI value for the reading master. -/
  | readLoCapture (m : Master) (a : Addr) (same : Word := 0)
  /-- IRQ_CLR_WRITE (R41): A write to IRQ_CLR clears the chosen IRQ_RAW bits; a source that sets its bit in the same cycle wins. -/
  | irqClrWrite (m : Master) (page : Nat) (v : Word) (same : Word)
  /-- IRQ_SOURCE_SET (R41): An event or condition source sets its IRQ_RAW bit, and HOST_IRQ_N is updated. -/
  | irqSourceSet (page : Nat) (n : Fin 32)
  /-- ERR_CNT_READ (R42): A read of ERR_CNT returns the count, then clears it and ERR_FIRST. -/
  | errCntRead (m : Master) (page : Nat) (same : Option PageErr)
  /-- PAGE_LOCK_SET (R43): A permitted master sets NS_LOCK or HOST_LOCK, which stays set until the next module start. -/
  | pageLockSet (m : Master) (page : Nat) (v : Word)
  /-- COPY_ACTIVE_PAGE (R43): A write of SHADOW_CTL.COPY_ACTIVE copies the active SH values of the page into the shadow bank. -/
  | copyActivePage (m : Master) (w : Wick) (pos : Nat)
  /-- SH_FIELD_WRITE (R57): A write to an SH field goes to the shadow bank through the AUTHOR only, is checked against the guard lock and the arm state, and is journalled. -/
  | shFieldWrite (m : Master) (a : Addr) (v : Word)
  /-- LOCK_ACQUIRE_READ (R48): A read of LOCKn acquires a free lock or reports the current owner. -/
  | lockAcquireRead (m : Master) (n : Fin 32) (rivals : List Master)
  /-- LOCK_RELEASE (R49): The owner writes zero to LOCKn and releases it; any other write is counted under NOT_OWNER. -/
  | lockRelease (m : Master) (n : Fin 32) (v : Word)
  /-- LOCK_FORCE (R53): The MSS or the host secure port force-releases locks, and FORCED and a LOCK_FORCED event follow. -/
  | lockForce (m : Master) (v : Word)
  /-- LOCKS_DISABLE (R52): Clearing LOCKS CTRL.ENABLE releases every lock and stops acquisition. -/
  | locksDisable (m : Master)
  /-- PORT_READ (R55): A table-port READ command copies a consistent entry into PORT_DATA. -/
  | portRead (m : Master) (w : Wick) (port : PortId) (autoInc : Bool)
  /-- PORT_WRITE (R55): A table-port WRITE command is checked under R56 and then replaces the entry atomically, with journal or bank write. -/
  | portWrite (m : Master) (w : Wick) (port : PortId) (autoInc : Bool)
  /-- PORT_ERASE (R55): A table-port ERASE command is checked under R56 and then sets the entry empty. -/
  | portErase (m : Master) (w : Wick) (port : PortId) (autoInc : Bool)
  /-- PORT_CMD_DONE (R55): A running table-port command completes: BUSY clears, and DONE or FAIL is set. -/
  | portCmdDone (w : Wick) (port : PortId)
  /-- CFG_ARM (R59): ARM is checked and then starts validation of the whole shadow bank, arming the swap. -/
  | cfgArm (m : Master) (w : Wick) (mode : BitVec 2)
  /-- CFG_VALIDATION_DONE (R59): Validation of the shadow bank ends, giving ARMED with a planned instant, or REFUSED. -/
  | cfgValidationDone
  /-- CFG_CANCEL (R64): CANCEL ends an armed or validating swap, or is answered ALREADY_DONE or NOT_ARMED. -/
  | cfgCancel (m : Master) (w : Wick) (mode : BitVec 2) (same : Bool)
  /-- CFG_SWAP_INSTANT (R61): At the swap instant the commit word is written and all seven content types take effect together. -/
  | cfgSwapInstant
  /-- COPY_ACTIVE (R58): CFG_CMD COPY_ACTIVE copies the active bank into the shadow bank. -/
  | copyActive (m : Master) (w : Wick)
  /-- CLEAR_SHADOW (R65): CFG_CMD CLEAR_SHADOW empties every content type of the shadow bank. -/
  | clearShadow (m : Master) (w : Wick)
  /-- VALIDATE (R59): CFG_CMD VALIDATE validates the shadow bank without arming it. -/
  | validate (m : Master) (w : Wick)
  /-- CFG_CMD_DONE (R65): A bank command completes, CMD_BUSY clears and CMD_DONE is raised. -/
  | cfgCmdDone
  /-- HOST_WRITE_FRAME (R71): A complete WRITE request frame is checked in order and, if it passes, executed word by word with a status response. -/
  | hostWriteFrame (b : List Byte) (cut : Bool)
  /-- HOST_READ_FRAME (R71): A complete READ request frame is checked in order and, if it passes, executed with the data returned in the response. -/
  | hostReadFrame (b : List Byte) (cut : Bool)
  /-- FRAME_ABORT (R71): HL_CS_N rises before the last CRC byte, and the frame is discarded and counted in ABORT_CNT. -/
  | frameAbort
  /-- HOST_WAKE_RISE (R75): HOST_WAKE rises and brings PD10 out of sleep. -/
  | hostWakeRise
  /-- HOSTLINK_SLEEP (R75): IDLE_MS expires with no frame and no pending stream data, and PD10 enters sleep. -/
  | hostlinkSleep (low : Word)
  /-- SESS_OPEN (R77): SESS_CMD OPEN checks the host tag and point, then starts the module's side of the ECDH exchange. -/
  | sessOpen (m : Master)
  /-- SESS_OPEN_DONE (R77): The session opening completes: SESS_MOD_PUB, SESS_MOD_TAG and SESSION_ID are published and STATE becomes OPEN. -/
  | sessOpenDone
  /-- LOCKOUT_END (R78): The 10 s OPEN lockout expires. -/
  | lockoutEnd
  /-- SESS_CLOSE (R80): SESS_CMD CLOSE from the secure port ends the session. -/
  | sessClose (m : Master)
  /-- HOSTLINK_ENABLE_WRITE (R81): A write of HOSTLINK CTRL.ENABLE enables the secure port, or clears it and ends the session from the secure side. -/
  | hostlinkEnableWrite (m : Master) (v : Word)
  /-- CH_CFG_WRITE (R85): A write of a channel's configuration sets the endpoints or OPEN, and clearing OPEN revokes a pending message. -/
  | chCfgWrite (m : Master) (ch : Fin 16) (v : Word) (ack : Option AckWrite)
  /-- DESCRIPTOR_WRITE (R86): The sender writes CH_OFFSET, CH_LENGTH or CH_OPCODE, which are ignored with FULL while a message is pending. -/
  | descriptorWrite (m : Master) (ch : Fin 16) (r : DescReg) (v : Word)
  /-- POST (R86): The sender posts a message: it is checked, PENDING is set, POST_SEQ advances and the doorbell is sent. -/
  | post (m : Master) (ch : Fin 16)
  /-- DOORBELL_DELIVER (R87): The doorbell reaches the receiver's ready domain, and ANNOUNCED and DOORBELL_c are set. -/
  | doorbellDeliver (ch : Fin 16)
  /-- REVOKE (R86): The sender withdraws its pending message with WITHDRAWN. -/
  | revoke (m : Master) (ch : Fin 16) (ack : Option AckWrite)
  /-- CH_ACK (R88): The receiver acknowledges with RET_CODE and ACK_SEQ, clearing PENDING and signalling the sender. -/
  | chAck (m : Master) (ch : Fin 16) (ret : BitVec 16) (seq : Byte) (reset : Bool := false)
  /-- MBOX_PAGE_DISABLE (R93): Clearing a mailbox page's ENABLE revokes each pending message with CHANNEL_CLOSED. -/
  | mboxPageDisable (m : Master) (secure : Bool)
  /-- TABLE_READ (R94): The controller mailbox request TABLE_READ copies COUNT entries into the message area. -/
  | tableRead (ch : Fin 16)
  /-- TABLE_WRITE (R94): The controller mailbox request TABLE_WRITE applies port writes in index order and stops at the first refusal. -/
  | tableWrite (ch : Fin 16)
  /-- TABLE_ERASE (R94): The controller mailbox request TABLE_ERASE applies port erases over a range. -/
  | tableErase (ch : Fin 16)
  /-- RESULTS (R94): The controller mailbox request RESULTS moves result records from the TXN queue into the message area. -/
  | results (ch : Fin 16)
  /-- PACKET_OPEN (R96): A producer opens a stream packet and reserves the slot of its length word. -/
  | packetOpen (f : Fin 4)
  /-- PACKET_COMMIT (R96): The producer writes the length word and commits the packet, and PKT_SEQ advances. -/
  | packetCommit (f : Fin 4) (ty : Byte) (payload : List Word)
  /-- PACKET_ABANDON (R97): A packet that does not fit, or whose producer resets, is abandoned and counted in DROP_CNT. -/
  | packetAbandon (f : Fin 4)
  /-- FLUSH (R98): A write of FLUSH marks a flush boundary and sets FLUSH_BUSY. -/
  | flush (m : Master) (f : Fin 4)
  /-- FLUSH_BOUNDARY (R98): The flush boundary is reached, data before it is discarded and FLUSH_DONE is raised. -/
  | flushBoundary (f : Fin 4)
  /-- F_EN_CLEAR (R98): Clearing F_EN flushes the FIFO and stops it accepting packets. -/
  | fEnClear (m : Master) (f : Fin 4)
  /-- F_DATA_READ (R99): A host read of a data aperture delivers the next word, with a parity check, or underruns. -/
  | fDataRead (m : Master) (f : Fin 4)
  /-- PREAMBLE_DETECT (R102): A channel detector declares a preamble and a free demodulator is attached, or NO_DEMOD is counted. -/
  | preambleDetect (w : Wick) (l : List Detect)
  /-- DEMOD_SFD_TIMEOUT (R103): No SFD arrives within PRE_MAX_MS + 1 ms of attachment, and the demodulator is released. -/
  | demodSfdTimeout (w : Wick) (d : Fin 8)
  /-- PHR_CHECK (R108): A received PHR is checked and, if rejected, the demodulator is released and RX_PHR_ERR counts it. -/
  | phrCheck (w : Wick) (d : Fin 8) (p : Phr)
  /-- FRAME_RECEIVED (R141): A received frame ends, its FCS is checked, and it passes the receive processing order. -/
  | frameReceived (w : Wick) (d : Fin 8) (psdu : List Byte) (rssi : Byte)
  /-- PLL_UNLOCK (R105): The radio PLL loses lock, keyed transmission stops, and demodulators are released. -/
  | pllUnlock (w : Wick)
  /-- PLL_RELOCK (R105): The radio PLL regains lock, and ledger requests and detection resume. -/
  | pllRelock (w : Wick)
  /-- LOAD_PRESET (R110): LOAD_PRESET starts copying a shipped preset into the shadow profile. -/
  | loadPreset (m : Master) (w : Wick) (p : Fin 8)
  /-- PRESET_LOAD_DONE (R110): The preset load into the shadow profile completes. -/
  | presetLoadDone
  /-- LEDGER_REQUEST (R119): A wick asks the duty ledger for a transmission, which is checked in order and charged and granted, or refused. -/
  | ledgerRequest (w : Wick) (channel : Fin 64) (cls : Fin 4) (psdu : BitVec 16) (wake : Word) (air : Bool) (rival : Option LedgerReq := none)
  /-- SEQ_ALLOCATE (R19): A wick takes the next outbound sequence number, and a new ceiling is saved before it is passed. -/
  | seqAllocate (w : Wick)
  /-- FRAME_TRANSMIT (R25): A granted frame takes its frame counter, commits its journal record and is keyed within 2 ms of the grant. -/
  | frameTransmit (w : Wick)
  /-- FRAME_TX_END (R101): A keyed transmission ends, and receiver blanking ends 50 µs later. -/
  | frameTxEnd (w : Wick)
  /-- GRANT_LAPSE (R121): A grant whose transmission has not begun within 2 ms lapses without refund. -/
  | grantLapse (w : Wick)
  /-- BUCKET_BOUNDARY (R117): Each second on the base, ledger buckets slide and the second record is written, with a minute record every 60th boundary. -/
  | bucketBoundary
  /-- PRESUMPTION_END (R125): The presumed-full period of a sub-band or of the ledger ends, and NORMAL is raised with the last. -/
  | presumptionEnd
  /-- QUIET_ASSERT (R127): QUIET_ASSERT from the secure port ends every presumption and logs LEDGER_ASSERTED. -/
  | quietAssert (m : Master)
  /-- SECOND_BOUNDARY (R131): A whole second of segment time passes and the common channel changes. -/
  | secondBoundary
  /-- BEACON_SEND (R145): At the beacon instant the wick requests and sends the beacon on its channel, or skips it. -/
  | beaconSend (w : Wick)
  /-- TAPER_TRAIN (R149): The link engine sends taper trains on each sample channel of possibly dozing members. -/
  | taperTrain
  /-- RENDEZVOUS_SEND (R149): At the rendezvous instant the multicast frame is sent on the common channel. -/
  | rendezvousSend
  /-- ACK_SEND (R153): The module sends an acknowledgement it owes at its fixed or random time. -/
  | ackSend
  /-- SEEN_ENTRY_EXPIRE (R152): A seen-cache entry expires after 300 s. -/
  | seenEntryExpire
  /-- LINK_DISABLE (R163): Clearing LINK ENABLE stops transmission; keyed frames complete and granted frames are dropped. -/
  | linkDisable (m : Master) (w : Wick)
  /-- MIRROR_COPY (R319): 20 ms after the AUTHOR's transmission, the MIRROR requests and sends the copy, or skips it. -/
  | mirrorCopy
  /-- TXN_SUBMIT (R167): CMD SUBMIT checks the master's descriptor and takes a slot with a new tag. -/
  | txnSubmit (m : Master) (w : Wick)
  /-- INTERNAL_SUBMIT (R164): A module engine submits a transaction directly into a free slot. -/
  | internalSubmit (p : Purpose) (ty : Nat) (dest : Nat) (opcode : Nat) (args : List Byte) (ack : Bool) (win : Nat) (att : Nat) (nb : Nat) (na : Nat)
  /-- TXN_OFFER (R168): The engine offers the next eligible queued transaction to the link engine, taking its SEQ at the first offer. -/
  | txnOffer
  /-- TXN_REQUEUE_EXPIRY (R168): A ledger-refused transaction's wait expires, and it may be offered again. -/
  | txnRequeueExpiry (n : Fin 64)
  /-- TXN_DEADLINE (R169): An attempt cannot begin before NOT_AFTER or QUEUE_LIMIT_S, and the transaction closes NOT_SENT or as if last. -/
  | txnDeadline (n : Fin 64)
  /-- ATTEMPT_TIMEOUT (R171): An attempt's timeout falls, and the transaction backs off, repeats or closes. -/
  | attemptTimeout (n : Fin 64) (same : Option AckIn := none)
  /-- BACKOFF_EXPIRY (R171): The backoff delay ends and the next attempt is offered. -/
  | backoffExpiry (n : Fin 64)
  /-- QUARANTINE_END (R176): QUAR_S after its close, a quarantined slot becomes FREE. -/
  | quarantineEnd (n : Fin 64)
  /-- ABORT (R177): TXN CMD ABORT closes the named transaction according to its state. -/
  | abort (m : Master) (w : Wick) (tag : Byte) (same : Bool)
  /-- ABORT_ALL (R177): TXN CMD ABORT_ALL aborts every live transaction of the writing master. -/
  | abortAll (m : Master) (w : Wick) (same : List (Fin 64) := [])
  /-- TXN_DISABLE (R178): Clearing TXN ENABLE closes every transaction as DISABLED. -/
  | txnDisable (m : Master) (w : Wick)
  /-- RES_POP (R181): A write of RES_POP removes the oldest result record. -/
  | resPop (m : Master) (w : Wick)
  /-- RESP_SEL (R182): A write of RESP_SEL selects a group tag and start index and fills the response entries. -/
  | respSel (m : Master) (w : Wick) (v : Word)
  /-- GUEST_LOOKUP_TIMEOUT (R190): No positive registry answer arrives within 3 s, and the join request is discarded. -/
  | guestLookupTimeout
  /-- REG_QUERY_RECEIVED (R190): A home module answers a registry query for a roaming lantern, positive or negative. -/
  | regQueryReceived (node : BitVec 64) (fromSeg : BitVec 16)
  /-- REG_ANSWER_RECEIVED (R190): A registry answer admits the guest or records a negative answer for 600 s. -/
  | regAnswerReceived (node : BitVec 64) (lent : Option (List Byte))
  /-- GUEST_IN_RECEIVED (R190): The home module sets its entry AWAY on notice of a guest admission. -/
  | guestInReceived (osrc : BitVec 16) (node : BitVec 64) (seg : BitVec 16)
  /-- RETURN_REQUEST_DUE (R191): The home module has held AUTHOR for RETURN_S and asks for its lantern back. -/
  | returnRequestDue (a : BitVec 16)
  /-- RETURN_REQ_RECEIVED (R191): The guest module sends LEAVE, erases the guest entry and confirms the release. -/
  | returnReqReceived (osrc : BitVec 16) (node : BitVec 64)
  /-- RETURN_CONF_RECEIVED (R191): The home module receives the release confirmation for its lantern. -/
  | returnConfReceived (osrc : BitVec 16) (node : BitVec 64)
  /-- FABRIC_REPEAT_TIMER (R346): A GUEST_IN, RETURN_REQ or RETURN_CONF message without ACK is repeated every 10 s, up to 30 times. -/
  | fabricRepeatTimer
  /-- FABRIC_ACK_RECEIVED (R346): A fabric ACK stops the repeats of the named message. -/
  | fabricAckReceived (ltype : Byte) (node : BitVec 64)
  /-- PUSH_SEND (R193): A pending push is sent to a lantern as a unicast transaction, and its result updates PENDING and PUSH_FAILS. -/
  | pushSend (a : BitVec 16) (n : Fin 7)
  /-- ROLE_RECOMPUTE (R193): Every 900 s, or after a join, roles and parents are recomputed from NEIGHBOURS reports. -/
  | roleRecompute
  /-- FAULT_LAST_S_EXPIRY (R195): A fault bit active continuously for LAST_S becomes lasting. -/
  | faultLastSExpiry (a : BitVec 16) (n : Fin 16)
  /-- FAULT_BUCKET_ROTATE (R195): A 6 h fault-count bucket closes, and lasting bits inactive 24 h below threshold clear. -/
  | faultBucketRotate
  /-- FAULT_ACK (R195): FAULT_ACK clears every lasting bit and window count of ACK_ADDR. -/
  | faultAck (m : Master) (w : Wick) (a : BitVec 16)
  /-- NOT_HEARD_EXPIRY (R196): No frame passes from a JOINED lantern for SILENT_S, and NOT_HEARD is queued. -/
  | notHeardExpiry (a : BitVec 16)
  /-- NOTICE_POP (R211): A write of NOTICE_POP removes the oldest registry notice. -/
  | noticePop (m : Master) (w : Wick)
  /-- DAILY_RESOLUTION (R199): At local midnight the astronomical events and each enabled program's steps for the day are resolved. -/
  | dailyResolution
  /-- STEP_BROADCAST (R201): LEAD_S before a step instant, a SET_LEVEL_AT group command is submitted. -/
  | stepBroadcast
  /-- STEP_INSTANT (R201): At a step instant STEP is raised and masked contactor outputs are set. -/
  | stepInstant
  /-- SCHED_REFRESH (R204): At REFRESH_MIN each day SCHED_DAYS is sent to every enabled program's target. -/
  | schedRefresh
  /-- PERIODIC_REPLAN (R223): Every 10 s each live track is planned again. -/
  | periodicReplan
  /-- TRACK_END (R220): A track's TTL and its planned arrivals have passed, and the track and its wave end. -/
  | trackEnd (n : Fin 64)
  /-- WAVE_ABORT (R230): WAVE_CMD ABORT ends the wave in a slot, with optional restoring entries. -/
  | waveAbort (m : Master) (w : Wick) (sel : Fin 32) (restore : Bool) (same : Bool)
  /-- WAVE_ABORT_ALL (R230): WAVE_CMD ABORT_ALL ends every wave. -/
  | waveAbortAll (m : Master) (w : Wick) (restore : Bool) (same : List (Fin 32) := [])
  /-- INJECT (R231): WAVE_CMD INJECT presents a host detection for intake under R217. -/
  | inject (m : Master) (w : Wick)
  /-- WAVE_HANDOFF_RECEIVED (R233): A hand-off message is refused, creates a provisional track, updates it or cancels it. -/
  | waveHandoffReceived (seg : BitVec 16) (id : Byte) (flags : Byte) (node : BitVec 16) (kind : Byte) (cms : BitVec 16) (tArr : BitVec 48)
  /-- KEEP_AWAKE_HOLD (R226): Every 300 s while a KEEP_AWAKE program's window is open, AWAKE_HOLD is sent to its target. -/
  | keepAwakeHold (p : Fin 64)
  /-- PROFILE_HOUR_CLOSE (R234): At the end of each hour the traffic-profile block is written to NOR. -/
  | profileHourClose
  /-- PROFILE_BLOCK_COPY (R17): The MSS copies a closed profile block to the standby's NOR. -/
  | profileBlockCopy
  /-- PRE_BRIGHTEN (R236): PRE_LEAD_S before a quarter hour, pre-brightening entries are sent. -/
  | preBrighten
  /-- PRE_BRIGHTEN_RESEND (R236): Once a minute, pre-brightening entries are re-sent to lanterns whose wave has ended. -/
  | preBrightenResend
  /-- WAVE_DISABLE (R240): Clearing WAVE ENABLE ends every track and wave and stops profiling. -/
  | waveDisable (m : Master) (w : Wick)
  /-- METER_ENABLE (R12): A write of 1 to METER CTRL.ENABLE powers the metering domain, which resumes from its saved state. -/
  | meterEnable (m : Master) (w : Wick)
  /-- METER_DISABLE (R458): A write of 0 to METER CTRL.ENABLE freezes the domain and starts its stop save. -/
  | meterDisable (m : Master) (w : Wick)
  /-- STOP_SAVE_DONE (R458): The stop save is written with its commit word and the domain is switched off. -/
  | stopSaveDone (w : Wick)
  /-- COMMON_FIELD_WRITE (R245): A common METER or HARM field write is applied to both domains and the settings record, unless sealed. -/
  | commonFieldWrite (m : Master) (w : Wick) (harm : Bool) (off : BitVec 12) (v : Word)
  /-- TRIM_WRITE (R250): A per-wick trim write sets the gain or phase trim and clears CAL_DEFAULT. -/
  | trimWrite (m : Master) (w : Wick) (off : BitVec 12) (v : Word)
  /-- SEAL (R247): Setting SEAL makes it sticky and logs METER_SEALED. -/
  | seal (m : Master) (w : Wick)
  /-- SAMPLE_CLIP (R243): A clipped sample starts or extends an overload episode. -/
  | sampleClip (w : Wick) (ch : Fin 8)
  /-- OVERLOAD_END (R243): 200 ms pass without a clipped sample, and the overload episode ends. -/
  | overloadEnd (w : Wick) (ch : Fin 8)
  /-- SETTLING_END (R249): 1.5 s after its restart, a Rogowski channel's integrator has settled. -/
  | settlingEnd (w : Wick) (c : Fin 4)
  /-- POWER_SAMPLE_CLOSE (R254): A voltage cycle ends, and its power sample is classified into accumulators with creep and reversal checks. -/
  | powerSampleClose (w : Wick) (x : Fin 4) (l : List (List Sample))
  /-- PER_SECOND_CLOSE (R257): A whole second ends, and the per-second series is formed and sent to the AUTHOR. -/
  | perSecondClose (w : Wick)
  /-- METER_COMPARE (R322): Each second the controller compares both wicks' series and may blame a wick for an excursion. -/
  | meterCompare (refA : BitVec 16) (refB : BitVec 16)
  /-- HARMONIC_WINDOW_CLOSE (R258): A resampled window closes and its harmonics, THD, RMS and phase sequence are computed. -/
  | harmonicWindowClose (w : Wick) (l : List (List Int)) (mHz : Nat) (locked : Bool)
  /-- AGG_10MIN_CLOSE (R259): A 10-minute period closes, and the aggregate and its packet are produced. -/
  | agg10minClose (w : Wick)
  /-- VOLTAGE_EVENT_START (R260): A phase's one-cycle RMS crosses a dip, swell or interruption threshold. -/
  | voltageEventStart (w : Wick) (x : Fin 3) (mv : Word)
  /-- VOLTAGE_EVENT_END (R260): A voltage event ends and is counted and logged. -/
  | voltageEventEnd (w : Wick) (x : Fin 3) (mv : Word)
  /-- MISSING_NEUTRAL_DECLARE (R262): Displacement and unbalance hold for 500 ms, and MISSING_NEUTRAL is declared. -/
  | missingNeutralDeclare (w : Wick) (l : List (Nat × Nat × Nat × Nat)) (ms : Nat := 500)
  /-- MISSING_NEUTRAL_CLEAR (R262): Displacement stays below 10 % for 5 s, and the state clears. -/
  | missingNeutralClear (w : Wick) (l : List Nat := [0]) (ms : Nat := 5000)
  /-- INTERVAL_CLOSE (R266): At an interval boundary the record closes, and pending clears or length changes take effect. -/
  | intervalClose
  /-- ACC_CLEAR (R268): CMD ACC_CLEAR is checked and arms a clear of both domains at the next boundary. -/
  | accClear (m : Master) (w : Wick)
  /-- CAPTURE (R273): CMD CAPTURE, or a triggering event, starts a waveform capture. -/
  | capture (m : Master) (w : Wick)
  /-- CAPTURE_DONE (R273): A waveform capture completes and its packet is written. -/
  | captureDone (l : List Int)
  /-- REC_FETCH (R267): A write of REC_REQ_INDEX fetches an interval record into REC_DATA. -/
  | recFetch (m : Master) (w : Wick) (n : Word)
  /-- METER_CHECKPOINT (R269): Every 32,768 base cycles each running domain writes a checkpoint. -/
  | meterCheckpoint (w : Wick) (finished : Bool)
  /-- H_INDEX_READ (R275): A read of H_INDEX captures the harmonic view for the reading master. -/
  | hIndexRead (m : Master) (w : Wick)
  /-- PLAN_DUE (R277): An enabled attribution plan falls due, and its session is requested or skipped. -/
  | planDue
  /-- ATTR_START (R279): CMD START of the ATTR page is checked and starts a session with a new SESSION and SEED. -/
  | attrStart (m : Master) (w : Wick) (p : Fin 16)
  /-- PARTICIPANTS_FIX (R279): LEAD_S before S, participants are fixed, checked and the ATTRIB frame is sent. -/
  | participantsFix
  /-- CHIP_END (R284): A chip ends, and its per-phase value and validity are formed and journalled. -/
  | chipEnd
  /-- SESSION_CHIPS_END (R289): Chip 1,022 ends and the correlator starts solving. -/
  | sessionChipsEnd
  /-- SOLVE_DONE (R285): The solution completes, verdicts, baselines and strays are formed, and results are written. -/
  | solveDone
  /-- ATTR_ABORT (R289): CMD ABORT of the ATTR page sends STOP and closes the session ABORTED. -/
  | attrAbort (m : Master) (w : Wick) (same : Bool)
  /-- BASE_CLEAR (R287): CMD BASE_CLEAR clears the baseline of one lantern or every lantern. -/
  | baseClear (m : Master) (w : Wick) (a : BitVec 16)
  /-- ATTR_DISABLE (R289): Clearing ATTR ENABLE closes any session LOST. -/
  | attrDisable (m : Master) (w : Wick)
  /-- LIB_BEGIN (R294): LIB_CMD BEGIN erases and opens a library slot for loading. -/
  | libBegin (m : Master) (w : Wick)
  /-- LIB_DATA_WRITE (R294): A word written to LIB_DATA is stored at LIB_WOFF, which advances. -/
  | libDataWrite (m : Master) (w : Wick) (k : Fin 128) (v : Word)
  /-- LIB_FINISH (R294): LIB_CMD FINISH checks the image hash and copies the image to the standby. -/
  | libFinish (m : Master) (w : Wick)
  /-- LIB_DELETE (R294): LIB_CMD DELETE empties a slot not used by a campaign. -/
  | libDelete (m : Master) (w : Wick)
  /-- LIB_OP_DONE (R294): A library command completes; on FINISH, STORED_MAP shows the slot and LIB_DONE is raised. -/
  | libOpDone (norFail : Bool)
  /-- START (R295): C_CMD START fixes the campaign targets and enters ANNOUNCE. -/
  | start (m : Master) (w : Wick)
  /-- PAUSE (R304): C_CMD PAUSE holds the campaign in PAUSED. -/
  | pause (m : Master) (w : Wick) (same : Bool)
  /-- RESUME (R304): C_CMD RESUME returns the campaign to the state it left. -/
  | resume (m : Master) (w : Wick)
  /-- ACTIVATE (R302): C_CMD ACTIVATE sends CAMP_ACTIVATE for an activation instant. -/
  | activate (m : Master) (w : Wick)
  /-- CAMPAIGN_ABORT (R304): C_CMD ABORT sends CAMP_CANCEL and ends the campaign ABORTED. -/
  | campaignAbort (m : Master) (w : Wick) (same : Bool)
  /-- BLOCK_SEND (R299): C_GAP_MS after the previous block, the next campaign block is submitted. -/
  | blockSend
  /-- CAMPAIGN_HOLD (R298): Every 300 s during distribution, AWAKE_HOLD is sent to the targets. -/
  | campaignHold
  /-- QUERY_CLOSE (R299): A query collection closes, and the engine starts a round or enters READY or DONE. -/
  | queryClose (same : List (BitVec 16 × List Byte) := [])
  /-- ACTIVATION_INSTANT (R303): The activation instant passes, and the campaign enters CONFIRMING. -/
  | activationInstant
  /-- CONFIRM_WAIT_END (R298): C_CONFIRM_S after activation, CAMP_QUERY is sent for confirmation. -/
  | confirmWaitEnd
  /-- CAMPAIGN_DISABLE (R305): Clearing CAMPAIGN ENABLE ends the campaign ABORTED or DONE. -/
  | campaignDisable (m : Master) (w : Wick)
  /-- HEARTBEAT (R308): A running wick writes its heartbeat and restarts its loss timer. -/
  | heartbeat (w : Wick)
  /-- LOSS_TIMER_EXPIRY (R315): A wick's loss timer expires, it is declared lost, and a failover begins. -/
  | lossTimerExpiry
  /-- VOTER_DISAGREEMENT (R18): One arbiter voter disagrees, is reset to the majority and ARBITER_VOTE_SPLIT is logged. -/
  | voterDisagreement (voter : Fin 3) (w : Wick) (held : Fin 7)
  /-- LOCKSTEP_MISMATCH (R14): The cores of a pair disagree, and the wick stops every outside action. -/
  | lockstepMismatch (w : Wick)
  /-- SRAM_ECC_CORRECTION (R15): A single-bit SRAM error is corrected, written back and counted. -/
  | sramEccCorrection (w : Wick)
  /-- SRAM_DOUBLE_ERROR (R15): An uncorrectable SRAM error stops the wick as a lockstep mismatch. -/
  | sramDoubleError (w : Wick)
  /-- WICK_READY (R314): A warming wick finishes checkpoint restore and replay and reaches READY. -/
  | wickReady (w : Wick) (ms : BitVec 16)
  /-- START_DEADLINE_EXPIRY (R329): A warming wick misses its READY deadline, and the start fails. -/
  | startDeadlineExpiry (w : Wick) (invalid : Bool)
  /-- BOOT_STABLE (R329): A wick holds AUTHOR or MIRROR for 60 s without a stop, and BOOT_FAILS returns to zero. -/
  | bootStable (w : Wick)
  /-- CONTROLLER_CHECKPOINT (R313): The AUTHOR writes a controller checkpoint every CKPT_S or when the ring fills. -/
  | controllerCheckpoint
  /-- HANDOVER (R317): PILOT CMD HANDOVER, or an internal trigger, starts a planned handover. -/
  | handover (m : Master) (same : Option TestEnd := none)
  /-- CANCEL (R321): PILOT CMD CANCEL makes the incoming wick COLD, or answers ALREADY_DONE or NOT_FOUND. -/
  | cancel (m : Master)
  /-- HANDOVER_SWAP_INSTANT (R320): At the swap instant the MIRROR becomes AUTHOR and the outgoing wick leaves, or the swap is deferred. -/
  | handoverSwapInstant (ready : Bool)
  /-- OUTGOING_DOMAINS_OFF (R320): Within 50 ms of the swap the outgoing wick's domains go off and HANDOVER_END is raised. -/
  | outgoingDomainsOff
  /-- SELFTEST_NOW (R324): PILOT CMD SELFTEST_NOW starts a self-test on a COLD wick. -/
  | selftestNow (m : Master) (w : Wick)
  /-- SELFTEST_DUE (R324): A periodic, post-failover or retry self-test falls due on the standby. -/
  | selftestDue (w : Wick)
  /-- SELFTEST_REPORT (R325): A self-test ends with a health report that may clear NEEDS_BIST. -/
  | selftestReport (w : Wick) (steps : BitVec 5) (dryRan : Bool) (dur : BitVec 16)
  /-- RESTORE (R333): PILOT CMD RESTORE clears a wick's failure counts and makes it COLD for self-test. -/
  | restore (m : Master) (w : Wick)
  /-- FAULT_CLR (R335): PILOT CMD FAULT_CLR clears METER_CMP's lasting state and METER_FAULT. -/
  | faultClr (m : Master) (w : Wick)
  /-- COUNT_CLR (R335): PILOT CMD COUNT_CLR clears a wick's fault window counts. -/
  | countClr (m : Master) (w : Wick)
  /-- FAULT_WINDOW_HOUR (R326): An hour boundary slides each fault window and saves the counts. -/
  | faultWindowHour
  /-- SOAK_COMPLETE (R328): The revert conditions hold after SOAK_S, and a handover to the preferred wick starts. -/
  | soakComplete
  /-- RECOVERY_RETRY (R332): Every 600 s with no controller, a recovery start is tried on a barred wick. -/
  | recoveryRetry
  /-- WICK_EN_WRITE (R309): A write of WICK_EN enables a wick or disables it, and is refused while it is active. -/
  | wickEnWrite (m : Master) (a : Bool) (b : Bool)
  /-- FAB_ADDR_WRITE (R337): A write of FAB_ADDR or SEG_ID takes effect at once, with old LSA withdrawn and a new one originated. -/
  | fabAddrWrite (m : Master) (w : Wick) (addr : BitVec 16) (seg : BitVec 16)
  /-- HELLO_SEND (R342): Every HELLO_MS, or AIR_HELLO_S, a hello is sent on an enabled link. -/
  | helloSend (link : Fin 3)
  /-- HELLO_RECEIVED (R342): A hello is authenticated and judged, bringing a neighbour UP or counting a mismatch. -/
  | helloReceived (x : FabRx)
  /-- NEIGHBOUR_ABSENT (R343): Three hello intervals plus 100 ms pass, the neighbour is declared absent and routes are recomputed. -/
  | neighbourAbsent (same : List (Fin 3 × BitVec 64) := [])
  /-- PORT_CONFLICT_CLEAR (R342): 10 s with a single peer on a port ends its CONFLICT state. -/
  | portConflictClear (p : Fin 2)
  /-- LSA_ORIGINATE (R344): The module originates its LSA periodically every 900 s. -/
  | lsaOriginate
  /-- LSA_RECEIVED (R344): A newer LSA is stored and flooded, and address and segment conflicts are judged. -/
  | lsaReceived (x : FabRx)
  /-- LSA_EXPIRE (R344): An LSA not refreshed for 3,600 s is discarded. -/
  | lsaExpire
  /-- DB_REQUEST_RECEIVED (R344): A DB_REQUEST is answered with every LSA held. -/
  | dbRequestReceived (x : FabRx)
  /-- ROUTE_COMPUTE (R344): After a database change, both shortest-path trees are recomputed. -/
  | routeCompute
  /-- FABRIC_FORWARD (R345): A message for another module is re-protected and forwarded, or discarded with NO_ROUTE_CNT. -/
  | fabricForward (x : Option FabRx)
  /-- EVENT_FWD_SEND (R347): A newly written event record is forwarded to the collector within the window of 8. -/
  | eventFwdSend
  /-- EVENT_FWD_RESEND (R347): 10 s without EVENT_ACK, forwarding resends from the oldest unacknowledged record. -/
  | eventFwdResend
  /-- EVENT_FWD_RECEIVED (R347): A collector stores a forwarded record in its EVENTS FIFO and acknowledges. -/
  | eventFwdReceived (x : FabRx)
  /-- EVENT_ACK_RECEIVED (R347): An EVENT_ACK advances FWD_ACKED. -/
  | eventAckReceived (x : FabRx)
  /-- RPA_READ (R349): RPA_CMD READ sends a remote read request to the target module. -/
  | rpaRead (m : Master) (w : Wick)
  /-- RPA_WRITE (R349): RPA_CMD WRITE sends a remote write request to the target module. -/
  | rpaWrite (m : Master) (w : Wick)
  /-- RPA_OPEN_CHAL (R348): RPA_CMD OPEN_CHAL fetches the target's challenge for a remote session. -/
  | rpaOpenChal (m : Master) (w : Wick)
  /-- RPA_OPEN (R348): RPA_CMD OPEN opens a remote session at the target. -/
  | rpaOpen (m : Master) (w : Wick)
  /-- RPA_CLOSE (R348): RPA_CMD CLOSE ends the remote session. -/
  | rpaClose (m : Master) (w : Wick)
  /-- RPA_REQUEST_RECEIVED (R349): The target checks a remote request and executes it as master 0x6, then responds. -/
  | rpaRequestReceived (x : FabRx)
  /-- RPA_RESPONSE_RECEIVED (R349): The gateway module receives the response, sets RPA_STATUS DONE and raises RPA_DONE. -/
  | rpaResponseReceived (x : FabRx)
  /-- RPA_TIMEOUT (R349): RPA_TIMEOUT_MS passes without a response, and RPA_STATUS reads TIMEOUT. -/
  | rpaTimeout (same : Option FabRx := none)
  /-- RPA_IDLE_EXPIRY (R348): RPA_IDLE_S passes without an accepted request, and the remote session ends. -/
  | rpaIdleExpiry
  /-- PTP_MESSAGE_RECEIVED (R351): A PTP message is time-stamped and handled by the boundary clock and BMCA. -/
  | ptpMessageReceived (p : Fin 2) (msg : PtpMsg)
  /-- PTP_MESSAGE_SEND (R351): A PTP Sync, Announce or Delay_Req interval expires, and the message is sent. -/
  | ptpMessageSend (p : Fin 2) (k : PtpTx) (t3 : BitVec 64)
  /-- ANNOUNCE_RECEIPT_TIMEOUT (R351): announceReceiptTimeout expires, and port states are re-evaluated. -/
  | announceReceiptTimeout (p : Fin 2)
  /-- GNSS_PPS_EDGE (R352): A rising GNSS_PPS edge marks a second and advances validity. -/
  | gnssPpsEdge (us : Word) (ns : BitVec 15)
  /-- NMEA_SENTENCE (R352): An RMC or ZDA sentence is received and names the second of the last edge. -/
  | nmeaSentence (rmc : Bool) (sumOk : Bool) (utc : BitVec 48) (statusA : Bool)
  /-- GNSS_LOSS (R352): 3 s without an edge or agreement ends GNSS validity and raises GNSS_LOST. -/
  | gnssLoss
  /-- TIME_SOURCE_SELECT (R353): Once a second the time source is chosen, ERR_US updated and trust judged. -/
  | timeSourceSelect
  /-- EPOCH_S_WRITE (R350): A write of EPOCH_S steps segment time by the change. -/
  | epochSWrite (m : Master) (v : BitVec 48)
  /-- TIME_SET (R355): TIME_SET sets UTC and steps segment time, making HOST the source, or is refused. -/
  | timeSet (m : Master) (gained : Bool := false)
  /-- VIN_RISE (R365): VIN reaches 8.8 V, and PD0 is powered on the RC oscillator if it was off. -/
  | vinRise (mv : BitVec 16) (loopOk : Bool) (lidClosed : Bool)
  /-- MODULE_START (R365): After 100 ms of VIN, RESET_N and PFAIL_N conditions, a module start begins and domains are brought up. -/
  | moduleStart (lost : Option (Bool × Bool)) (resetHigh : Bool := true) (pfailHigh : Bool := true)
  /-- XTAL_OK (R364): The crystal settles and the base moves to it without a tick lost. -/
  | xtalOk
  /-- HOLD_READY (R361): VHOLD reaches 11.5 V, and the arbiter may warm a wick. -/
  | holdReady (mv : BitVec 16)
  /-- HOLD_WAIT_EXPIRY (R362): HOLD_WAIT_S passes without HOLD_READY, HOLDUP_ABSENT is logged and a wick is warmed. -/
  | holdWaitExpiry
  /-- RESET_N_LOW (R367): RESET_N low for 10 µs triggers the final save and holds domains off. -/
  | resetNLow
  /-- PFAIL_N_FALL (R368): PFAIL_N low for 2 µs triggers the final save. -/
  | pfailNFall
  /-- VIN_MONITOR_TRIP (R368): VIN below 8.5 V for 20 µs triggers the final save. -/
  | vinMonitorTrip (mv : BitVec 16)
  /-- FINAL_SAVE (R270): The sequencer starts, freezes metering, stops transmitters and switches VHOLD in. -/
  | finalSave
  /-- FINAL_SAVE_DONE (R270): The final commit word is written and every domain except PD0 is switched off. -/
  | finalSaveDone (valid : Bool)
  /-- VHOLD_EXHAUSTED (R369): VHOLD falls below VHOLD_MIN, and PD0 switches off. -/
  | vholdExhausted (mv : BitVec 16)
  /-- FR_KEY_WRITE (R371): A write of FR_KEY arms a factory reset for 1 s. -/
  | frKeyWrite (m : Master) (v : BitVec 16)
  /-- FACTORY_RESET (R371): PWR CMD FACTORY_RESET erases the stated areas and starts as at first power-up. -/
  | factoryReset (m : Master)
  /-- KO_OUT_WRITE (R374): A write of KO_OUT sets the contactor outputs, with wick writes masked by KO_HOST_MASK. -/
  | koOutWrite (m : Master) (v : BitVec 4)
  /-- KF_MISMATCH_TIMER (R375): An output and its feedback disagree or agree for KF_DELAY_MS, and KO_MISMATCH is set or cleared. -/
  | kfMismatchTimer (n : Fin 4)
  /-- GPIO_EDGE (R376): An enabled edge on a GPIO sets its GPIO_EVT bit. -/
  | gpioEdge (n : Fin 12) (rising : Bool)
  /-- GPIO_EVT_CLEAR (R376): A W1C write clears GPIO_EVT bits unless an edge occurs in the same cycle. -/
  | gpioEvtClear (m : Master) (v : Word) (same : Word)
  /-- TX_DATA_WRITE (R378): A byte written to TX_DATA enters the RS-485 transmit FIFO or sets TX_OVF. -/
  | txDataWrite (m : Master) (v : Byte)
  /-- UART_TX_EMPTY (R378): The transmit FIFO empties, DE falls and TX_DONE is raised. -/
  | uartTxEmpty
  /-- UART_BYTE_RECEIVED (R378): A byte is received and enters the receive FIFO or sets RX_OVF. -/
  | uartByteReceived (v : Byte) (parity : Bool) (frame : Bool)
  /-- RX_DATA_READ (R378): A read of RX_DATA removes the oldest received byte. -/
  | rxDataRead (m : Master)
  /-- UART_DISABLE (R378): Clearing UART_EN discards both FIFOs. -/
  | uartDisable (m : Master)
  /-- GO (R379): GO starts a CSB transfer or is refused. -/
  | go (m : Master)
  /-- CSB_TRANSFER_END (R379): A CSB transfer ends DONE, NACK or TIMEOUT, and CSB_DONE is raised. -/
  | csbTransferEnd (end_ : Fin 4) (data : List Byte)
  /-- VAUX_OVERCURRENT (R381): VAUX_OUT draws above 80 mA and is switched off with VAUX_FAULT. -/
  | vauxOvercurrent
  /-- VAULT_POWER_ON (R383): PD8 powers on and the vault regenerates and checks the root, with retries. -/
  | vaultPowerOn (good : Bool) (permille : BitVec 10) (lost : List (Fin 7))
  /-- ROOT_RETRY (R384): A failed root check power-cycles the PUF and tries again, up to NO_ROOT. -/
  | rootRetry (good : Bool)
  /-- VAULT_IMPORT (R391): A VAULT_IMPORT message is checked and replaces a key slot atomically. -/
  | vaultImport (ch : Fin 16) (kat : Bool)
  /-- VAULT_IDENTITY (R388): A VAULT_IDENTITY message returns DEVICE_ID's public key. -/
  | vaultIdentity (ch : Fin 16)
  /-- PUSH (R393): KEY_CMD PUSH sends KEY_NEXT to every joined lantern. -/
  | push (m : Master)
  /-- ROLL (R393): KEY_CMD ROLL arms the epoch roll for the next beacon boundary. -/
  | roll (m : Master) (force : Bool)
  /-- KEY_CANCEL (R394): KEY_CMD CANCEL disarms an armed roll. -/
  | keyCancel (m : Master)
  /-- ROLL_INSTANT (R394): At the roll instant the epoch advances and frame counters restart. -/
  | rollInstant
  /-- ROLL_GRACE_END (R394): 3 × BEACON_S after a roll, the previous key is no longer tried. -/
  | rollGraceEnd
  /-- REMASK (R397): Every REMASK_S each key register is re-masked. -/
  | remask
  /-- RNG_HEALTH_FAIL (R387): An entropy health test fails; RNG_OK clears and the source restarts. -/
  | rngHealthFail
  /-- LOOP_SAMPLE (R399): TLOOP_IN is sampled against TLOOP_OUT, and a mismatch count may break the loop. -/
  | loopSample (level : Bool)
  /-- LID_OPEN (R399): LID_N stays high for 5 ms, and the lid is open. -/
  | lidOpen
  /-- TAMPER_ARM_WRITE (R400): A write of TAMPER ENABLE, LOOP_EN or LID_EN arms or disarms, subject to state and master. -/
  | tamperArmWrite (m : Master) (en : Bool) (loop : Bool) (lid : Bool)
  /-- SN_KEY_WRITE (R401): A write of SN_KEY arms a host snuff for 1 s. -/
  | snKeyWrite (m : Master) (v : BitVec 16)
  /-- SN_CMD (R401): SN_CMD after the key fires the Snuffer line. -/
  | snCmd (m : Master)
  /-- SNUFFER_FIRE (R402): The Snuffer line fires, keys clear, sessions end and SNUFF_MARK is written. -/
  | snufferFire (causes : List (Fin 6))
  /-- SNUFF_OVERWRITE_DONE (R402): Helper data and sealed keys are overwritten and MARK_PENDING clears. -/
  | snuffOverwriteDone
  /-- PUF_REENROL_DONE (R402): The PUF is enrolled again with a new root and DEVICE_ID. -/
  | pufReenrolDone
  /-- BEGIN (R411): UPDATE CMD BEGIN erases staging and prepares to receive a package. -/
  | beginUpdate (m : Master)
  /-- STAGING_ERASE_DONE (R411): Staging erase completes, U_STATE becomes RECEIVING and OP_DONE is raised. -/
  | stagingEraseDone
  /-- STG_DATA_WRITE (R412): A word written to STG_DATA is buffered, and completed pages are written to staging. -/
  | stgDataWrite (m : Master) (k : Fin 128) (v : Word)
  /-- VERIFY (R413): UPDATE CMD VERIFY starts checking and applying the staged package. -/
  | verify (m : Master)
  /-- VERIFY_DONE (R413): Verification ends VERIFIED or VERIFY_FAIL. -/
  | verifyDone (norFails : Option (Fin 6))
  /-- UPDATE_ACTIVATE (R414): UPDATE CMD ACTIVATE writes TRIAL and starts the activation steps. -/
  | updateActivate (m : Master) (confirm : Bool)
  /-- ACT_STEP_PASS (R414): An activation step passes and the next step begins. -/
  | actStepPass (ok : Bool)
  /-- PROBATION_END (R415): PROBATION_S ends and the commit record is written COMMITTED. -/
  | probationEnd
  /-- UPDATE_ROLLBACK (R416): A rollback trigger writes ROLLED_BACK and returns the module to the old set. -/
  | updateRollback (reason : Fin 8) (boot : Bool)
  /-- UPDATE_ABORT (R417): UPDATE CMD ABORT discards staging or rolls back by state. -/
  | updateAbort (m : Master) (disable : Bool) (same : Bool)
  /-- METER_RELOAD (R419): A metering domain saves its state, loads METER_DSP and resumes within 200 ms. -/
  | meterReload (w : Wick) (ok : Bool)
  /-- SENSOR_CONDITION (R423): A temperature, humidity, light or rail reading starts or clears a condition and logs it. -/
  | sensorCondition (r : Reading)
  /-- EVENT_ENQUEUE (R426): A block raises an event, which is rate-limited and queued or dropped. -/
  | eventEnqueue (source : Byte) (code : BitVec 16) (params : List (BitVec 24))
  /-- EVENT_WRITE (R427): The MSS writes a queued event as a record in the log and offers it to EVENTS. -/
  | eventWrite
  /-- TOKEN_REFILL (R428): A token is added to an event code's bucket. -/
  | tokenRefill (code : BitVec 16)
  /-- RL_RATE_WRITE (R428): A write of RL_RATE sets a code's capacity and refills its bucket. -/
  | rlRateWrite (m : Master) (v : Byte)
  /-- R_SEQ_FETCH (R435): A write of R_SEQ fetches a log record into R_DATA. -/
  | rSeqFetch (m : Master) (seq : Word)
  /-- BIST_START (R431): BIST CMD START is checked and starts a run on a target. -/
  | bistStart (m : Master) (pll : Bool) (rival : Bool := false)
  /-- BIST_ABORT (R433): BIST CMD ABORT ends a run ABORTED. -/
  | bistAbort (m : Master) (disable : Bool) (same : Option (Bool × Word) := none)
  /-- BIST_CONDITION_CHECK (R431): Every 10 ms a run's conditions are checked, ending it CONDITIONS if they fail. -/
  | bistConditionCheck
  /-- BIST_RUN_END (R432): A run ends PASS or FAIL, with the result logged and DONE raised. -/
  | bistRunEnd (pass : Bool) (detail : Word)
  /-- FAIL_FLAGS_CLEAR (R436): A W1C write clears BIST FAIL_FLAGS bits. -/
  | failFlagsClear (m : Master) (v : Word) (same : Word := 0)
  /-- MSS_RESTART (R434): The MSS restarts, releases its locks, restores its settings and logs MSS_RESTART. -/
  | mssRestart (ecc : Bool)
  /-- HOSTLINK_DOMAIN_RESTART (R76): PD10 restarts after a fault, ending the secure session, emptying every stream FIFO and setting RESTARTED. -/
  | hostlinkDomainRestart
  /-- METER_DOMAIN_RUNNING (R246): A powered metering domain has its FLL locked and RUNNING follows ENABLE within 50 ms. -/
  | meterDomainRunning (w : Wick)
  /-- FLL_LOSS_OF_LOCK (R263): A metering domain's FLL loses lock, samples run on the free-running oscillator and FLL_UNLOCK is carried by every value. -/
  | fllLossOfLock (w : Wick)
  /-- FLL_RELOCK (R263): A metering domain's FLL regains lock and FLL_LOCK and accuracy return. -/
  | fllRelock (w : Wick)
  /-- PHY_STATUS_POLL (R452): Every 100 ms the module reads each port's PHY basic status register, stopping hellos on link-down and judging an absent PHY by hellos alone. -/
  | phyStatusPoll (p : Fin 2) (v : BitVec 16)
  /-- RNG_RESTART_DONE (R387): The restarted entropy source passes its health tests and RNG_OK returns to 1, so requests for randomness are served again. -/
  | rngRestartDone
  /-- LID_CLOSE (R399): LID_N falls, LID_CLOSED returns to 1, and a high shorter than 5 ms is counted in LID_BOUNCE_CNT. -/
  | lidClose
  /-- KF_INPUT_CHANGE (R375): A KF pad changes and, after 20 ms of debounce, KF_IN changes and the mismatch timer of that output restarts. -/
  | kfInputChange (n : Fin 4) (v : Bool)
  /-- REG_ANSWER_EXPIRY (R190): A kept positive or negative registry answer reaches 600 s and is dropped, so a later request for that NODE_ID queries the home module afresh. -/
  | regAnswerExpiry
  /-- REVERT_INHIBIT_WRITE (R328): Setting REVERT_INHIBIT stops a revert still in WARMING or MIRROR as a CANCEL would, and clearing it lets the revert conditions be judged afresh. -/
  | revertInhibitWrite (m : Master) (v : Bool)
  /-- VIO_LOSS (R360): VIO falls below 1.6 V, VIO_OK becomes 0, PFAIL_N is ignored and the VIO-referred pads stop working. -/
  | vioLoss (mv : BitVec 16)
  /-- VIO_RETURN (R360): VIO rises to at least 1.6 V, VIO_OK becomes 1 and PFAIL_N and the VIO-referred pads work again. -/
  | vioReturn (mv : BitVec 16)
deriving DecidableEq, Repr

end Sys2Proof
end

