-- ==== Sys2Proof/Decode.lean ====
section
/-! DEFINITION. The command a word of the table spells. No row of the table of operations and events gives bits: the block takes its commands as register accesses, host-link frames, radio frames and events, whose bytes their own rules decode. -/

namespace Sys2Proof

/-- The command that a word of some bits spells: none, whatever the word. DESIGN CHOICE (log entry 178). -/
def decodeTableWord (_nbits _w : Nat) : Option Instr := none

end Sys2Proof
end

