-- ==== Sys2Proof/Config.lean ====
section
/-! DEFINITION. The values the spec leaves open: opaque constants, applied to the data they depend on. Nothing in the package gives them a value. -/

namespace Sys2Proof

/-- A number drawn at random or left open, fresh for each value of the state's counter `fresh`. DESIGN CHOICE (log entry 8). -/
opaque Config.random : Nat → Nat

/-- The input of the i-th iteration of the counter-mode derivation of SP 800-108 for a label and a number of bits (R385): the spec gives neither
the width of the counter and of the length nor a context. DESIGN CHOICE (log entry 207). -/
opaque Config.kdfInput : Nat → List Byte → Nat → List Byte

/-- The image that a delta makes of an installed image, given by their SHA-256: its size and SHA-256, or none where the delta is
malformed (R410, R413). DESIGN CHOICE (log entry 155). -/
opaque Config.applyDelta : List Byte → List Byte → Option (Nat × List Byte)

/-- The version of the image of a part type that the module was made with: the spec gives none (R407). DESIGN CHOICE (log entry 176). -/
opaque Config.madeVersion : Nat → Nat

/-- The SHA-256 of that image. DESIGN CHOICE (log entry 176). -/
opaque Config.madeHash : Nat → List Byte

/-- The ROAM_FROM that a module without the node's key takes from the octets of a JOIN_REQUEST (R188): the spec encrypts it.
DESIGN CHOICE (log entry 75). -/
opaque Config.roamFrom : List Byte → Nat

/-- What a ratio to a budget of zero reads as: the spec states none (R130). DESIGN CHOICE (log entries 11, 99). -/
opaque Config.overZero : Nat → Nat

/-- The DC-blocking high-pass filter with its corner at 0.5 Hz (R242): its memory and a sample, the filtered sample and its memory. The spec gives
the corner alone. DESIGN CHOICE (log entry 205). -/
opaque Config.highPass : Nat → Int → Int × Nat

/-- The leaky trapezoidal integrator with its pole at 0.3 Hz and the 0.3 Hz high-pass behind it (R249), for 60 or 50 Hz. The spec gives the poles
and what it corrects to. DESIGN CHOICE (log entry 205). -/
opaque Config.integrator : Bool → Nat → Int → Int × Nat

/-- The fixed time shift of a phase trim in 0.001° at F_NOM (R250). The spec does not say how a part of a sample is taken.
DESIGN CHOICE (log entry 205). -/
opaque Config.timeShift : Bool → Int → Nat → Int → Int × Nat

/-- The Hilbert filter that delays a voltage by 90° (R252). The spec gives no coefficients. DESIGN CHOICE (log entry 205). -/
opaque Config.hilbert : Bool → Nat → Int → Int × Nat

/-- The n-th of the 2,048 samples that the resampler makes of a channel's samples in a window (R258). The spec gives no resampling filter.
DESIGN CHOICE (log entry 205). -/
opaque Config.resampled : List Int → Nat → Int

/-- The level of a lantern at an instant, where no schedule step and no host command has set one (R223). DEDUCED (log entry 80). -/
opaque Config.idleLevel : Nat → Nat → Nat

/-- Which of two nodes precedes a node where two shortest walks reach it (R219). DESIGN CHOICE (log entry 87). -/
opaque Config.walkTie : Nat → Nat → Bool

/-- Whether a value that is no whole number is shown as the next whole number above it: the spec states no rounding.
DESIGN CHOICE (log entry 10). -/
opaque Config.roundsUp : Nat → Nat → Bool

/-- The length in bytes of the journal record of a sequence number (R312, R336): the spec gives no record a layout.
DESIGN CHOICE (log entry 177). -/
opaque Config.recLen : Nat → Nat

/-- The bytes of the whole journalled state that the controller checkpoint at a sequence number holds (R313, R336): the spec gives them no
layout. DESIGN CHOICE (log entry 177). -/
opaque Config.ckptBytes : Nat → List Byte

end Sys2Proof
end

