-- ==== Sys2Proof/Machine/Field.lean ====
section
/-! DEFINITION. How a register field of the spec's register tables is named: where it stands, who may change it, what it holds at reset, what a write of a value outside its range stores. -/

namespace Sys2Proof.Machine

/-- The access codes of R9. -/
inductive Access where
  | ro
  | rw
  | wo
  | w1c
  | w1s
  | rc
  | sh
deriving DecidableEq, Repr

/-- What a write stores: the value, the nearer limit of a range, a fixed value for every value above a limit, the nearer
limit of a signed range, the value with its two low bits 0, or an ETHERTYPE under R357. -/
inductive StoreRule where
  | any
  | clamp (lo hi : Nat)
  | orElse (max dflt : Nat)
  | clampSigned (m : Nat)
  | aligned4
  | etherType
deriving DecidableEq, Repr

/-- One field of a register. `keep` says whether a start restores it (R44). -/
structure Field where
  page : Nat
  off : Nat
  lo : Nat
  width : Nat
  acc : Access
  reset : Nat
  store : StoreRule
  keep : Bool
deriving DecidableEq, Repr

/-- The number under which a field's value is held. -/
def Field.key (f : Field) : Nat := (f.page * 4096 + f.off) * 32 + f.lo

end Sys2Proof.Machine

namespace Sys2Proof

/-- The number of a wick: 0 for A, 1 for B. -/
def Wick.idx : Wick → Nat
  | .a => 0
  | .b => 1

/-- The physical page of a wick page position (R33). -/
def Wick.page (w : Wick) (pos : Nat) : Nat :=
  match w with
  | .a => 0x10 + pos
  | .b => 0x20 + pos

end Sys2Proof

namespace Sys2Proof.Machine

/-- The value a write of v stores in the field under the field's own limits. -/
def Field.stored (f : Field) (v : Nat) : Nat :=
  let v := v % 2 ^ f.width
  match f.store with
  | .any => v
  | .clamp lo hi => if v < lo then lo else if hi < v then hi else v
  | .orElse max dflt => if v ≤ max then v else dflt
  | .clampSigned m =>
      if v < 2 ^ (f.width - 1) then (if m < v then m else v)
      else if v < 2 ^ f.width - m then 2 ^ f.width - m else v
  | .aligned4 => v / 4 * 4
  | .etherType => if v < 0x0600 ∨ v = 0x88F7 then 0x88B5 else v

end Sys2Proof.Machine
end

