-- ==== Sys2Proof/Machine/FieldsCity.lean ====
section
/-! DEFINITION. The register fields of the pages ATTR, CAMPAIGN, PILOT, WCORE, FABRIC, TIME, each with its page, offset, lowest bit, width, access code, reset value, the value a write stores, and whether a start restores it (R44): the spec's register tables, row by row. A field of a wick page takes the wick; a field of an array takes its number. -/

namespace Sys2Proof.Machine

/-- R292: RW -/
def ATTR.PLANS_EN (w : Wick) : Field :=
  ⟨(w.page 9), 0x008, 1, 1, .rw, 0x0, .any, true⟩
/-- R292: RO -/
def ATTR.SESSION_ACTIVE (w : Wick) : Field :=
  ⟨(w.page 9), 0x00C, 8, 1, .ro, 0x0, .any, false⟩
/-- R292: RO -/
def ATTR.SOLVING (w : Wick) : Field :=
  ⟨(w.page 9), 0x00C, 9, 1, .ro, 0x0, .any, false⟩
/-- R292: WO -/
def ATTR.CMD (w : Wick) : Field :=
  ⟨(w.page 9), 0x040, 0, 2, .wo, 0x0, .any, false⟩
/-- R292: WO -/
def ATTR.PLAN_SEL (w : Wick) : Field :=
  ⟨(w.page 9), 0x040, 8, 4, .wo, 0x0, .any, false⟩
/-- R292: WO -/
def ATTR.BASE_ADDR (w : Wick) : Field :=
  ⟨(w.page 9), 0x040, 16, 16, .wo, 0x0, .any, false⟩
/-- R292: RO -/
def ATTR.CMD_STATUS (w : Wick) : Field :=
  ⟨(w.page 9), 0x044, 0, 4, .ro, 0x0, .any, false⟩
/-- R292: RW -/
def ATTR.START_TIME_LO (w : Wick) : Field :=
  ⟨(w.page 9), 0x048, 0, 32, .rw, 0x0, .any, true⟩
/-- R292: RW -/
def ATTR.START_TIME_HI (w : Wick) : Field :=
  ⟨(w.page 9), 0x04C, 0, 16, .rw, 0x0, .any, true⟩
/-- R292: RW -/
def ATTR.LEAD_S (w : Wick) : Field :=
  ⟨(w.page 9), 0x050, 0, 10, .rw, 0x3C, .clamp 10 600, true⟩
/-- R292: RW -/
def ATTR.DRIFT_PCT (w : Wick) : Field :=
  ⟨(w.page 9), 0x050, 16, 6, .rw, 0xA, .clamp 2 50, true⟩
/-- R292: RO -/
def ATTR.SESSION (w : Wick) : Field :=
  ⟨(w.page 9), 0x054, 0, 16, .ro, 0x0, .any, false⟩
/-- R292: RO -/
def ATTR.OUTCOME (w : Wick) : Field :=
  ⟨(w.page 9), 0x054, 16, 3, .ro, 0x0, .any, false⟩
/-- R292: RO -/
def ATTR.PLAN (w : Wick) : Field :=
  ⟨(w.page 9), 0x054, 24, 4, .ro, 0x0, .any, false⟩
/-- R292: RO -/
def ATTR.SEED (w : Wick) : Field :=
  ⟨(w.page 9), 0x058, 0, 32, .ro, 0x0, .any, false⟩
/-- R292: RO -/
def ATTR.S_LO (w : Wick) : Field :=
  ⟨(w.page 9), 0x05C, 0, 32, .ro, 0x0, .any, false⟩
/-- R292: RO -/
def ATTR.S_HI (w : Wick) : Field :=
  ⟨(w.page 9), 0x060, 0, 16, .ro, 0x0, .any, false⟩
/-- R292: RO -/
def ATTR.CHIP_MS (w : Wick) : Field :=
  ⟨(w.page 9), 0x060, 16, 16, .ro, 0x0, .any, false⟩
/-- R292: RO -/
def ATTR.CHIP_NOW (w : Wick) : Field :=
  ⟨(w.page 9), 0x064, 0, 11, .ro, 0x0, .any, false⟩
/-- R292: RO -/
def ATTR.N_PART (w : Wick) : Field :=
  ⟨(w.page 9), 0x064, 16, 10, .ro, 0x0, .any, false⟩
/-- R292: RO, x < 3 -/
def ATTR.N_EFF (w : Wick) (x : Nat) : Field :=
  ⟨(w.page 9), 0x068 + 4 * x, 0, 11, .ro, 0x0, .any, false⟩
/-- R292: RO, x < 3 -/
def ATTR.SIGMA_1S (w : Wick) (x : Nat) : Field :=
  ⟨(w.page 9), 0x068 + 4 * x, 16, 16, .ro, 0x0, .any, false⟩
/-- R292: RC -/
def ATTR.SKIP_CNT (w : Wick) : Field :=
  ⟨(w.page 9), 0x074, 0, 16, .rc, 0x0, .any, false⟩
/-- R292: RC -/
def ATTR.STRAY_CNT (w : Wick) : Field :=
  ⟨(w.page 9), 0x074, 16, 16, .rc, 0x0, .any, false⟩
/-- R292: RW. DEDUCED (log entry 193). -/
def ATTR.LANT_SEL (w : Wick) : Field :=
  ⟨(w.page 9), 0x080, 0, 16, .rw, 0x0, .any, true⟩
/-- R292: RO, k < 4 -/
def ATTR.LANT_RES (w : Wick) (k : Nat) : Field :=
  ⟨(w.page 9), 0x084 + 4 * k, 0, 32, .ro, 0x0, .any, false⟩
/-- R292: SH, k < 64 -/
def ATTR.PLAN_DATA (w : Wick) (k : Nat) : Field :=
  ⟨(w.page 9), 0x400 + 4 * k, 0, 32, .sh, 0x0, .any, true⟩

/-- Every page-specific field of the page ATTR, for reading a whole word (R39). -/
def ATTR.fields (w : Wick) : List Field :=
  [ATTR.PLANS_EN w, ATTR.SESSION_ACTIVE w, ATTR.SOLVING w, ATTR.CMD w, ATTR.PLAN_SEL w, ATTR.BASE_ADDR w, ATTR.CMD_STATUS w, ATTR.START_TIME_LO w, ATTR.START_TIME_HI w, ATTR.LEAD_S w, ATTR.DRIFT_PCT w, ATTR.SESSION w] ++
  [ATTR.OUTCOME w, ATTR.PLAN w, ATTR.SEED w, ATTR.S_LO w, ATTR.S_HI w, ATTR.CHIP_MS w, ATTR.CHIP_NOW w, ATTR.N_PART w, ATTR.SKIP_CNT w, ATTR.STRAY_CNT w, ATTR.LANT_SEL w] ++
  (List.range 3).map (ATTR.N_EFF w) ++
  (List.range 3).map (ATTR.SIGMA_1S w) ++
  (List.range 4).map (ATTR.LANT_RES w) ++
  (List.range 64).map (ATTR.PLAN_DATA w)

/-- R306: RO -/
def CAMPAIGN.LIB_BUSY (w : Wick) : Field :=
  ⟨(w.page 10), 0x00C, 8, 1, .ro, 0x0, .any, false⟩
/-- R306: RO -/
def CAMPAIGN.CAMP_ACTIVE (w : Wick) : Field :=
  ⟨(w.page 10), 0x00C, 9, 1, .ro, 0x0, .any, false⟩
/-- R306: RW -/
def CAMPAIGN.LIB_SLOT (w : Wick) : Field :=
  ⟨(w.page 10), 0x040, 0, 4, .rw, 0x0, .any, false⟩
/-- R306: WO -/
def CAMPAIGN.LIB_CMD (w : Wick) : Field :=
  ⟨(w.page 10), 0x044, 0, 2, .wo, 0x0, .any, false⟩
/-- R306: RO -/
def CAMPAIGN.LIB_STATUS (w : Wick) : Field :=
  ⟨(w.page 10), 0x048, 0, 2, .ro, 0x0, .any, false⟩
/-- R306: RO -/
def CAMPAIGN.LIB_REASON (w : Wick) : Field :=
  ⟨(w.page 10), 0x048, 4, 4, .ro, 0x0, .any, false⟩
/-- R306: RW -/
def CAMPAIGN.LIB_SIZE (w : Wick) : Field :=
  ⟨(w.page 10), 0x04C, 0, 21, .rw, 0x0, .any, false⟩
/-- R306: RW -/
def CAMPAIGN.LIB_VERSION (w : Wick) : Field :=
  ⟨(w.page 10), 0x050, 0, 32, .rw, 0x0, .any, false⟩
/-- R306: RW -/
def CAMPAIGN.LIB_HWCLASS (w : Wick) : Field :=
  ⟨(w.page 10), 0x054, 0, 32, .rw, 0x0, .any, false⟩
/-- R306: RW -/
def CAMPAIGN.LIB_WOFF (w : Wick) : Field :=
  ⟨(w.page 10), 0x058, 0, 20, .rw, 0x0, .aligned4, false⟩
/-- R306: RW, k < 8 -/
def CAMPAIGN.LIB_HASH (w : Wick) (k : Nat) : Field :=
  ⟨(w.page 10), 0x060 + 4 * k, 0, 32, .rw, 0x0, .any, false⟩
/-- R306: RO -/
def CAMPAIGN.STORED_MAP (w : Wick) : Field :=
  ⟨(w.page 10), 0x080, 1, 15, .ro, 0x0, .any, false⟩
/-- R306: RO -/
def CAMPAIGN.D_SIZE (w : Wick) : Field :=
  ⟨(w.page 10), 0x0A0, 0, 32, .ro, 0x0, .any, false⟩
/-- R306: RO -/
def CAMPAIGN.D_VERSION (w : Wick) : Field :=
  ⟨(w.page 10), 0x0A4, 0, 32, .ro, 0x0, .any, false⟩
/-- R306: RO -/
def CAMPAIGN.D_HWCLASS (w : Wick) : Field :=
  ⟨(w.page 10), 0x0A8, 0, 32, .ro, 0x0, .any, false⟩
/-- R306: RO, k < 8 -/
def CAMPAIGN.D_HASH (w : Wick) (k : Nat) : Field :=
  ⟨(w.page 10), 0x0C0 + 4 * k, 0, 32, .ro, 0x0, .any, false⟩
/-- R306: RW -/
def CAMPAIGN.C_SLOT (w : Wick) : Field :=
  ⟨(w.page 10), 0x100, 0, 4, .rw, 0x0, .any, true⟩
/-- R306: RW -/
def CAMPAIGN.C_MAX_ROUNDS (w : Wick) : Field :=
  ⟨(w.page 10), 0x100, 8, 5, .rw, 0x8, .clamp 1 31, true⟩
/-- R306: RW -/
def CAMPAIGN.C_TARGET (w : Wick) : Field :=
  ⟨(w.page 10), 0x104, 0, 16, .rw, 0xFFFF, .any, true⟩
/-- R306: RW -/
def CAMPAIGN.C_FROM_VER (w : Wick) : Field :=
  ⟨(w.page 10), 0x108, 0, 32, .rw, 0x0, .any, true⟩
/-- R306: RW -/
def CAMPAIGN.C_GAP_MS (w : Wick) : Field :=
  ⟨(w.page 10), 0x10C, 0, 13, .rw, 0xC8, .clamp 20 5000, true⟩
/-- R306: RW -/
def CAMPAIGN.C_QUERY_S (w : Wick) : Field :=
  ⟨(w.page 10), 0x10C, 16, 13, .rw, 0x12C, .clamp 60 3600, true⟩
/-- R306: RW -/
def CAMPAIGN.C_CONFIRM_S (w : Wick) : Field :=
  ⟨(w.page 10), 0x110, 0, 12, .rw, 0x258, .clamp 60 3600, true⟩
/-- R306: WO -/
def CAMPAIGN.C_CMD (w : Wick) : Field :=
  ⟨(w.page 10), 0x114, 0, 3, .wo, 0x0, .any, false⟩
/-- R306: RO -/
def CAMPAIGN.C_CMD_STATUS (w : Wick) : Field :=
  ⟨(w.page 10), 0x118, 0, 4, .ro, 0x0, .any, false⟩
/-- R306: RW -/
def CAMPAIGN.ACT_TIME_LO (w : Wick) : Field :=
  ⟨(w.page 10), 0x11C, 0, 32, .rw, 0x0, .any, true⟩
/-- R306: RW -/
def CAMPAIGN.ACT_TIME_HI (w : Wick) : Field :=
  ⟨(w.page 10), 0x120, 0, 16, .rw, 0x0, .any, true⟩
/-- R306: RO -/
def CAMPAIGN.CAMPAIGN_ID (w : Wick) : Field :=
  ⟨(w.page 10), 0x124, 0, 16, .ro, 0x0, .any, false⟩
/-- R306: RO -/
def CAMPAIGN.C_STATE (w : Wick) : Field :=
  ⟨(w.page 10), 0x124, 16, 4, .ro, 0x0, .any, false⟩
/-- R306: RO -/
def CAMPAIGN.ROUND (w : Wick) : Field :=
  ⟨(w.page 10), 0x124, 24, 5, .ro, 0x0, .any, false⟩
/-- R306: RO -/
def CAMPAIGN.N_TARGETS (w : Wick) : Field :=
  ⟨(w.page 10), 0x128, 0, 13, .ro, 0x0, .any, false⟩
/-- R306: RO -/
def CAMPAIGN.N_COMPLETE (w : Wick) : Field :=
  ⟨(w.page 10), 0x128, 16, 13, .ro, 0x0, .any, false⟩
/-- R306: RO -/
def CAMPAIGN.N_ACTIVATED (w : Wick) : Field :=
  ⟨(w.page 10), 0x12C, 0, 13, .ro, 0x0, .any, false⟩
/-- R306: RO -/
def CAMPAIGN.N_ROLLED_BACK (w : Wick) : Field :=
  ⟨(w.page 10), 0x12C, 16, 13, .ro, 0x0, .any, false⟩
/-- R306: RO -/
def CAMPAIGN.N_REFUSED (w : Wick) : Field :=
  ⟨(w.page 10), 0x130, 0, 13, .ro, 0x0, .any, false⟩
/-- R306: RO -/
def CAMPAIGN.N_SILENT (w : Wick) : Field :=
  ⟨(w.page 10), 0x130, 16, 13, .ro, 0x0, .any, false⟩
/-- R306: RO -/
def CAMPAIGN.NEEDED (w : Wick) : Field :=
  ⟨(w.page 10), 0x134, 0, 13, .ro, 0x0, .any, false⟩
/-- R306: RO -/
def CAMPAIGN.NEXT_BLOCK (w : Wick) : Field :=
  ⟨(w.page 10), 0x134, 16, 13, .ro, 0x0, .any, false⟩
/-- R306: RO -/
def CAMPAIGN.BLOCKS_SENT (w : Wick) : Field :=
  ⟨(w.page 10), 0x138, 0, 32, .ro, 0x0, .any, false⟩
/-- R306: RO -/
def CAMPAIGN.AIR_MS (w : Wick) : Field :=
  ⟨(w.page 10), 0x13C, 0, 32, .ro, 0x0, .any, false⟩
/-- R306: RC -/
def CAMPAIGN.LEDGER_WAIT_CNT (w : Wick) : Field :=
  ⟨(w.page 10), 0x140, 0, 16, .rc, 0x0, .any, false⟩
/-- R306: RW. DEDUCED (log entry 193). -/
def CAMPAIGN.LANT_SEL (w : Wick) : Field :=
  ⟨(w.page 10), 0x180, 0, 16, .rw, 0x0, .any, true⟩
/-- R306: RO -/
def CAMPAIGN.L_PHASE (w : Wick) : Field :=
  ⟨(w.page 10), 0x184, 0, 4, .ro, 0x0, .any, false⟩
/-- R306: RO -/
def CAMPAIGN.L_TARGET (w : Wick) : Field :=
  ⟨(w.page 10), 0x184, 4, 1, .ro, 0x0, .any, false⟩
/-- R306: RO -/
def CAMPAIGN.L_CODE (w : Wick) : Field :=
  ⟨(w.page 10), 0x184, 8, 8, .ro, 0x0, .any, false⟩
/-- R306: RO -/
def CAMPAIGN.L_MISSING (w : Wick) : Field :=
  ⟨(w.page 10), 0x184, 16, 13, .ro, 0x0, .any, false⟩
/-- R306: RO -/
def CAMPAIGN.L_LAST (w : Wick) : Field :=
  ⟨(w.page 10), 0x188, 0, 32, .ro, 0x0, .any, false⟩
/-- R306: RO -/
def CAMPAIGN.L_RUN_VER (w : Wick) : Field :=
  ⟨(w.page 10), 0x18C, 0, 32, .ro, 0x0, .any, false⟩
/-- R306: WO, k < 128 -/
def CAMPAIGN.LIB_DATA (w : Wick) (k : Nat) : Field :=
  ⟨(w.page 10), 0x400 + 4 * k, 0, 32, .wo, 0x0, .any, false⟩

/-- Every page-specific field of the page CAMPAIGN, for reading a whole word (R39). -/
def CAMPAIGN.fields (w : Wick) : List Field :=
  [CAMPAIGN.LIB_BUSY w, CAMPAIGN.CAMP_ACTIVE w, CAMPAIGN.LIB_SLOT w, CAMPAIGN.LIB_CMD w, CAMPAIGN.LIB_STATUS w, CAMPAIGN.LIB_REASON w, CAMPAIGN.LIB_SIZE w, CAMPAIGN.LIB_VERSION w, CAMPAIGN.LIB_HWCLASS w, CAMPAIGN.LIB_WOFF w, CAMPAIGN.STORED_MAP w, CAMPAIGN.D_SIZE w] ++
  [CAMPAIGN.D_VERSION w, CAMPAIGN.D_HWCLASS w, CAMPAIGN.C_SLOT w, CAMPAIGN.C_MAX_ROUNDS w, CAMPAIGN.C_TARGET w, CAMPAIGN.C_FROM_VER w, CAMPAIGN.C_GAP_MS w, CAMPAIGN.C_QUERY_S w, CAMPAIGN.C_CONFIRM_S w, CAMPAIGN.C_CMD w, CAMPAIGN.C_CMD_STATUS w, CAMPAIGN.ACT_TIME_LO w] ++
  [CAMPAIGN.ACT_TIME_HI w, CAMPAIGN.CAMPAIGN_ID w, CAMPAIGN.C_STATE w, CAMPAIGN.ROUND w, CAMPAIGN.N_TARGETS w, CAMPAIGN.N_COMPLETE w, CAMPAIGN.N_ACTIVATED w, CAMPAIGN.N_ROLLED_BACK w, CAMPAIGN.N_REFUSED w, CAMPAIGN.N_SILENT w, CAMPAIGN.NEEDED w, CAMPAIGN.NEXT_BLOCK w] ++
  [CAMPAIGN.BLOCKS_SENT w, CAMPAIGN.AIR_MS w, CAMPAIGN.LEDGER_WAIT_CNT w, CAMPAIGN.LANT_SEL w, CAMPAIGN.L_PHASE w, CAMPAIGN.L_TARGET w, CAMPAIGN.L_CODE w, CAMPAIGN.L_MISSING w, CAMPAIGN.L_LAST w, CAMPAIGN.L_RUN_VER w] ++
  (List.range 8).map (CAMPAIGN.LIB_HASH w) ++
  (List.range 8).map (CAMPAIGN.D_HASH w) ++
  (List.range 128).map (CAMPAIGN.LIB_DATA w)

/-- R335: RO -/
def PILOT.AUTHOR_PRESENT : Field :=
  ⟨0, 0x00C, 8, 1, .ro, 0x0, .any, false⟩
/-- R335: RO -/
def PILOT.HO_BUSY : Field :=
  ⟨0, 0x00C, 9, 1, .ro, 0x0, .any, false⟩
/-- R335: RO -/
def PILOT.ROLE_A : Field :=
  ⟨0, 0x040, 0, 3, .ro, 0x0, .any, false⟩
/-- R335: RO -/
def PILOT.ROLE_B : Field :=
  ⟨0, 0x040, 4, 3, .ro, 0x0, .any, false⟩
/-- R335: RO -/
def PILOT.CONTROLLER : Field :=
  ⟨0, 0x040, 8, 2, .ro, 0x0, .any, false⟩
/-- R335: RO -/
def PILOT.HO_STATE : Field :=
  ⟨0, 0x040, 12, 3, .ro, 0x0, .any, false⟩
/-- R335: RO -/
def PILOT.HO_CAUSE : Field :=
  ⟨0, 0x040, 16, 3, .ro, 0x0, .any, false⟩
/-- R335: RO -/
def PILOT.HO_DEFERS : Field :=
  ⟨0, 0x040, 20, 2, .ro, 0x0, .any, false⟩
/-- R335: RW -/
def PILOT.PREF_WICK : Field :=
  ⟨0, 0x044, 0, 1, .rw, 0x0, .any, true⟩
/-- R335: RW -/
def PILOT.REVERT_INHIBIT : Field :=
  ⟨0, 0x044, 1, 1, .rw, 0x0, .any, true⟩
/-- R335: RW -/
def PILOT.WICK_EN_A : Field :=
  ⟨0, 0x044, 2, 1, .rw, 0x1, .any, true⟩
/-- R335: RW -/
def PILOT.WICK_EN_B : Field :=
  ⟨0, 0x044, 3, 1, .rw, 0x1, .any, true⟩
/-- R335: RW -/
def PILOT.MIRROR_BEACONS : Field :=
  ⟨0, 0x044, 8, 4, .rw, 0x2, .clamp 2 8, true⟩
/-- R335: RW -/
def PILOT.SELFTEST_H : Field :=
  ⟨0, 0x044, 16, 5, .rw, 0x6, .clamp 1 24, true⟩
/-- R335: RW -/
def PILOT.SOAK_S : Field :=
  ⟨0, 0x048, 0, 12, .rw, 0x258, .clamp 60 3600, true⟩
/-- R335: RW -/
def PILOT.CKPT_S : Field :=
  ⟨0, 0x048, 16, 6, .rw, 0xA, .clamp 2 60, true⟩
/-- R335: WO -/
def PILOT.CMD : Field :=
  ⟨0, 0x04C, 0, 3, .wo, 0x0, .any, false⟩
/-- R335: WO -/
def PILOT.CMD_WICK : Field :=
  ⟨0, 0x04C, 8, 1, .wo, 0x0, .any, false⟩
/-- R335: RO -/
def PILOT.CMD_STATUS : Field :=
  ⟨0, 0x050, 0, 3, .ro, 0x0, .any, false⟩
/-- R335: RO -/
def PILOT.SWAP_AT_LO : Field :=
  ⟨0, 0x054, 0, 32, .ro, 0x0, .any, false⟩
/-- R335: RO -/
def PILOT.SWAP_AT_HI : Field :=
  ⟨0, 0x058, 0, 16, .ro, 0x0, .any, false⟩
/-- R335: RW -/
def PILOT.TH_ECC : Field :=
  ⟨0, 0x05C, 0, 8, .rw, 0x10, .any, true⟩
/-- R335: RW -/
def PILOT.TH_LOCKSTEP : Field :=
  ⟨0, 0x05C, 8, 8, .rw, 0x2, .any, true⟩
/-- R335: RW -/
def PILOT.TH_PLL : Field :=
  ⟨0, 0x05C, 16, 8, .rw, 0x8, .any, true⟩
/-- R335: RW -/
def PILOT.TH_HB : Field :=
  ⟨0, 0x05C, 24, 8, .rw, 0x2, .any, true⟩
/-- R335: RW -/
def PILOT.TH_METER : Field :=
  ⟨0, 0x060, 0, 8, .rw, 0x3, .any, true⟩
/-- R335: RW -/
def PILOT.CMP_FLOOR_W : Field :=
  ⟨0, 0x060, 16, 10, .rw, 0x14, .clamp 1 1000, true⟩
/-- R335: RC -/
def PILOT.FAILOVER_CNT : Field :=
  ⟨0, 0x064, 0, 16, .rc, 0x0, .any, false⟩
/-- R335: RC -/
def PILOT.HANDOVER_CNT : Field :=
  ⟨0, 0x064, 16, 16, .rc, 0x0, .any, false⟩
/-- R335: RO -/
def PILOT.LAST_SILENCE_MS : Field :=
  ⟨0, 0x068, 0, 16, .ro, 0x0, .any, false⟩
/-- R335: RO, v < 2 -/
def PILOT.ELIGIBILITY (v : Nat) : Field :=
  ⟨0, 0x080 + 32 * v, 0, 2, .ro, 0x0, .any, false⟩
/-- R335: RO, v < 2 -/
def PILOT.NEEDS_BIST (v : Nat) : Field :=
  ⟨0, 0x080 + 32 * v, 2, 1, .ro, 0x0, .any, false⟩
/-- R335: RO, v < 2 -/
def PILOT.SELFTEST_RUN (v : Nat) : Field :=
  ⟨0, 0x080 + 32 * v, 3, 1, .ro, 0x0, .any, false⟩
/-- R335: RO, v < 2 -/
def PILOT.METER_FAULT (v : Nat) : Field :=
  ⟨0, 0x080 + 32 * v, 4, 1, .ro, 0x0, .any, false⟩
/-- R335: RO, v < 2 -/
def PILOT.LASTING (v : Nat) : Field :=
  ⟨0, 0x080 + 32 * v, 8, 5, .ro, 0x0, .any, false⟩
/-- R335: RO, v < 2 -/
def PILOT.BOOT_FAILS (v : Nat) : Field :=
  ⟨0, 0x080 + 32 * v, 16, 4, .ro, 0x0, .any, false⟩
/-- R335: RO, v < 2 -/
def PILOT.SNOW_FAILS (v : Nat) : Field :=
  ⟨0, 0x080 + 32 * v, 20, 4, .ro, 0x0, .any, false⟩
/-- R335: RO, v < 2 -/
def PILOT.REASON (v : Nat) : Field :=
  ⟨0, 0x080 + 32 * v, 24, 4, .ro, 0x0, .any, false⟩
/-- R335: RO, v < 2 -/
def PILOT.W_ECC (v : Nat) : Field :=
  ⟨0, 0x084 + 32 * v, 0, 8, .ro, 0x0, .any, false⟩
/-- R335: RO, v < 2 -/
def PILOT.W_LOCKSTEP (v : Nat) : Field :=
  ⟨0, 0x084 + 32 * v, 8, 8, .ro, 0x0, .any, false⟩
/-- R335: RO, v < 2 -/
def PILOT.W_PLL (v : Nat) : Field :=
  ⟨0, 0x084 + 32 * v, 16, 8, .ro, 0x0, .any, false⟩
/-- R335: RO, v < 2 -/
def PILOT.W_HB (v : Nat) : Field :=
  ⟨0, 0x084 + 32 * v, 24, 8, .ro, 0x0, .any, false⟩
/-- R335: RO, v < 2 -/
def PILOT.W_METER (v : Nat) : Field :=
  ⟨0, 0x088 + 32 * v, 0, 8, .ro, 0x0, .any, false⟩
/-- R335: RO, v < 2 -/
def PILOT.REF_DEV_PPM (v : Nat) : Field :=
  ⟨0, 0x088 + 32 * v, 16, 16, .ro, 0x0, .any, false⟩
/-- R335: RO, v < 2 -/
def PILOT.CMP_DEV (v : Nat) : Field :=
  ⟨0, 0x08C + 32 * v, 0, 16, .ro, 0x0, .any, false⟩
/-- R335: RO, v < 2 -/
def PILOT.HR_LBIST (v : Nat) : Field :=
  ⟨0, 0x090 + 32 * v, 0, 1, .ro, 0x0, .any, false⟩
/-- R335: RO, v < 2 -/
def PILOT.HR_MBIST (v : Nat) : Field :=
  ⟨0, 0x090 + 32 * v, 1, 1, .ro, 0x0, .any, false⟩
/-- R335: RO, v < 2 -/
def PILOT.HR_DRYBOOT (v : Nat) : Field :=
  ⟨0, 0x090 + 32 * v, 2, 1, .ro, 0x0, .any, false⟩
/-- R335: RO, v < 2 -/
def PILOT.HR_DIGEST (v : Nat) : Field :=
  ⟨0, 0x090 + 32 * v, 3, 1, .ro, 0x0, .any, false⟩
/-- R335: RO, v < 2 -/
def PILOT.HR_RADIO (v : Nat) : Field :=
  ⟨0, 0x090 + 32 * v, 4, 1, .ro, 0x0, .any, false⟩
/-- R335: RO, v < 2 -/
def PILOT.HR_CODE (v : Nat) : Field :=
  ⟨0, 0x090 + 32 * v, 8, 2, .ro, 0x0, .any, false⟩
/-- R335: RO, v < 2 -/
def PILOT.HR_DUR (v : Nat) : Field :=
  ⟨0, 0x090 + 32 * v, 16, 16, .ro, 0x0, .any, false⟩
/-- R335: RO, v < 2 -/
def PILOT.HR_TIME (v : Nat) : Field :=
  ⟨0, 0x094 + 32 * v, 0, 32, .ro, 0x0, .any, false⟩
/-- R335: RO, v < 2 -/
def PILOT.NEXT_TEST (v : Nat) : Field :=
  ⟨0, 0x098 + 32 * v, 0, 32, .ro, 0x0, .any, false⟩
/-- R335: RO, v < 2 -/
def PILOT.ROLE_SINCE (v : Nat) : Field :=
  ⟨0, 0x09C + 32 * v, 0, 32, .ro, 0x0, .any, false⟩

/-- Every page-specific field of the page PILOT, for reading a whole word (R39). -/
def PILOT.fields : List Field :=
  [PILOT.AUTHOR_PRESENT, PILOT.HO_BUSY, PILOT.ROLE_A, PILOT.ROLE_B, PILOT.CONTROLLER, PILOT.HO_STATE, PILOT.HO_CAUSE, PILOT.HO_DEFERS, PILOT.PREF_WICK, PILOT.REVERT_INHIBIT, PILOT.WICK_EN_A, PILOT.WICK_EN_B] ++
  [PILOT.MIRROR_BEACONS, PILOT.SELFTEST_H, PILOT.SOAK_S, PILOT.CKPT_S, PILOT.CMD, PILOT.CMD_WICK, PILOT.CMD_STATUS, PILOT.SWAP_AT_LO, PILOT.SWAP_AT_HI, PILOT.TH_ECC, PILOT.TH_LOCKSTEP, PILOT.TH_PLL] ++
  [PILOT.TH_HB, PILOT.TH_METER, PILOT.CMP_FLOOR_W, PILOT.FAILOVER_CNT, PILOT.HANDOVER_CNT, PILOT.LAST_SILENCE_MS] ++
  (List.range 2).map (PILOT.ELIGIBILITY) ++
  (List.range 2).map (PILOT.NEEDS_BIST) ++
  (List.range 2).map (PILOT.SELFTEST_RUN) ++
  (List.range 2).map (PILOT.METER_FAULT) ++
  (List.range 2).map (PILOT.LASTING) ++
  (List.range 2).map (PILOT.BOOT_FAILS) ++
  (List.range 2).map (PILOT.SNOW_FAILS) ++
  (List.range 2).map (PILOT.REASON) ++
  (List.range 2).map (PILOT.W_ECC) ++
  (List.range 2).map (PILOT.W_LOCKSTEP) ++
  (List.range 2).map (PILOT.W_PLL) ++
  (List.range 2).map (PILOT.W_HB) ++
  (List.range 2).map (PILOT.W_METER) ++
  (List.range 2).map (PILOT.REF_DEV_PPM) ++
  (List.range 2).map (PILOT.CMP_DEV) ++
  (List.range 2).map (PILOT.HR_LBIST) ++
  (List.range 2).map (PILOT.HR_MBIST) ++
  (List.range 2).map (PILOT.HR_DRYBOOT) ++
  (List.range 2).map (PILOT.HR_DIGEST) ++
  (List.range 2).map (PILOT.HR_RADIO) ++
  (List.range 2).map (PILOT.HR_CODE) ++
  (List.range 2).map (PILOT.HR_DUR) ++
  (List.range 2).map (PILOT.HR_TIME) ++
  (List.range 2).map (PILOT.NEXT_TEST) ++
  (List.range 2).map (PILOT.ROLE_SINCE)

/-- R336: RO -/
def WCORE.RECOVERY (w : Wick) : Field :=
  ⟨(w.page 0), 0x00C, 8, 1, .ro, 0x0, .any, false⟩
/-- R336: RO -/
def WCORE.IMAGE_SLOT (w : Wick) : Field :=
  ⟨(w.page 0), 0x00C, 9, 1, .ro, 0x0, .any, false⟩
/-- R336: RO -/
def WCORE.FW_VER (w : Wick) : Field :=
  ⟨(w.page 0), 0x040, 0, 32, .ro, 0x0, .any, false⟩
/-- R336: RO -/
def WCORE.OWN_ROLE (w : Wick) : Field :=
  ⟨(w.page 0), 0x044, 0, 3, .ro, 0x0, .any, false⟩
/-- R336: RO -/
def WCORE.START_KIND (w : Wick) : Field :=
  ⟨(w.page 0), 0x044, 4, 3, .ro, 0x0, .any, false⟩
/-- R336: RO -/
def WCORE.UPTIME_S (w : Wick) : Field :=
  ⟨(w.page 0), 0x048, 0, 32, .ro, 0x0, .any, false⟩
/-- R336: RO -/
def WCORE.JSEQ_HEAD_LO (w : Wick) : Field :=
  ⟨(w.page 0), 0x04C, 0, 32, .ro, 0x0, .any, false⟩
/-- R336: RO -/
def WCORE.JSEQ_HEAD_HI (w : Wick) : Field :=
  ⟨(w.page 0), 0x050, 0, 32, .ro, 0x0, .any, false⟩
/-- R336: RO -/
def WCORE.CKPT_JSEQ_LO (w : Wick) : Field :=
  ⟨(w.page 0), 0x054, 0, 32, .ro, 0x0, .any, false⟩
/-- R336: RO -/
def WCORE.CKPT_JSEQ_HI (w : Wick) : Field :=
  ⟨(w.page 0), 0x058, 0, 32, .ro, 0x0, .any, false⟩
/-- R336: RO -/
def WCORE.CKPT_AGE_MS (w : Wick) : Field :=
  ⟨(w.page 0), 0x05C, 0, 32, .ro, 0x0, .any, false⟩
/-- R336: RO -/
def WCORE.RING_KIB (w : Wick) : Field :=
  ⟨(w.page 0), 0x060, 0, 11, .ro, 0x0, .any, false⟩
/-- R336: RO -/
def WCORE.CKPT_KIB (w : Wick) : Field :=
  ⟨(w.page 0), 0x060, 16, 10, .ro, 0x0, .any, false⟩
/-- R336: RO -/
def WCORE.REPLAY_RECS (w : Wick) : Field :=
  ⟨(w.page 0), 0x064, 0, 16, .ro, 0x0, .any, false⟩
/-- R336: RO -/
def WCORE.REPLAY_MS (w : Wick) : Field :=
  ⟨(w.page 0), 0x064, 16, 16, .ro, 0x0, .any, false⟩
/-- R336: RC -/
def WCORE.COPY_SENT (w : Wick) : Field :=
  ⟨(w.page 0), 0x068, 0, 16, .rc, 0x0, .any, false⟩
/-- R336: RC -/
def WCORE.COPY_SKIPPED (w : Wick) : Field :=
  ⟨(w.page 0), 0x068, 16, 16, .rc, 0x0, .any, false⟩
/-- R336: RC -/
def WCORE.ECC_CORR_CNT (w : Wick) : Field :=
  ⟨(w.page 0), 0x06C, 0, 16, .rc, 0x0, .any, false⟩
/-- R336: RC -/
def WCORE.JRNL_WAIT_CNT (w : Wick) : Field :=
  ⟨(w.page 0), 0x06C, 16, 16, .rc, 0x0, .any, false⟩

/-- Every page-specific field of the page WCORE, for reading a whole word (R39). -/
def WCORE.fields (w : Wick) : List Field :=
  [WCORE.RECOVERY w, WCORE.IMAGE_SLOT w, WCORE.FW_VER w, WCORE.OWN_ROLE w, WCORE.START_KIND w, WCORE.UPTIME_S w, WCORE.JSEQ_HEAD_LO w, WCORE.JSEQ_HEAD_HI w, WCORE.CKPT_JSEQ_LO w, WCORE.CKPT_JSEQ_HI w, WCORE.CKPT_AGE_MS w, WCORE.RING_KIB w] ++
  [WCORE.CKPT_KIB w, WCORE.REPLAY_RECS w, WCORE.REPLAY_MS w, WCORE.COPY_SENT w, WCORE.COPY_SKIPPED w, WCORE.ECC_CORR_CNT w, WCORE.JRNL_WAIT_CNT w]

/-- R357: RW -/
def FABRIC.P0_EN (w : Wick) : Field :=
  ⟨(w.page 11), 0x008, 1, 1, .rw, 0x0, .any, true⟩
/-- R357: RW -/
def FABRIC.P1_EN (w : Wick) : Field :=
  ⟨(w.page 11), 0x008, 2, 1, .rw, 0x0, .any, true⟩
/-- R357: RW -/
def FABRIC.AIR_EN (w : Wick) : Field :=
  ⟨(w.page 11), 0x008, 3, 1, .rw, 0x0, .any, true⟩
/-- R357: RW -/
def FABRIC.RPA_EN (w : Wick) : Field :=
  ⟨(w.page 11), 0x008, 4, 1, .rw, 0x0, .any, true⟩
/-- R357: RW -/
def FABRIC.EVT_FWD_EN (w : Wick) : Field :=
  ⟨(w.page 11), 0x008, 5, 1, .rw, 0x0, .any, true⟩
/-- R357: RW -/
def FABRIC.EVT_COLLECT (w : Wick) : Field :=
  ⟨(w.page 11), 0x008, 6, 1, .rw, 0x0, .any, true⟩
/-- R357: RO -/
def FABRIC.FAB_UP (w : Wick) : Field :=
  ⟨(w.page 11), 0x00C, 8, 1, .ro, 0x0, .any, false⟩
/-- R357: RO -/
def FABRIC.ADDR_CONFLICT (w : Wick) : Field :=
  ⟨(w.page 11), 0x00C, 9, 1, .ro, 0x0, .any, false⟩
/-- R357: RO -/
def FABRIC.SEG_CONFLICT (w : Wick) : Field :=
  ⟨(w.page 11), 0x00C, 10, 1, .ro, 0x0, .any, false⟩
/-- R357: RO -/
def FABRIC.NO_KEY (w : Wick) : Field :=
  ⟨(w.page 11), 0x00C, 11, 1, .ro, 0x0, .any, false⟩
/-- R357: RW -/
def FABRIC.FAB_ADDR (w : Wick) : Field :=
  ⟨(w.page 11), 0x040, 0, 16, .rw, 0x0, .any, true⟩
/-- R357: RW -/
def FABRIC.SEG_ID (w : Wick) : Field :=
  ⟨(w.page 11), 0x040, 16, 16, .rw, 0xFFFF, .any, true⟩
/-- R357: RW -/
def FABRIC.ETHERTYPE (w : Wick) : Field :=
  ⟨(w.page 11), 0x044, 0, 16, .rw, 0x88B5, .etherType, true⟩
/-- R357: RW -/
def FABRIC.HELLO_MS (w : Wick) : Field :=
  ⟨(w.page 11), 0x048, 0, 14, .rw, 0x3E8, .clamp 100 10000, true⟩
/-- R357: RW -/
def FABRIC.AIR_HELLO_S (w : Wick) : Field :=
  ⟨(w.page 11), 0x048, 16, 10, .rw, 0x3C, .clamp 10 600, true⟩
/-- R357: RW -/
def FABRIC.AIR_COST (w : Wick) : Field :=
  ⟨(w.page 11), 0x04C, 0, 8, .rw, 0x14, .clamp 1 255, true⟩
/-- R357: RW -/
def FABRIC.AIR_RSSI_MAX (w : Wick) : Field :=
  ⟨(w.page 11), 0x04C, 8, 8, .rw, 0x64, .any, true⟩
/-- R357: RW -/
def FABRIC.EVT_FWD_ADDR (w : Wick) : Field :=
  ⟨(w.page 11), 0x04C, 16, 16, .rw, 0x0, .any, true⟩
/-- R357: RO. DESIGN CHOICE (log entry 3). -/
def FABRIC.MOD_UID_LO (w : Wick) : Field :=
  ⟨(w.page 11), 0x050, 0, 32, .ro, 0x0, .any, true⟩
/-- R357: RO. DESIGN CHOICE (log entry 3). -/
def FABRIC.MOD_UID_HI (w : Wick) : Field :=
  ⟨(w.page 11), 0x054, 0, 32, .ro, 0x0, .any, true⟩
/-- R357: RO -/
def FABRIC.P0_STATE (w : Wick) : Field :=
  ⟨(w.page 11), 0x058, 0, 2, .ro, 0x0, .any, false⟩
/-- R357: RO -/
def FABRIC.P1_STATE (w : Wick) : Field :=
  ⟨(w.page 11), 0x058, 2, 2, .ro, 0x0, .any, false⟩
/-- R357: RO -/
def FABRIC.N_AIR (w : Wick) : Field :=
  ⟨(w.page 11), 0x058, 4, 5, .ro, 0x0, .any, false⟩
/-- R357: RO -/
def FABRIC.N_MODULES (w : Wick) : Field :=
  ⟨(w.page 11), 0x058, 16, 11, .ro, 0x0, .any, false⟩
/-- R357: RO -/
def FABRIC.P0_PEER (w : Wick) : Field :=
  ⟨(w.page 11), 0x05C, 0, 16, .ro, 0x0, .any, false⟩
/-- R357: RO -/
def FABRIC.P1_PEER (w : Wick) : Field :=
  ⟨(w.page 11), 0x05C, 16, 16, .ro, 0x0, .any, false⟩
/-- R357: RC -/
def FABRIC.RX_AUTH_ERR (w : Wick) : Field :=
  ⟨(w.page 11), 0x060, 0, 16, .rc, 0x0, .any, false⟩
/-- R357: RC -/
def FABRIC.NO_ROUTE_CNT (w : Wick) : Field :=
  ⟨(w.page 11), 0x060, 16, 16, .rc, 0x0, .any, false⟩
/-- R357: RC -/
def FABRIC.ABSENT_CNT (w : Wick) : Field :=
  ⟨(w.page 11), 0x064, 0, 16, .rc, 0x0, .any, false⟩
/-- R357: RC -/
def FABRIC.EPOCH_MISMATCH_CNT (w : Wick) : Field :=
  ⟨(w.page 11), 0x064, 16, 16, .rc, 0x0, .any, false⟩
/-- R357: RO -/
def FABRIC.FWD_ACKED (w : Wick) : Field :=
  ⟨(w.page 11), 0x068, 0, 32, .ro, 0x0, .any, false⟩
/-- R357: RC -/
def FABRIC.FWD_LOST (w : Wick) : Field :=
  ⟨(w.page 11), 0x06C, 0, 16, .rc, 0x0, .any, false⟩
/-- R357: RW -/
def FABRIC.ROUTE_SEL (w : Wick) : Field :=
  ⟨(w.page 11), 0x070, 0, 16, .rw, 0x0, .any, true⟩
/-- R357: RO -/
def FABRIC.R_NEXT (w : Wick) : Field :=
  ⟨(w.page 11), 0x074, 0, 16, .ro, 0x0, .any, false⟩
/-- R357: RO -/
def FABRIC.R_VIA (w : Wick) : Field :=
  ⟨(w.page 11), 0x074, 16, 2, .ro, 0x3, .any, false⟩
/-- R357: RO -/
def FABRIC.R_HOPS (w : Wick) : Field :=
  ⟨(w.page 11), 0x074, 18, 11, .ro, 0x0, .any, false⟩
/-- R357: RO -/
def FABRIC.R_BIG_OK (w : Wick) : Field :=
  ⟨(w.page 11), 0x074, 29, 1, .ro, 0x0, .any, false⟩
/-- R357: RO -/
def FABRIC.R_SEG (w : Wick) : Field :=
  ⟨(w.page 11), 0x078, 0, 16, .ro, 0xFFFF, .any, false⟩
/-- R357: RO -/
def FABRIC.R_COST (w : Wick) : Field :=
  ⟨(w.page 11), 0x078, 16, 16, .ro, 0x0, .any, false⟩
/-- R357: RW -/
def FABRIC.RPA_TARGET (w : Wick) : Field :=
  ⟨(w.page 11), 0x100, 0, 16, .rw, 0x0, .any, true⟩
/-- R357: RW -/
def FABRIC.RPA_LEN (w : Wick) : Field :=
  ⟨(w.page 11), 0x100, 16, 16, .rw, 0x0, .any, true⟩
/-- R357: RW -/
def FABRIC.RPA_ADDR (w : Wick) : Field :=
  ⟨(w.page 11), 0x104, 0, 24, .rw, 0x0, .any, true⟩
/-- R357: RW -/
def FABRIC.RPA_CTR (w : Wick) : Field :=
  ⟨(w.page 11), 0x108, 0, 32, .rw, 0x0, .any, true⟩
/-- R357: RW, k < 2 -/
def FABRIC.RPA_CMAC (w : Wick) (k : Nat) : Field :=
  ⟨(w.page 11), 0x10C + 4 * k, 0, 32, .rw, 0x0, .any, true⟩
/-- R357: WO -/
def FABRIC.RPA_CMD (w : Wick) : Field :=
  ⟨(w.page 11), 0x114, 0, 3, .wo, 0x0, .any, false⟩
/-- R357: RO -/
def FABRIC.RPA_STATUS (w : Wick) : Field :=
  ⟨(w.page 11), 0x118, 0, 3, .ro, 0x0, .any, false⟩
/-- R357: RO -/
def FABRIC.RPA_FSTATUS (w : Wick) : Field :=
  ⟨(w.page 11), 0x118, 16, 16, .ro, 0x0, .any, false⟩
/-- R357: RO, k < 2 -/
def FABRIC.RPA_RCMAC (w : Wick) (k : Nat) : Field :=
  ⟨(w.page 11), 0x11C + 4 * k, 0, 32, .ro, 0x0, .any, false⟩
/-- R357: RW -/
def FABRIC.RPA_TIMEOUT_MS (w : Wick) : Field :=
  ⟨(w.page 11), 0x124, 0, 15, .rw, 0x7D0, .clamp 100 30000, true⟩
/-- R357: RW -/
def FABRIC.RPA_IDLE_S (w : Wick) : Field :=
  ⟨(w.page 11), 0x124, 16, 12, .rw, 0x258, .clamp 60 3600, true⟩
/-- R357: RO -/
def FABRIC.RS_SESSION_ID (w : Wick) : Field :=
  ⟨(w.page 11), 0x128, 0, 16, .ro, 0x0, .any, false⟩
/-- R357: RO -/
def FABRIC.RS_STATE (w : Wick) : Field :=
  ⟨(w.page 11), 0x128, 16, 2, .ro, 0x0, .any, false⟩
/-- R357: RO -/
def FABRIC.RS_LAST_CTR (w : Wick) : Field :=
  ⟨(w.page 11), 0x12C, 0, 32, .ro, 0x0, .any, false⟩
/-- R357: RO -/
def FABRIC.RS_PEER (w : Wick) : Field :=
  ⟨(w.page 11), 0x130, 0, 16, .ro, 0x0, .any, false⟩
/-- R357: RW, k < 128. DEDUCED (log entry 193). -/
def FABRIC.RPA_DATA (w : Wick) (k : Nat) : Field :=
  ⟨(w.page 11), 0x200 + 4 * k, 0, 32, .rw, 0x0, .any, false⟩

/-- Every page-specific field of the page FABRIC, for reading a whole word (R39). -/
def FABRIC.fields (w : Wick) : List Field :=
  [FABRIC.P0_EN w, FABRIC.P1_EN w, FABRIC.AIR_EN w, FABRIC.RPA_EN w, FABRIC.EVT_FWD_EN w, FABRIC.EVT_COLLECT w, FABRIC.FAB_UP w, FABRIC.ADDR_CONFLICT w, FABRIC.SEG_CONFLICT w, FABRIC.NO_KEY w, FABRIC.FAB_ADDR w, FABRIC.SEG_ID w] ++
  [FABRIC.ETHERTYPE w, FABRIC.HELLO_MS w, FABRIC.AIR_HELLO_S w, FABRIC.AIR_COST w, FABRIC.AIR_RSSI_MAX w, FABRIC.EVT_FWD_ADDR w, FABRIC.MOD_UID_LO w, FABRIC.MOD_UID_HI w, FABRIC.P0_STATE w, FABRIC.P1_STATE w, FABRIC.N_AIR w, FABRIC.N_MODULES w] ++
  [FABRIC.P0_PEER w, FABRIC.P1_PEER w, FABRIC.RX_AUTH_ERR w, FABRIC.NO_ROUTE_CNT w, FABRIC.ABSENT_CNT w, FABRIC.EPOCH_MISMATCH_CNT w, FABRIC.FWD_ACKED w, FABRIC.FWD_LOST w, FABRIC.ROUTE_SEL w, FABRIC.R_NEXT w, FABRIC.R_VIA w, FABRIC.R_HOPS w] ++
  [FABRIC.R_BIG_OK w, FABRIC.R_SEG w, FABRIC.R_COST w, FABRIC.RPA_TARGET w, FABRIC.RPA_LEN w, FABRIC.RPA_ADDR w, FABRIC.RPA_CTR w, FABRIC.RPA_CMD w, FABRIC.RPA_STATUS w, FABRIC.RPA_FSTATUS w, FABRIC.RPA_TIMEOUT_MS w, FABRIC.RPA_IDLE_S w] ++
  [FABRIC.RS_SESSION_ID w, FABRIC.RS_STATE w, FABRIC.RS_LAST_CTR w, FABRIC.RS_PEER w] ++
  (List.range 2).map (FABRIC.RPA_CMAC w) ++
  (List.range 2).map (FABRIC.RPA_RCMAC w) ++
  (List.range 128).map (FABRIC.RPA_DATA w)

/-- R358: RW -/
def TIME.GNSS_EN : Field :=
  ⟨13, 0x008, 1, 1, .rw, 0x0, .any, true⟩
/-- R358: WO -/
def TIME.TIME_SET : Field :=
  ⟨13, 0x008, 2, 1, .wo, 0x0, .any, false⟩
/-- R358: RO -/
def TIME.TRUSTED : Field :=
  ⟨13, 0x00C, 8, 1, .ro, 0x0, .any, false⟩
/-- R358: RO -/
def TIME.UTC_VALID : Field :=
  ⟨13, 0x00C, 9, 1, .ro, 0x0, .any, false⟩
/-- R358: RO -/
def TIME.SOURCE : Field :=
  ⟨13, 0x00C, 10, 3, .ro, 0x4, .any, false⟩
/-- R358: RW -/
def TIME.EPOCH_S_LO : Field :=
  ⟨13, 0x040, 0, 32, .rw, 0x0, .any, true⟩
/-- R358: RW -/
def TIME.EPOCH_S_HI : Field :=
  ⟨13, 0x044, 0, 16, .rw, 0x0, .any, true⟩
/-- R358: RW -/
def TIME.LEAP_S : Field :=
  ⟨13, 0x048, 0, 8, .rw, 0x25, .any, true⟩
/-- R358: RW -/
def TIME.DOMAIN : Field :=
  ⟨13, 0x048, 8, 8, .rw, 0x0, .clamp 0 127, true⟩
/-- R358: RW -/
def TIME.PRIO1 : Field :=
  ⟨13, 0x048, 16, 8, .rw, 0x80, .any, true⟩
/-- R358: RW -/
def TIME.TRUST_LIMIT_MS : Field :=
  ⟨13, 0x04C, 0, 10, .rw, 0x64, .clamp 1 1000, true⟩
/-- R358: RW -/
def TIME.STEP_US : Field :=
  ⟨13, 0x04C, 16, 15, .rw, 0x3E8, .clamp 100 30000, true⟩
/-- R358: RW -/
def TIME.GNSS_BAUD : Field :=
  ⟨13, 0x050, 0, 3, .rw, 0x1, .orElse 4 1, true⟩
/-- R358: RO -/
def TIME.SEGTIME_LO : Field :=
  ⟨13, 0x054, 0, 32, .ro, 0x0, .any, false⟩
/-- R358: RO -/
def TIME.SEGTIME_HI : Field :=
  ⟨13, 0x058, 0, 16, .ro, 0x0, .any, false⟩
/-- R358: RO -/
def TIME.UTC_S_LO : Field :=
  ⟨13, 0x05C, 0, 32, .ro, 0x0, .any, false⟩
/-- R358: RO -/
def TIME.UTC_S_HI : Field :=
  ⟨13, 0x060, 0, 16, .ro, 0x0, .any, false⟩
/-- R358: RO -/
def TIME.UTC_OFF_S : Field :=
  ⟨13, 0x064, 0, 8, .ro, 0x25, .any, false⟩
/-- R358: RO -/
def TIME.OFF_FROM_GM : Field :=
  ⟨13, 0x064, 8, 1, .ro, 0x0, .any, false⟩
/-- R358: RO -/
def TIME.ERR_US : Field :=
  ⟨13, 0x068, 0, 32, .ro, 0xFFFFFFFF, .any, false⟩
/-- R358: RO -/
def TIME.OFFSET_NS : Field :=
  ⟨13, 0x06C, 0, 32, .ro, 0x0, .any, false⟩
/-- R358: RO -/
def TIME.CLOCK_CLASS : Field :=
  ⟨13, 0x070, 0, 8, .ro, 0xF8, .any, false⟩
/-- R358: RO -/
def TIME.GM_CLASS : Field :=
  ⟨13, 0x070, 8, 8, .ro, 0x0, .any, false⟩
/-- R358: RO -/
def TIME.STEPS_REMOVED : Field :=
  ⟨13, 0x070, 16, 8, .ro, 0x0, .any, false⟩
/-- R358: RO -/
def TIME.SLAVE_PORT : Field :=
  ⟨13, 0x070, 24, 2, .ro, 0x0, .any, false⟩
/-- R358: RO -/
def TIME.GM_ID_LO : Field :=
  ⟨13, 0x074, 0, 32, .ro, 0x0, .any, false⟩
/-- R358: RO -/
def TIME.GM_ID_HI : Field :=
  ⟨13, 0x078, 0, 32, .ro, 0x0, .any, false⟩
/-- R358: RC -/
def TIME.STEP_CNT : Field :=
  ⟨13, 0x07C, 0, 16, .rc, 0x0, .any, false⟩
/-- R358: RC -/
def TIME.TRUST_LOSS_CNT : Field :=
  ⟨13, 0x07C, 16, 16, .rc, 0x0, .any, false⟩
/-- R358: RC -/
def TIME.GNSS_ERR_CNT : Field :=
  ⟨13, 0x080, 0, 16, .rc, 0x0, .any, false⟩
/-- R358: RC -/
def TIME.PPS_MISS_CNT : Field :=
  ⟨13, 0x080, 16, 16, .rc, 0x0, .any, false⟩
/-- R358: RO -/
def TIME.TRIM_PPB : Field :=
  ⟨13, 0x084, 0, 32, .ro, 0x0, .any, false⟩
/-- R358: RW -/
def TIME.SET_UTC_S_LO : Field :=
  ⟨13, 0x088, 0, 32, .rw, 0x0, .any, true⟩
/-- R358: RW -/
def TIME.SET_UTC_S_HI : Field :=
  ⟨13, 0x08C, 0, 16, .rw, 0x0, .any, true⟩
/-- R358: RW -/
def TIME.SET_ERR_MS : Field :=
  ⟨13, 0x090, 0, 16, .rw, 0x3E8, .any, true⟩
/-- R358: RO -/
def TIME.SET_STATUS : Field :=
  ⟨13, 0x090, 16, 2, .ro, 0x0, .any, false⟩

/-- Every page-specific field of the page TIME, for reading a whole word (R39). -/
def TIME.fields : List Field :=
  [TIME.GNSS_EN, TIME.TIME_SET, TIME.TRUSTED, TIME.UTC_VALID, TIME.SOURCE, TIME.EPOCH_S_LO, TIME.EPOCH_S_HI, TIME.LEAP_S, TIME.DOMAIN, TIME.PRIO1, TIME.TRUST_LIMIT_MS, TIME.STEP_US] ++
  [TIME.GNSS_BAUD, TIME.SEGTIME_LO, TIME.SEGTIME_HI, TIME.UTC_S_LO, TIME.UTC_S_HI, TIME.UTC_OFF_S, TIME.OFF_FROM_GM, TIME.ERR_US, TIME.OFFSET_NS, TIME.CLOCK_CLASS, TIME.GM_CLASS, TIME.STEPS_REMOVED] ++
  [TIME.SLAVE_PORT, TIME.GM_ID_LO, TIME.GM_ID_HI, TIME.STEP_CNT, TIME.TRUST_LOSS_CNT, TIME.GNSS_ERR_CNT, TIME.PPS_MISS_CNT, TIME.TRIM_PPB, TIME.SET_UTC_S_LO, TIME.SET_UTC_S_HI, TIME.SET_ERR_MS, TIME.SET_STATUS]

end Sys2Proof.Machine
end

