-- ==== Sys2Proof/Machine/FieldsHost.lean ====
section
/-! DEFINITION. The register fields of the pages LOCKS, CFGBANK, HOSTLINK, MBOX, STREAM, each with its page, offset, lowest bit, width, access code, reset value, the value a write stores, and whether a start restores it (R44): the spec's register tables, row by row. A field of a wick page takes the wick; a field of an array takes its number. -/

namespace Sys2Proof.Machine

/-- R53: RO -/
def LOCKS.LOCK_HELD : Field :=
  ⟨2, 0x040, 0, 32, .ro, 0x0, .any, false⟩
/-- R53: WO -/
def LOCKS.LOCK_FORCE : Field :=
  ⟨2, 0x044, 0, 32, .wo, 0x0, .any, false⟩
/-- R53: RO -/
def LOCKS.MY_ID : Field :=
  ⟨2, 0x048, 0, 3, .ro, 0x0, .any, false⟩
/-- R53: RO, n < 32 -/
def LOCKS.GRANTED (n : Nat) : Field :=
  ⟨2, 0x080 + 4 * n, 31, 1, .ro, 0x0, .any, false⟩
/-- R53: RO, n < 32 -/
def LOCKS.LOCK_OWNER (n : Nat) : Field :=
  ⟨2, 0x080 + 4 * n, 0, 3, .ro, 0x0, .any, false⟩
/-- R53: RO, n < 32 -/
def LOCKS.HELD (n : Nat) : Field :=
  ⟨2, 0x100 + 4 * n, 31, 1, .ro, 0x0, .any, false⟩
/-- R53: RO, n < 32 -/
def LOCKS.PEEK_OWNER (n : Nat) : Field :=
  ⟨2, 0x100 + 4 * n, 0, 3, .ro, 0x0, .any, false⟩

/-- Every page-specific field of the page LOCKS, for reading a whole word (R39). -/
def LOCKS.fields : List Field :=
  [LOCKS.LOCK_HELD, LOCKS.LOCK_FORCE, LOCKS.MY_ID] ++
  (List.range 32).map (LOCKS.GRANTED) ++
  (List.range 32).map (LOCKS.LOCK_OWNER) ++
  (List.range 32).map (LOCKS.HELD) ++
  (List.range 32).map (LOCKS.PEEK_OWNER)

/-- R65: RW -/
def CFGBANK.MODE (w : Wick) : Field :=
  ⟨(w.page 12), 0x040, 0, 2, .rw, 0x0, .any, true⟩
/-- R65: WO -/
def CFGBANK.ARM (w : Wick) : Field :=
  ⟨(w.page 12), 0x040, 8, 1, .wo, 0x0, .any, false⟩
/-- R65: WO -/
def CFGBANK.CANCEL (w : Wick) : Field :=
  ⟨(w.page 12), 0x040, 9, 1, .wo, 0x0, .any, false⟩
/-- R65: RW -/
def CFGBANK.CFG_SWAP_TIME_LO (w : Wick) : Field :=
  ⟨(w.page 12), 0x044, 0, 32, .rw, 0x0, .any, true⟩
/-- R65: RW -/
def CFGBANK.CFG_SWAP_TIME_HI (w : Wick) : Field :=
  ⟨(w.page 12), 0x048, 0, 16, .rw, 0x0, .any, true⟩
/-- R65: RO -/
def CFGBANK.STATE (w : Wick) : Field :=
  ⟨(w.page 12), 0x04C, 0, 3, .ro, 0x0, .any, false⟩
/-- R65: RO -/
def CFGBANK.REASON (w : Wick) : Field :=
  ⟨(w.page 12), 0x04C, 8, 4, .ro, 0x0, .any, false⟩
/-- R65: RO -/
def CFGBANK.FAILED_TYPES (w : Wick) : Field :=
  ⟨(w.page 12), 0x04C, 16, 7, .ro, 0x0, .any, false⟩
/-- R65: RO -/
def CFGBANK.CFG_SWAP_AT_LO (w : Wick) : Field :=
  ⟨(w.page 12), 0x050, 0, 32, .ro, 0x0, .any, false⟩
/-- R65: RO -/
def CFGBANK.CFG_SWAP_AT_HI (w : Wick) : Field :=
  ⟨(w.page 12), 0x054, 0, 16, .ro, 0x0, .any, false⟩
/-- R65: RO -/
def CFGBANK.ACTIVE_HALF (w : Wick) : Field :=
  ⟨(w.page 12), 0x058, 0, 1, .ro, 0x0, .any, false⟩
/-- R65: RO -/
def CFGBANK.SWAP_COUNT (w : Wick) : Field :=
  ⟨(w.page 12), 0x058, 16, 16, .ro, 0x0, .any, false⟩
/-- R65: RO -/
def CFGBANK.ACTIVE_GEN (w : Wick) : Field :=
  ⟨(w.page 12), 0x05C, 0, 32, .ro, 0x0, .any, false⟩
/-- R65: RO -/
def CFGBANK.SHADOW_GEN (w : Wick) : Field :=
  ⟨(w.page 12), 0x060, 0, 32, .ro, 0x0, .any, false⟩
/-- R65: RO -/
def CFGBANK.BANK_DIRTY (w : Wick) : Field :=
  ⟨(w.page 12), 0x064, 0, 7, .ro, 0x0, .any, false⟩
/-- R65: WO -/
def CFGBANK.CFG_CMD (w : Wick) : Field :=
  ⟨(w.page 12), 0x068, 0, 2, .wo, 0x0, .any, false⟩
/-- R65: RO -/
def CFGBANK.CMD_BUSY (w : Wick) : Field :=
  ⟨(w.page 12), 0x06C, 0, 1, .ro, 0x0, .any, false⟩
/-- R65: RO -/
def CFGBANK.CMD_DONE (w : Wick) : Field :=
  ⟨(w.page 12), 0x06C, 1, 1, .ro, 0x0, .any, false⟩
/-- R65: RO -/
def CFGBANK.CMD_FAILED_TYPES (w : Wick) : Field :=
  ⟨(w.page 12), 0x06C, 16, 7, .ro, 0x0, .any, false⟩
/-- R65: RO -/
def CFGBANK.ACTIVE_KIB (w : Wick) : Field :=
  ⟨(w.page 12), 0x070, 0, 16, .ro, 0x0, .any, false⟩
/-- R65: RO -/
def CFGBANK.SHADOW_KIB (w : Wick) : Field :=
  ⟨(w.page 12), 0x070, 16, 16, .ro, 0x0, .any, false⟩

/-- Every page-specific field of the page CFGBANK, for reading a whole word (R39). -/
def CFGBANK.fields (w : Wick) : List Field :=
  [CFGBANK.MODE w, CFGBANK.ARM w, CFGBANK.CANCEL w, CFGBANK.CFG_SWAP_TIME_LO w, CFGBANK.CFG_SWAP_TIME_HI w, CFGBANK.STATE w, CFGBANK.REASON w, CFGBANK.FAILED_TYPES w, CFGBANK.CFG_SWAP_AT_LO w, CFGBANK.CFG_SWAP_AT_HI w, CFGBANK.ACTIVE_HALF w, CFGBANK.SWAP_COUNT w] ++
  [CFGBANK.ACTIVE_GEN w, CFGBANK.SHADOW_GEN w, CFGBANK.BANK_DIRTY w, CFGBANK.CFG_CMD w, CFGBANK.CMD_BUSY w, CFGBANK.CMD_DONE w, CFGBANK.CMD_FAILED_TYPES w, CFGBANK.ACTIVE_KIB w, CFGBANK.SHADOW_KIB w]

/-- R45: RO -/
def HOSTLINK.IRQ_PEND0 : Field :=
  ⟨15, 0x040, 0, 32, .ro, 0x0, .any, false⟩
/-- R45: RO -/
def HOSTLINK.IRQ_PEND1 : Field :=
  ⟨15, 0x044, 0, 32, .ro, 0x0, .any, false⟩
/-- R45: RW -/
def HOSTLINK.IRQ_ROUTE0 : Field :=
  ⟨15, 0x048, 0, 32, .rw, 0x0, .any, true⟩
/-- R45: RW -/
def HOSTLINK.IRQ_ROUTE1 : Field :=
  ⟨15, 0x04C, 0, 32, .rw, 0x0, .any, true⟩
/-- R81: RW -/
def HOSTLINK.IDLE_MS : Field :=
  ⟨15, 0x050, 0, 16, .rw, 0x64, .clamp 0 60000, true⟩
/-- R81: WO -/
def HOSTLINK.SESS_CMD : Field :=
  ⟨15, 0x054, 0, 2, .wo, 0x0, .any, false⟩
/-- R81: RO -/
def HOSTLINK.STATE : Field :=
  ⟨15, 0x058, 0, 2, .ro, 0x0, .any, false⟩
/-- R81: RO -/
def HOSTLINK.FAIL_REASON : Field :=
  ⟨15, 0x058, 4, 4, .ro, 0x0, .any, false⟩
/-- R81: RO -/
def HOSTLINK.FAIL_COUNT : Field :=
  ⟨15, 0x058, 8, 8, .ro, 0x0, .any, false⟩
/-- R81: RO -/
def HOSTLINK.SESSION_ID : Field :=
  ⟨15, 0x058, 16, 16, .ro, 0x0, .any, false⟩
/-- R81: RO -/
def HOSTLINK.LAST_CTR : Field :=
  ⟨15, 0x05C, 0, 32, .ro, 0x0, .any, false⟩
/-- R81: RO -/
def HOSTLINK.LAST_STATUS : Field :=
  ⟨15, 0x060, 0, 16, .ro, 0x0, .any, false⟩
/-- R81: RO -/
def HOSTLINK.LAST_OP : Field :=
  ⟨15, 0x060, 16, 6, .ro, 0x0, .any, false⟩
/-- R81: RO -/
def HOSTLINK.LAST_QUAD : Field :=
  ⟨15, 0x060, 22, 1, .ro, 0x0, .any, false⟩
/-- R81: RO -/
def HOSTLINK.LAST_SECURE : Field :=
  ⟨15, 0x060, 23, 1, .ro, 0x0, .any, false⟩
/-- R81: RC -/
def HOSTLINK.CRC_ERR_CNT : Field :=
  ⟨15, 0x064, 0, 16, .rc, 0x0, .any, false⟩
/-- R81: RC -/
def HOSTLINK.AUTH_ERR_CNT : Field :=
  ⟨15, 0x064, 16, 16, .rc, 0x0, .any, false⟩
/-- R81: RC -/
def HOSTLINK.REPLAY_CNT : Field :=
  ⟨15, 0x068, 0, 16, .rc, 0x0, .any, false⟩
/-- R81: RC -/
def HOSTLINK.ABORT_CNT : Field :=
  ⟨15, 0x068, 16, 16, .rc, 0x0, .any, false⟩
/-- R81: RO, k < 4 -/
def HOSTLINK.SESS_CHALLENGE (k : Nat) : Field :=
  ⟨15, 0x080 + 4 * k, 0, 32, .ro, 0x0, .any, false⟩
/-- R81: RW, k < 16 -/
def HOSTLINK.SESS_HOST_PUB (k : Nat) : Field :=
  ⟨15, 0x090 + 4 * k, 0, 32, .rw, 0x0, .any, false⟩
/-- R81: RW, k < 4 -/
def HOSTLINK.SESS_HOST_TAG (k : Nat) : Field :=
  ⟨15, 0x0D0 + 4 * k, 0, 32, .rw, 0x0, .any, false⟩
/-- R81: RO, k < 16 -/
def HOSTLINK.SESS_MOD_PUB (k : Nat) : Field :=
  ⟨15, 0x0E0 + 4 * k, 0, 32, .ro, 0x0, .any, false⟩
/-- R81: RO, k < 4 -/
def HOSTLINK.SESS_MOD_TAG (k : Nat) : Field :=
  ⟨15, 0x120 + 4 * k, 0, 32, .ro, 0x0, .any, false⟩

/-- Every page-specific field of the page HOSTLINK, for reading a whole word (R39). -/
def HOSTLINK.fields : List Field :=
  [HOSTLINK.IRQ_PEND0, HOSTLINK.IRQ_PEND1, HOSTLINK.IRQ_ROUTE0, HOSTLINK.IRQ_ROUTE1, HOSTLINK.IDLE_MS, HOSTLINK.SESS_CMD, HOSTLINK.STATE, HOSTLINK.FAIL_REASON, HOSTLINK.FAIL_COUNT, HOSTLINK.SESSION_ID, HOSTLINK.LAST_CTR, HOSTLINK.LAST_STATUS] ++
  [HOSTLINK.LAST_OP, HOSTLINK.LAST_QUAD, HOSTLINK.LAST_SECURE, HOSTLINK.CRC_ERR_CNT, HOSTLINK.AUTH_ERR_CNT, HOSTLINK.REPLAY_CNT, HOSTLINK.ABORT_CNT] ++
  (List.range 4).map (HOSTLINK.SESS_CHALLENGE) ++
  (List.range 16).map (HOSTLINK.SESS_HOST_PUB) ++
  (List.range 4).map (HOSTLINK.SESS_HOST_TAG) ++
  (List.range 16).map (HOSTLINK.SESS_MOD_PUB) ++
  (List.range 4).map (HOSTLINK.SESS_MOD_TAG)

/-- R94: RW, c < 16 -/
def MBOX.SENDER (c : Nat) : Field :=
  ⟨(3 + c / 8), 0x040 + 0x20 * (c % 8), 0, 3, .rw, 0x0, .any, true⟩
/-- R94: RW, c < 16 -/
def MBOX.RECEIVER (c : Nat) : Field :=
  ⟨(3 + c / 8), 0x040 + 0x20 * (c % 8), 4, 3, .rw, 0x0, .any, true⟩
/-- R94: RW, c < 16 -/
def MBOX.OPEN (c : Nat) : Field :=
  ⟨(3 + c / 8), 0x040 + 0x20 * (c % 8), 8, 1, .rw, 0x0, .any, false⟩
/-- R94: RO, c < 16 -/
def MBOX.CFG_INVALID (c : Nat) : Field :=
  ⟨(3 + c / 8), 0x040 + 0x20 * (c % 8), 9, 1, .ro, 0x1, .any, true⟩
/-- R94: RW, c < 16 -/
def MBOX.OFFSET (c : Nat) : Field :=
  ⟨(3 + c / 8), 0x044 + 0x20 * (c % 8), 0, 18, .rw, 0x0, .any, true⟩
/-- R94: RW, c < 16 -/
def MBOX.LENGTH (c : Nat) : Field :=
  ⟨(3 + c / 8), 0x048 + 0x20 * (c % 8), 0, 18, .rw, 0x0, .any, true⟩
/-- R94: RW, c < 16 -/
def MBOX.OPCODE (c : Nat) : Field :=
  ⟨(3 + c / 8), 0x04C + 0x20 * (c % 8), 0, 16, .rw, 0x0, .any, true⟩
/-- R94: WO, c < 16 -/
def MBOX.POST (c : Nat) : Field :=
  ⟨(3 + c / 8), 0x050 + 0x20 * (c % 8), 0, 1, .wo, 0x0, .any, false⟩
/-- R94: WO, c < 16 -/
def MBOX.REVOKE (c : Nat) : Field :=
  ⟨(3 + c / 8), 0x050 + 0x20 * (c % 8), 1, 1, .wo, 0x0, .any, false⟩
/-- R94: RW, c < 16 -/
def MBOX.RET_CODE (c : Nat) : Field :=
  ⟨(3 + c / 8), 0x054 + 0x20 * (c % 8), 0, 16, .rw, 0x0, .any, true⟩
/-- R94: RW, c < 16 -/
def MBOX.ACK_SEQ (c : Nat) : Field :=
  ⟨(3 + c / 8), 0x054 + 0x20 * (c % 8), 16, 8, .rw, 0x0, .any, true⟩
/-- R94: RO, c < 16 -/
def MBOX.PENDING (c : Nat) : Field :=
  ⟨(3 + c / 8), 0x058 + 0x20 * (c % 8), 0, 1, .ro, 0x0, .any, false⟩
/-- R94: RO, c < 16 -/
def MBOX.ANNOUNCED (c : Nat) : Field :=
  ⟨(3 + c / 8), 0x058 + 0x20 * (c % 8), 1, 1, .ro, 0x0, .any, false⟩
/-- R94: RO, c < 16 -/
def MBOX.CMD_STATUS (c : Nat) : Field :=
  ⟨(3 + c / 8), 0x058 + 0x20 * (c % 8), 2, 3, .ro, 0x0, .any, false⟩
/-- R94: RO, c < 16 -/
def MBOX.POST_SEQ (c : Nat) : Field :=
  ⟨(3 + c / 8), 0x058 + 0x20 * (c % 8), 8, 8, .ro, 0x0, .any, false⟩
/-- R94: RO, c < 16 -/
def MBOX.RESULT (c : Nat) : Field :=
  ⟨(3 + c / 8), 0x058 + 0x20 * (c % 8), 16, 16, .ro, 0x0, .any, false⟩
/-- R94: RC, c < 16 -/
def MBOX.REVOKED_CNT (c : Nat) : Field :=
  ⟨(3 + c / 8), 0x05C + 0x20 * (c % 8), 0, 8, .rc, 0x0, .any, false⟩

/-- Every page-specific field of the page MBOX, for reading a whole word (R39). -/
def MBOX.fields (page : Nat) : List Field :=
  (List.range 8).map (fun c => MBOX.SENDER (8 * (page - 3) + c)) ++
  (List.range 8).map (fun c => MBOX.RECEIVER (8 * (page - 3) + c)) ++
  (List.range 8).map (fun c => MBOX.OPEN (8 * (page - 3) + c)) ++
  (List.range 8).map (fun c => MBOX.CFG_INVALID (8 * (page - 3) + c)) ++
  (List.range 8).map (fun c => MBOX.OFFSET (8 * (page - 3) + c)) ++
  (List.range 8).map (fun c => MBOX.LENGTH (8 * (page - 3) + c)) ++
  (List.range 8).map (fun c => MBOX.OPCODE (8 * (page - 3) + c)) ++
  (List.range 8).map (fun c => MBOX.POST (8 * (page - 3) + c)) ++
  (List.range 8).map (fun c => MBOX.REVOKE (8 * (page - 3) + c)) ++
  (List.range 8).map (fun c => MBOX.RET_CODE (8 * (page - 3) + c)) ++
  (List.range 8).map (fun c => MBOX.ACK_SEQ (8 * (page - 3) + c)) ++
  (List.range 8).map (fun c => MBOX.PENDING (8 * (page - 3) + c)) ++
  (List.range 8).map (fun c => MBOX.ANNOUNCED (8 * (page - 3) + c)) ++
  (List.range 8).map (fun c => MBOX.CMD_STATUS (8 * (page - 3) + c)) ++
  (List.range 8).map (fun c => MBOX.POST_SEQ (8 * (page - 3) + c)) ++
  (List.range 8).map (fun c => MBOX.RESULT (8 * (page - 3) + c)) ++
  (List.range 8).map (fun c => MBOX.REVOKED_CNT (8 * (page - 3) + c))

/-- R99: RW, f < 4 -/
def STREAM.F_EN (f : Nat) : Field :=
  ⟨5, 0x040 + 32 * f, 0, 1, .rw, 0x0, .any, true⟩
/-- R99: WO, f < 4 -/
def STREAM.FLUSH (f : Nat) : Field :=
  ⟨5, 0x040 + 32 * f, 1, 1, .wo, 0x0, .any, false⟩
/-- R99: RW, f < 4 -/
def STREAM.LEVEL_IRQ (f : Nat) : Field :=
  ⟨5, 0x040 + 32 * f, 16, 16, .rw, 0x0, .any, true⟩
/-- R99: RO, f < 4 -/
def STREAM.EMPTY (f : Nat) : Field :=
  ⟨5, 0x044 + 32 * f, 0, 1, .ro, 0x1, .any, false⟩
/-- R99: RO, f < 4 -/
def STREAM.FLUSH_BUSY (f : Nat) : Field :=
  ⟨5, 0x044 + 32 * f, 1, 1, .ro, 0x0, .any, false⟩
/-- R99: RO, f < 4 -/
def STREAM.PKT_OPEN (f : Nat) : Field :=
  ⟨5, 0x044 + 32 * f, 2, 1, .ro, 0x0, .any, false⟩
/-- R99: RC, f < 4 -/
def STREAM.RESTARTED (f : Nat) : Field :=
  ⟨5, 0x044 + 32 * f, 3, 1, .rc, 0x0, .any, false⟩
/-- R99: RO, f < 4 -/
def STREAM.LEVEL (f : Nat) : Field :=
  ⟨5, 0x044 + 32 * f, 16, 16, .ro, 0x0, .any, false⟩
/-- R99: RC, f < 4 -/
def STREAM.UNDERRUN (f : Nat) : Field :=
  ⟨5, 0x048 + 32 * f, 0, 1, .rc, 0x0, .any, false⟩
/-- R99: RC, f < 4 -/
def STREAM.POISON (f : Nat) : Field :=
  ⟨5, 0x048 + 32 * f, 1, 1, .rc, 0x0, .any, false⟩
/-- R99: RC, f < 4 -/
def STREAM.POISON_AT (f : Nat) : Field :=
  ⟨5, 0x048 + 32 * f, 16, 16, .rc, 0x0, .any, false⟩
/-- R99: RO, f < 4 -/
def STREAM.F_RD_COUNT (f : Nat) : Field :=
  ⟨5, 0x04C + 32 * f, 0, 32, .ro, 0x0, .any, false⟩
/-- R99: RC, f < 4 -/
def STREAM.DROP_CNT (f : Nat) : Field :=
  ⟨5, 0x050 + 32 * f, 0, 16, .rc, 0x0, .any, false⟩
/-- R99: RC, f < 4 -/
def STREAM.POISON_CNT (f : Nat) : Field :=
  ⟨5, 0x050 + 32 * f, 16, 16, .rc, 0x0, .any, false⟩
/-- R99: RO, f < 4 -/
def STREAM.F_NEXT_SEQ (f : Nat) : Field :=
  ⟨5, 0x054 + 32 * f, 0, 8, .ro, 0x0, .any, false⟩
/-- R99: RO, f < 4 -/
def STREAM.F_DATA (f : Nat) : Field :=
  ⟨5, 0x800 + 512 * f, 0, 32, .ro, 0x0, .any, false⟩

/-- Every page-specific field of the page STREAM, for reading a whole word (R39). -/
def STREAM.fields : List Field :=
  (List.range 4).map (STREAM.F_EN) ++
  (List.range 4).map (STREAM.FLUSH) ++
  (List.range 4).map (STREAM.LEVEL_IRQ) ++
  (List.range 4).map (STREAM.EMPTY) ++
  (List.range 4).map (STREAM.FLUSH_BUSY) ++
  (List.range 4).map (STREAM.PKT_OPEN) ++
  (List.range 4).map (STREAM.RESTARTED) ++
  (List.range 4).map (STREAM.LEVEL) ++
  (List.range 4).map (STREAM.UNDERRUN) ++
  (List.range 4).map (STREAM.POISON) ++
  (List.range 4).map (STREAM.POISON_AT) ++
  (List.range 4).map (STREAM.F_RD_COUNT) ++
  (List.range 4).map (STREAM.DROP_CNT) ++
  (List.range 4).map (STREAM.POISON_CNT) ++
  (List.range 4).map (STREAM.F_NEXT_SEQ) ++
  (List.range 4).map (STREAM.F_DATA)

end Sys2Proof.Machine
end

