-- ==== Sys2Proof/Machine/FieldsModule.lean ====
section
/-! DEFINITION. The register fields of the pages PWR, CABINET_IO, VAULT, TAMPER, UPDATE, MSS, EVLOG, BIST, each with its page, offset, lowest bit, width, access code, reset value, the value a write stores, and whether a start restores it (R44): the spec's register tables, row by row. A field of a wick page takes the wick; a field of an array takes its number. -/

namespace Sys2Proof.Machine

/-- R381: RW -/
def PWR.VAUX_EN : Field :=
  ⟨1, 0x008, 1, 1, .rw, 0x0, .any, true⟩
/-- R381: RO -/
def PWR.VIN_OK : Field :=
  ⟨1, 0x00C, 8, 1, .ro, 0x0, .any, false⟩
/-- R381: RO -/
def PWR.VIO_OK : Field :=
  ⟨1, 0x00C, 9, 1, .ro, 0x0, .any, false⟩
/-- R381: RO -/
def PWR.HOLD_READY : Field :=
  ⟨1, 0x00C, 10, 1, .ro, 0x0, .any, false⟩
/-- R381: RO -/
def PWR.XTAL_OK : Field :=
  ⟨1, 0x00C, 11, 1, .ro, 0x0, .any, false⟩
/-- R381: RO -/
def PWR.TCXO_RUN : Field :=
  ⟨1, 0x00C, 12, 1, .ro, 0x0, .any, false⟩
/-- R381: RO -/
def PWR.CHARGING : Field :=
  ⟨1, 0x00C, 13, 1, .ro, 0x0, .any, false⟩
/-- R381: RO -/
def PWR.VAUX_FAULT : Field :=
  ⟨1, 0x00C, 14, 1, .ro, 0x0, .any, false⟩
/-- R381: RO -/
def PWR.PFAIL_LEVEL : Field :=
  ⟨1, 0x00C, 15, 1, .ro, 0x0, .any, false⟩
/-- R381: RO -/
def PWR.PD_ON : Field :=
  ⟨1, 0x040, 0, 12, .ro, 0x1, .any, false⟩
/-- R381: RO -/
def PWR.PD_SLEEP : Field :=
  ⟨1, 0x040, 16, 12, .ro, 0x0, .any, false⟩
/-- R381: RO -/
def PWR.VIN_MV : Field :=
  ⟨1, 0x044, 0, 16, .ro, 0x0, .any, false⟩
/-- R381: RO -/
def PWR.VHOLD_MV : Field :=
  ⟨1, 0x044, 16, 16, .ro, 0x0, .any, false⟩
/-- R381: RO -/
def PWR.VIO_MV : Field :=
  ⟨1, 0x048, 0, 16, .ro, 0x0, .any, false⟩
/-- R381: RO -/
def PWR.VAUX_MV : Field :=
  ⟨1, 0x048, 16, 16, .ro, 0x0, .any, false⟩
/-- R381: RW -/
def PWR.HOLD_WAIT_S : Field :=
  ⟨1, 0x04C, 0, 6, .rw, 0x5, .clamp 0 60, true⟩
/-- R381: RW -/
def PWR.VIN_WARN_MV : Field :=
  ⟨1, 0x050, 0, 16, .rw, 0x2710, .clamp 9000 36000, true⟩
/-- R381: RO -/
def PWR.SAVE_RESULT : Field :=
  ⟨1, 0x054, 0, 2, .ro, 0x0, .any, false⟩
/-- R381: RO -/
def PWR.SAVE_TRIGGER : Field :=
  ⟨1, 0x054, 4, 3, .ro, 0x0, .any, false⟩
/-- R381: RO -/
def PWR.START_CAUSE : Field :=
  ⟨1, 0x054, 8, 3, .ro, 0x0, .any, false⟩
/-- R381: RO -/
def PWR.OUTAGE_MS : Field :=
  ⟨1, 0x054, 16, 16, .ro, 0x0, .any, false⟩
/-- R381: RO -/
def PWR.START_CNT : Field :=
  ⟨1, 0x058, 0, 32, .ro, 0x0, .any, false⟩
/-- R381: WO -/
def PWR.FR_KEY : Field :=
  ⟨1, 0x05C, 0, 16, .wo, 0x0, .any, false⟩
/-- R381: WO -/
def PWR.CMD : Field :=
  ⟨1, 0x05C, 16, 2, .wo, 0x0, .any, false⟩
/-- R381: RO -/
def PWR.CMD_STATUS : Field :=
  ⟨1, 0x05C, 24, 2, .ro, 0x0, .any, false⟩
/-- R381: RC -/
def PWR.PFAIL_CNT : Field :=
  ⟨1, 0x060, 0, 16, .rc, 0x0, .any, false⟩
/-- R381: RC -/
def PWR.VIN_WARN_CNT : Field :=
  ⟨1, 0x060, 16, 16, .rc, 0x0, .any, false⟩

/-- Every page-specific field of the page PWR, for reading a whole word (R39). -/
def PWR.fields : List Field :=
  [PWR.VAUX_EN, PWR.VIN_OK, PWR.VIO_OK, PWR.HOLD_READY, PWR.XTAL_OK, PWR.TCXO_RUN, PWR.CHARGING, PWR.VAUX_FAULT, PWR.PFAIL_LEVEL, PWR.PD_ON, PWR.PD_SLEEP, PWR.VIN_MV] ++
  [PWR.VHOLD_MV, PWR.VIO_MV, PWR.VAUX_MV, PWR.HOLD_WAIT_S, PWR.VIN_WARN_MV, PWR.SAVE_RESULT, PWR.SAVE_TRIGGER, PWR.START_CAUSE, PWR.OUTAGE_MS, PWR.START_CNT, PWR.FR_KEY, PWR.CMD] ++
  [PWR.CMD_STATUS, PWR.PFAIL_CNT, PWR.VIN_WARN_CNT]

/-- R382: RW -/
def CABINET_IO.UART_EN : Field :=
  ⟨14, 0x008, 1, 1, .rw, 0x0, .any, true⟩
/-- R382: RW -/
def CABINET_IO.CSB_EN : Field :=
  ⟨14, 0x008, 2, 1, .rw, 0x0, .any, true⟩
/-- R382: RO -/
def CABINET_IO.ANY_MISMATCH : Field :=
  ⟨14, 0x00C, 8, 1, .ro, 0x0, .any, false⟩
/-- R382: RW -/
def CABINET_IO.KO_OUT : Field :=
  ⟨14, 0x040, 0, 4, .rw, 0x0, .any, true⟩
/-- R382: RW -/
def CABINET_IO.KO_HOST_MASK : Field :=
  ⟨14, 0x040, 8, 4, .rw, 0x0, .any, true⟩
/-- R382: RO -/
def CABINET_IO.KO_STATE : Field :=
  ⟨14, 0x040, 16, 4, .ro, 0x0, .any, false⟩
/-- R382: RO -/
def CABINET_IO.KF_IN : Field :=
  ⟨14, 0x044, 0, 4, .ro, 0x0, .any, false⟩
/-- R382: RW -/
def CABINET_IO.KF_POL : Field :=
  ⟨14, 0x044, 8, 4, .rw, 0x0, .any, true⟩
/-- R382: RW -/
def CABINET_IO.KF_CHECK : Field :=
  ⟨14, 0x044, 16, 4, .rw, 0x0, .any, true⟩
/-- R382: RO -/
def CABINET_IO.KO_MISMATCH : Field :=
  ⟨14, 0x044, 24, 4, .ro, 0x0, .any, false⟩
/-- R382: RW -/
def CABINET_IO.KF_DELAY_MS : Field :=
  ⟨14, 0x048, 0, 12, .rw, 0xC8, .clamp 20 4000, true⟩
/-- R382: RW -/
def CABINET_IO.GPIO_DIR : Field :=
  ⟨14, 0x050, 0, 12, .rw, 0x0, .any, true⟩
/-- R382: RW -/
def CABINET_IO.GPIO_OUT : Field :=
  ⟨14, 0x050, 16, 12, .rw, 0x0, .any, true⟩
/-- R382: RO -/
def CABINET_IO.GPIO_IN : Field :=
  ⟨14, 0x054, 0, 12, .ro, 0x0, .any, false⟩
/-- R382: RW -/
def CABINET_IO.GPIO_PU : Field :=
  ⟨14, 0x058, 0, 12, .rw, 0x0, .any, true⟩
/-- R382: RW -/
def CABINET_IO.GPIO_PD : Field :=
  ⟨14, 0x058, 16, 12, .rw, 0x0, .any, true⟩
/-- R382: RW -/
def CABINET_IO.GPIO_RISE : Field :=
  ⟨14, 0x05C, 0, 12, .rw, 0x0, .any, true⟩
/-- R382: RW -/
def CABINET_IO.GPIO_FALL : Field :=
  ⟨14, 0x05C, 16, 12, .rw, 0x0, .any, true⟩
/-- R382: W1C -/
def CABINET_IO.GPIO_EVT : Field :=
  ⟨14, 0x060, 0, 12, .w1c, 0x0, .any, false⟩
/-- R382: RW -/
def CABINET_IO.LED_RUN_MODE : Field :=
  ⟨14, 0x064, 0, 3, .rw, 0x0, .any, true⟩
/-- R382: RW -/
def CABINET_IO.LED_RADIO_MODE : Field :=
  ⟨14, 0x064, 8, 3, .rw, 0x0, .any, true⟩
/-- R382: RW -/
def CABINET_IO.LED_FAULT_MODE : Field :=
  ⟨14, 0x064, 16, 3, .rw, 0x0, .any, true⟩
/-- R382: RW -/
def CABINET_IO.LED_MA : Field :=
  ⟨14, 0x064, 24, 5, .rw, 0x5, .clamp 1 20, true⟩
/-- R382: RW -/
def CABINET_IO.BAUD : Field :=
  ⟨14, 0x070, 0, 3, .rw, 0x3, .any, true⟩
/-- R382: RW -/
def CABINET_IO.PARITY : Field :=
  ⟨14, 0x070, 4, 2, .rw, 0x0, .orElse 2 0, true⟩
/-- R382: WO -/
def CABINET_IO.TX_DATA : Field :=
  ⟨14, 0x074, 0, 8, .wo, 0x0, .any, false⟩
/-- R382: RO -/
def CABINET_IO.RX_DATA : Field :=
  ⟨14, 0x078, 0, 8, .ro, 0x0, .any, false⟩
/-- R382: RO -/
def CABINET_IO.RX_VALID : Field :=
  ⟨14, 0x078, 8, 1, .ro, 0x0, .any, false⟩
/-- R382: RO -/
def CABINET_IO.PARITY_ERR : Field :=
  ⟨14, 0x078, 9, 1, .ro, 0x0, .any, false⟩
/-- R382: RO -/
def CABINET_IO.FRAME_ERR : Field :=
  ⟨14, 0x078, 10, 1, .ro, 0x0, .any, false⟩
/-- R382: RO -/
def CABINET_IO.TX_LEVEL : Field :=
  ⟨14, 0x07C, 0, 7, .ro, 0x0, .any, false⟩
/-- R382: RO -/
def CABINET_IO.RX_LEVEL : Field :=
  ⟨14, 0x07C, 16, 7, .ro, 0x0, .any, false⟩
/-- R382: RC -/
def CABINET_IO.TX_OVF : Field :=
  ⟨14, 0x07C, 24, 1, .rc, 0x0, .any, false⟩
/-- R382: RC -/
def CABINET_IO.RX_OVF : Field :=
  ⟨14, 0x07C, 25, 1, .rc, 0x0, .any, false⟩
/-- R382: RW -/
def CABINET_IO.CSB_ADDR : Field :=
  ⟨14, 0x080, 0, 7, .rw, 0x0, .any, true⟩
/-- R382: RW -/
def CABINET_IO.CSB_WLEN : Field :=
  ⟨14, 0x080, 8, 5, .rw, 0x0, .clamp 0 16, true⟩
/-- R382: RW -/
def CABINET_IO.CSB_RLEN : Field :=
  ⟨14, 0x080, 16, 5, .rw, 0x0, .clamp 0 16, true⟩
/-- R382: RW -/
def CABINET_IO.CSB_FAST : Field :=
  ⟨14, 0x080, 24, 1, .rw, 0x0, .any, true⟩
/-- R382: WO -/
def CABINET_IO.GO : Field :=
  ⟨14, 0x084, 0, 1, .wo, 0x0, .any, false⟩
/-- R382: RO -/
def CABINET_IO.CSB_STATUS : Field :=
  ⟨14, 0x088, 0, 3, .ro, 0x0, .any, false⟩
/-- R382: RW, k < 4 -/
def CABINET_IO.CSB_WDATA (k : Nat) : Field :=
  ⟨14, 0x090 + 4 * k, 0, 32, .rw, 0x0, .any, false⟩
/-- R382: RO, k < 4 -/
def CABINET_IO.CSB_RDATA (k : Nat) : Field :=
  ⟨14, 0x0A0 + 4 * k, 0, 32, .ro, 0x0, .any, false⟩

/-- Every page-specific field of the page CABINET_IO, for reading a whole word (R39). -/
def CABINET_IO.fields : List Field :=
  [CABINET_IO.UART_EN, CABINET_IO.CSB_EN, CABINET_IO.ANY_MISMATCH, CABINET_IO.KO_OUT, CABINET_IO.KO_HOST_MASK, CABINET_IO.KO_STATE, CABINET_IO.KF_IN, CABINET_IO.KF_POL, CABINET_IO.KF_CHECK, CABINET_IO.KO_MISMATCH, CABINET_IO.KF_DELAY_MS, CABINET_IO.GPIO_DIR] ++
  [CABINET_IO.GPIO_OUT, CABINET_IO.GPIO_IN, CABINET_IO.GPIO_PU, CABINET_IO.GPIO_PD, CABINET_IO.GPIO_RISE, CABINET_IO.GPIO_FALL, CABINET_IO.GPIO_EVT, CABINET_IO.LED_RUN_MODE, CABINET_IO.LED_RADIO_MODE, CABINET_IO.LED_FAULT_MODE, CABINET_IO.LED_MA, CABINET_IO.BAUD] ++
  [CABINET_IO.PARITY, CABINET_IO.TX_DATA, CABINET_IO.RX_DATA, CABINET_IO.RX_VALID, CABINET_IO.PARITY_ERR, CABINET_IO.FRAME_ERR, CABINET_IO.TX_LEVEL, CABINET_IO.RX_LEVEL, CABINET_IO.TX_OVF, CABINET_IO.RX_OVF, CABINET_IO.CSB_ADDR, CABINET_IO.CSB_WLEN] ++
  [CABINET_IO.CSB_RLEN, CABINET_IO.CSB_FAST, CABINET_IO.GO, CABINET_IO.CSB_STATUS] ++
  (List.range 4).map (CABINET_IO.CSB_WDATA) ++
  (List.range 4).map (CABINET_IO.CSB_RDATA)

/-- R405: RO -/
def VAULT.ROOT_OK : Field :=
  ⟨9, 0x00C, 8, 1, .ro, 0x0, .any, false⟩
/-- R405: RO -/
def VAULT.RNG_OK : Field :=
  ⟨9, 0x00C, 9, 1, .ro, 0x0, .any, false⟩
/-- R405: RO -/
def VAULT.SNUFFED : Field :=
  ⟨9, 0x00C, 10, 1, .ro, 0x0, .any, false⟩
/-- R405: RO -/
def VAULT.VAULT_STATE : Field :=
  ⟨9, 0x040, 0, 2, .ro, 0x0, .any, false⟩
/-- R405: RO -/
def VAULT.PUF_ERR_PERMILLE : Field :=
  ⟨9, 0x040, 16, 10, .ro, 0x0, .any, false⟩
/-- R405: RW -/
def VAULT.REMASK_S : Field :=
  ⟨9, 0x044, 0, 12, .rw, 0x3C, .clamp 10 3600, true⟩
/-- R405: RW. DEDUCED (log entry 193). -/
def VAULT.SLOT_SEL : Field :=
  ⟨9, 0x048, 0, 5, .rw, 0x0, .any, true⟩
/-- R405: RO -/
def VAULT.S_STATE : Field :=
  ⟨9, 0x04C, 0, 2, .ro, 0x0, .any, false⟩
/-- R405: RO -/
def VAULT.S_TYPE : Field :=
  ⟨9, 0x04C, 4, 3, .ro, 0x0, .any, false⟩
/-- R405: RO -/
def VAULT.S_HALF : Field :=
  ⟨9, 0x04C, 8, 1, .ro, 0x0, .any, false⟩
/-- R405: RO -/
def VAULT.S_GEN : Field :=
  ⟨9, 0x050, 0, 32, .ro, 0x0, .any, false⟩
/-- R405: RO -/
def VAULT.S_KCV : Field :=
  ⟨9, 0x054, 0, 32, .ro, 0x0, .any, false⟩
/-- R405: WO -/
def VAULT.KEY_CMD : Field :=
  ⟨9, 0x058, 0, 2, .wo, 0x0, .any, false⟩
/-- R405: WO -/
def VAULT.FORCE : Field :=
  ⟨9, 0x058, 8, 1, .wo, 0x0, .any, false⟩
/-- R405: RO -/
def VAULT.KEY_STATUS : Field :=
  ⟨9, 0x05C, 0, 4, .ro, 0x0, .any, false⟩
/-- R405: RO -/
def VAULT.SEG_EPOCH : Field :=
  ⟨9, 0x060, 0, 8, .ro, 0x0, .any, false⟩
/-- R405: RO -/
def VAULT.NEXT_READY : Field :=
  ⟨9, 0x060, 8, 1, .ro, 0x0, .any, false⟩
/-- R405: RO -/
def VAULT.ROLL_ARMED : Field :=
  ⟨9, 0x060, 9, 1, .ro, 0x0, .any, false⟩
/-- R405: RO -/
def VAULT.PUSH_LEFT : Field :=
  ⟨9, 0x060, 16, 13, .ro, 0x0, .any, false⟩
/-- R405: RO -/
def VAULT.ROLL_AT_LO : Field :=
  ⟨9, 0x064, 0, 32, .ro, 0x0, .any, false⟩
/-- R405: RO -/
def VAULT.ROLL_AT_HI : Field :=
  ⟨9, 0x068, 0, 16, .ro, 0x0, .any, false⟩
/-- R405: RO -/
def VAULT.LAST_IMP_SLOT : Field :=
  ⟨9, 0x06C, 0, 5, .ro, 0x0, .any, false⟩
/-- R405: RO -/
def VAULT.LAST_IMP_CODE : Field :=
  ⟨9, 0x06C, 16, 16, .ro, 0x0, .any, false⟩
/-- R405: RC -/
def VAULT.IMPORT_CNT : Field :=
  ⟨9, 0x070, 0, 16, .rc, 0x0, .any, false⟩
/-- R405: RC -/
def VAULT.IMPORT_FAIL_CNT : Field :=
  ⟨9, 0x070, 16, 16, .rc, 0x0, .any, false⟩
/-- R405: RC -/
def VAULT.RNG_FAIL_CNT : Field :=
  ⟨9, 0x074, 0, 16, .rc, 0x0, .any, false⟩
/-- R405: RC -/
def VAULT.ROOT_RETRY_CNT : Field :=
  ⟨9, 0x074, 16, 16, .rc, 0x0, .any, false⟩
/-- R405: RO, k < 16 -/
def VAULT.DEVICE_PUB (k : Nat) : Field :=
  ⟨9, 0x080 + 4 * k, 0, 32, .ro, 0x0, .any, false⟩

/-- Every page-specific field of the page VAULT, for reading a whole word (R39). -/
def VAULT.fields : List Field :=
  [VAULT.ROOT_OK, VAULT.RNG_OK, VAULT.SNUFFED, VAULT.VAULT_STATE, VAULT.PUF_ERR_PERMILLE, VAULT.REMASK_S, VAULT.SLOT_SEL, VAULT.S_STATE, VAULT.S_TYPE, VAULT.S_HALF, VAULT.S_GEN, VAULT.S_KCV] ++
  [VAULT.KEY_CMD, VAULT.FORCE, VAULT.KEY_STATUS, VAULT.SEG_EPOCH, VAULT.NEXT_READY, VAULT.ROLL_ARMED, VAULT.PUSH_LEFT, VAULT.ROLL_AT_LO, VAULT.ROLL_AT_HI, VAULT.LAST_IMP_SLOT, VAULT.LAST_IMP_CODE, VAULT.IMPORT_CNT] ++
  [VAULT.IMPORT_FAIL_CNT, VAULT.RNG_FAIL_CNT, VAULT.ROOT_RETRY_CNT] ++
  (List.range 16).map (VAULT.DEVICE_PUB)

/-- R406: RW -/
def TAMPER.LOOP_EN : Field :=
  ⟨11, 0x008, 1, 1, .rw, 0x0, .any, true⟩
/-- R406: RW -/
def TAMPER.LID_EN : Field :=
  ⟨11, 0x008, 2, 1, .rw, 0x0, .any, true⟩
/-- R406: RO -/
def TAMPER.SNUFFED : Field :=
  ⟨11, 0x00C, 8, 1, .ro, 0x0, .any, false⟩
/-- R406: RO -/
def TAMPER.LOOP_OK : Field :=
  ⟨11, 0x00C, 9, 1, .ro, 0x0, .any, false⟩
/-- R406: RO -/
def TAMPER.LID_CLOSED : Field :=
  ⟨11, 0x00C, 10, 1, .ro, 0x0, .any, false⟩
/-- R406: RO -/
def TAMPER.MARK_PENDING : Field :=
  ⟨11, 0x00C, 11, 1, .ro, 0x0, .any, false⟩
/-- R406: WO -/
def TAMPER.SN_KEY : Field :=
  ⟨11, 0x040, 0, 16, .wo, 0x0, .any, false⟩
/-- R406: WO -/
def TAMPER.SN_CMD : Field :=
  ⟨11, 0x040, 16, 1, .wo, 0x0, .any, false⟩
/-- R406: RO -/
def TAMPER.ARM_STATUS : Field :=
  ⟨11, 0x044, 0, 3, .ro, 0x0, .any, false⟩
/-- R406: RO -/
def TAMPER.LAST_CAUSE : Field :=
  ⟨11, 0x048, 0, 3, .ro, 0x0, .any, false⟩
/-- R406: RO -/
def TAMPER.SNUFF_CNT : Field :=
  ⟨11, 0x048, 16, 16, .ro, 0x0, .any, false⟩
/-- R406: RO -/
def TAMPER.LAST_TIME : Field :=
  ⟨11, 0x04C, 0, 32, .ro, 0x0, .any, false⟩
/-- R406: RC -/
def TAMPER.LOOP_ERR_CNT : Field :=
  ⟨11, 0x050, 0, 16, .rc, 0x0, .any, false⟩
/-- R406: RC -/
def TAMPER.LID_BOUNCE_CNT : Field :=
  ⟨11, 0x050, 16, 16, .rc, 0x0, .any, false⟩

/-- Every page-specific field of the page TAMPER, for reading a whole word (R39). -/
def TAMPER.fields : List Field :=
  [TAMPER.LOOP_EN, TAMPER.LID_EN, TAMPER.SNUFFED, TAMPER.LOOP_OK, TAMPER.LID_CLOSED, TAMPER.MARK_PENDING, TAMPER.SN_KEY, TAMPER.SN_CMD, TAMPER.ARM_STATUS, TAMPER.LAST_CAUSE, TAMPER.SNUFF_CNT, TAMPER.LAST_TIME] ++
  [TAMPER.LOOP_ERR_CNT, TAMPER.LID_BOUNCE_CNT]

/-- R421: RO -/
def UPDATE.OP_BUSY : Field :=
  ⟨10, 0x00C, 8, 1, .ro, 0x0, .any, false⟩
/-- R421: RO -/
def UPDATE.U_STATE : Field :=
  ⟨10, 0x040, 0, 4, .ro, 0x0, .any, false⟩
/-- R421: RO -/
def UPDATE.ACT_STEP : Field :=
  ⟨10, 0x040, 8, 3, .ro, 0x0, .any, false⟩
/-- R421: WO -/
def UPDATE.CMD : Field :=
  ⟨10, 0x044, 0, 3, .wo, 0x0, .any, false⟩
/-- R421: WO -/
def UPDATE.CONFIRM_RESET : Field :=
  ⟨10, 0x044, 8, 1, .wo, 0x0, .any, false⟩
/-- R421: RO -/
def UPDATE.CMD_STATUS : Field :=
  ⟨10, 0x048, 0, 4, .ro, 0x0, .any, false⟩
/-- R421: RW -/
def UPDATE.STG_LEN : Field :=
  ⟨10, 0x04C, 0, 25, .rw, 0x0, .any, true⟩
/-- R421: RW. DEDUCED (log entry 193). -/
def UPDATE.STG_OFFSET : Field :=
  ⟨10, 0x050, 0, 25, .rw, 0x0, .aligned4, true⟩
/-- R421: RO -/
def UPDATE.STG_MISSING : Field :=
  ⟨10, 0x054, 0, 13, .ro, 0x0, .any, false⟩
/-- R421: RO -/
def UPDATE.STG_FIRST_MISSING : Field :=
  ⟨10, 0x054, 16, 13, .ro, 0x0, .any, false⟩
/-- R421: RC -/
def UPDATE.STG_DUP_CNT : Field :=
  ⟨10, 0x058, 0, 16, .rc, 0x0, .any, false⟩
/-- R421: RC -/
def UPDATE.STG_REFUSED_CNT : Field :=
  ⟨10, 0x058, 16, 16, .rc, 0x0, .any, false⟩
/-- R421: RO -/
def UPDATE.V_CODE : Field :=
  ⟨10, 0x05C, 0, 4, .ro, 0x0, .any, false⟩
/-- R421: RO -/
def UPDATE.V_PART : Field :=
  ⟨10, 0x05C, 4, 3, .ro, 0x0, .any, false⟩
/-- R421: RO -/
def UPDATE.M_SET_VER : Field :=
  ⟨10, 0x060, 0, 32, .ro, 0x0, .any, false⟩
/-- R421: RO -/
def UPDATE.M_PARTS : Field :=
  ⟨10, 0x064, 0, 6, .ro, 0x0, .any, false⟩
/-- R421: RO -/
def UPDATE.M_OVERLAP : Field :=
  ⟨10, 0x064, 8, 1, .ro, 0x0, .any, false⟩
/-- R421: RO -/
def UPDATE.M_SCHEMA : Field :=
  ⟨10, 0x064, 9, 1, .ro, 0x0, .any, false⟩
/-- R421: RO -/
def UPDATE.M_RESET_MASK : Field :=
  ⟨10, 0x064, 16, 8, .ro, 0x0, .any, false⟩
/-- R421: RW. DEDUCED (log entry 193). -/
def UPDATE.PART_SEL : Field :=
  ⟨10, 0x068, 0, 3, .rw, 0x0, .any, true⟩
/-- R421: RO -/
def UPDATE.P_TYPE : Field :=
  ⟨10, 0x06C, 0, 3, .ro, 0x0, .any, false⟩
/-- R421: RO -/
def UPDATE.P_FLAGS : Field :=
  ⟨10, 0x06C, 8, 8, .ro, 0x0, .any, false⟩
/-- R421: RO -/
def UPDATE.P_RESET_MASK : Field :=
  ⟨10, 0x06C, 16, 16, .ro, 0x0, .any, false⟩
/-- R421: RO -/
def UPDATE.P_VERSION : Field :=
  ⟨10, 0x070, 0, 32, .ro, 0x0, .any, false⟩
/-- R421: RO -/
def UPDATE.P_COMPAT_MIN : Field :=
  ⟨10, 0x074, 0, 32, .ro, 0x0, .any, false⟩
/-- R421: RO -/
def UPDATE.P_COMPAT_MAX : Field :=
  ⟨10, 0x078, 0, 32, .ro, 0x0, .any, false⟩
/-- R421: RO -/
def UPDATE.INST_SET_VER : Field :=
  ⟨10, 0x07C, 0, 32, .ro, 0x0, .any, false⟩
/-- R421: RO -/
def UPDATE.COMMIT_STATE : Field :=
  ⟨10, 0x080, 0, 2, .ro, 0x0, .any, false⟩
/-- R421: RO -/
def UPDATE.LAST_REASON : Field :=
  ⟨10, 0x080, 4, 4, .ro, 0x0, .any, false⟩
/-- R421: RO -/
def UPDATE.SLOT_A : Field :=
  ⟨10, 0x080, 8, 1, .ro, 0x0, .any, false⟩
/-- R421: RO -/
def UPDATE.SLOT_B : Field :=
  ⟨10, 0x080, 9, 1, .ro, 0x0, .any, false⟩
/-- R421: RO -/
def UPDATE.COMMIT_CNT : Field :=
  ⟨10, 0x080, 16, 16, .ro, 0x0, .any, false⟩
/-- R421: RW -/
def UPDATE.PROBATION_S : Field :=
  ⟨10, 0x084, 0, 12, .rw, 0x12C, .clamp 60 3600, true⟩
/-- R421: RO -/
def UPDATE.PROBATION_LEFT_S : Field :=
  ⟨10, 0x084, 16, 12, .ro, 0x0, .any, false⟩
/-- R421: WO, k < 128 -/
def UPDATE.STG_DATA (k : Nat) : Field :=
  ⟨10, 0x400 + 4 * k, 0, 32, .wo, 0x0, .any, false⟩

/-- Every page-specific field of the page UPDATE, for reading a whole word (R39). -/
def UPDATE.fields : List Field :=
  [UPDATE.OP_BUSY, UPDATE.U_STATE, UPDATE.ACT_STEP, UPDATE.CMD, UPDATE.CONFIRM_RESET, UPDATE.CMD_STATUS, UPDATE.STG_LEN, UPDATE.STG_OFFSET, UPDATE.STG_MISSING, UPDATE.STG_FIRST_MISSING, UPDATE.STG_DUP_CNT, UPDATE.STG_REFUSED_CNT] ++
  [UPDATE.V_CODE, UPDATE.V_PART, UPDATE.M_SET_VER, UPDATE.M_PARTS, UPDATE.M_OVERLAP, UPDATE.M_SCHEMA, UPDATE.M_RESET_MASK, UPDATE.PART_SEL, UPDATE.P_TYPE, UPDATE.P_FLAGS, UPDATE.P_RESET_MASK, UPDATE.P_VERSION] ++
  [UPDATE.P_COMPAT_MIN, UPDATE.P_COMPAT_MAX, UPDATE.INST_SET_VER, UPDATE.COMMIT_STATE, UPDATE.LAST_REASON, UPDATE.SLOT_A, UPDATE.SLOT_B, UPDATE.COMMIT_CNT, UPDATE.PROBATION_S, UPDATE.PROBATION_LEFT_S] ++
  (List.range 128).map (UPDATE.STG_DATA)

/-- R434: RO -/
def MSS.MSS_FW_VER : Field :=
  ⟨7, 0x040, 0, 32, .ro, 0x0, .any, false⟩
/-- R434: RO -/
def MSS.MSS_UPTIME_S : Field :=
  ⟨7, 0x044, 0, 32, .ro, 0x0, .any, false⟩
/-- R434: RO -/
def MSS.MSS_RESTARTS : Field :=
  ⟨7, 0x048, 0, 16, .ro, 0x0, .any, false⟩
/-- R434: RO -/
def MSS.LAST_RESTART : Field :=
  ⟨7, 0x048, 16, 4, .ro, 0x0, .any, false⟩
/-- R434: RO, s < 6 -/
def MSS.TEMP (s : Nat) : Field :=
  ⟨7, 0x050 + 4 * s, 0, 16, .ro, 0x0, .any, false⟩
/-- R434: RO -/
def MSS.HUMIDITY : Field :=
  ⟨7, 0x068, 0, 10, .ro, 0x0, .any, false⟩
/-- R434: RO -/
def MSS.LIGHT_LUX : Field :=
  ⟨7, 0x06C, 0, 16, .ro, 0x0, .any, false⟩
/-- R434: RO, r < 8 -/
def MSS.RAIL_MV (r : Nat) : Field :=
  ⟨7, 0x070 + 4 * r, 0, 16, .ro, 0x0, .any, false⟩
/-- R434: RO, r < 8 -/
def MSS.RAIL_OK (r : Nat) : Field :=
  ⟨7, 0x070 + 4 * r, 16, 1, .ro, 0x0, .any, false⟩
/-- R434: RW -/
def MSS.TEMP_HI_C : Field :=
  ⟨7, 0x090, 0, 8, .rw, 0x6E, .clamp 60 125, true⟩
/-- R434: RW -/
def MSS.HUM_HI : Field :=
  ⟨7, 0x090, 16, 8, .rw, 0x5A, .clamp 50 100, true⟩
/-- R434: RW -/
def MSS.LIGHT_THR_LUX : Field :=
  ⟨7, 0x094, 0, 14, .rw, 0x5, .clamp 1 10000, true⟩
/-- R434: RC -/
def MSS.RAIL_FAULT_CNT : Field :=
  ⟨7, 0x098, 0, 16, .rc, 0x0, .any, false⟩

/-- Every page-specific field of the page MSS, for reading a whole word (R39). -/
def MSS.fields : List Field :=
  [MSS.MSS_FW_VER, MSS.MSS_UPTIME_S, MSS.MSS_RESTARTS, MSS.LAST_RESTART, MSS.HUMIDITY, MSS.LIGHT_LUX, MSS.TEMP_HI_C, MSS.HUM_HI, MSS.LIGHT_THR_LUX, MSS.RAIL_FAULT_CNT] ++
  (List.range 6).map (MSS.TEMP) ++
  (List.range 8).map (MSS.RAIL_MV) ++
  (List.range 8).map (MSS.RAIL_OK)

/-- R435: RO -/
def EVLOG.NEWEST_SEQ : Field :=
  ⟨6, 0x040, 0, 32, .ro, 0x0, .any, false⟩
/-- R435: RO -/
def EVLOG.OLDEST_SEQ : Field :=
  ⟨6, 0x044, 0, 32, .ro, 0x0, .any, false⟩
/-- R435: RO -/
def EVLOG.REC_COUNT : Field :=
  ⟨6, 0x048, 0, 17, .ro, 0x0, .any, false⟩
/-- R435: RO -/
def EVLOG.QUEUE_LEVEL : Field :=
  ⟨6, 0x04C, 0, 7, .ro, 0x0, .any, false⟩
/-- R435: RC -/
def EVLOG.QUEUE_LOST_CNT : Field :=
  ⟨6, 0x04C, 16, 16, .rc, 0x0, .any, false⟩
/-- R435: RW -/
def EVLOG.RL_CODE : Field :=
  ⟨6, 0x050, 0, 16, .rw, 0x0, .any, false⟩
/-- R435: RW -/
def EVLOG.RL_RATE : Field :=
  ⟨6, 0x054, 0, 8, .rw, 0xA, .any, true⟩
/-- R435: RO -/
def EVLOG.RL_FIXED : Field :=
  ⟨6, 0x054, 8, 1, .ro, 0x0, .any, false⟩
/-- R435: RO -/
def EVLOG.RL_KNOWN : Field :=
  ⟨6, 0x054, 9, 1, .ro, 0x0, .any, false⟩
/-- R435: RO -/
def EVLOG.RL_PENDING : Field :=
  ⟨6, 0x054, 16, 16, .ro, 0x0, .any, false⟩
/-- R435: RW -/
def EVLOG.R_SEQ : Field :=
  ⟨6, 0x058, 0, 32, .rw, 0x0, .any, false⟩
/-- R435: RO -/
def EVLOG.R_STATUS : Field :=
  ⟨6, 0x05C, 0, 2, .ro, 0x0, .any, false⟩
/-- R435: RC -/
def EVLOG.CRC_ERR_CNT : Field :=
  ⟨6, 0x060, 0, 16, .rc, 0x0, .any, false⟩
/-- R435: RO, k < 8 -/
def EVLOG.R_DATA (k : Nat) : Field :=
  ⟨6, 0x080 + 4 * k, 0, 32, .ro, 0x0, .any, false⟩

/-- Every page-specific field of the page EVLOG, for reading a whole word (R39). -/
def EVLOG.fields : List Field :=
  [EVLOG.NEWEST_SEQ, EVLOG.OLDEST_SEQ, EVLOG.REC_COUNT, EVLOG.QUEUE_LEVEL, EVLOG.QUEUE_LOST_CNT, EVLOG.RL_CODE, EVLOG.RL_RATE, EVLOG.RL_FIXED, EVLOG.RL_KNOWN, EVLOG.RL_PENDING, EVLOG.R_SEQ, EVLOG.R_STATUS] ++
  [EVLOG.CRC_ERR_CNT] ++
  (List.range 8).map (EVLOG.R_DATA)

/-- R436: RW -/
def BIST.TARGET : Field :=
  ⟨8, 0x040, 0, 4, .rw, 0x0, .any, true⟩
/-- R436: WO -/
def BIST.CMD : Field :=
  ⟨8, 0x044, 0, 2, .wo, 0x0, .any, false⟩
/-- R436: RO -/
def BIST.RUN_STATUS : Field :=
  ⟨8, 0x048, 0, 4, .ro, 0x0, .any, false⟩
/-- R436: RO -/
def BIST.RUN_TARGET : Field :=
  ⟨8, 0x048, 4, 4, .ro, 0x0, .any, false⟩
/-- R436: RO -/
def BIST.RUN_MASTER : Field :=
  ⟨8, 0x048, 8, 3, .ro, 0x0, .any, false⟩
/-- R436: RO -/
def BIST.RUN_MS : Field :=
  ⟨8, 0x04C, 0, 32, .ro, 0x0, .any, false⟩
/-- R436: W1C -/
def BIST.FAIL_FLAGS : Field :=
  ⟨8, 0x050, 1, 8, .w1c, 0x0, .any, true⟩
/-- R436: RO -/
def BIST.FAIL_DETAIL : Field :=
  ⟨8, 0x054, 0, 32, .ro, 0x0, .any, false⟩
/-- R436: RO -/
def BIST.COND_VIN_MV : Field :=
  ⟨8, 0x058, 0, 16, .ro, 0x0, .any, false⟩
/-- R436: RO -/
def BIST.COND_TMAX : Field :=
  ⟨8, 0x058, 16, 16, .ro, 0x0, .any, false⟩
/-- R436: RC -/
def BIST.RUN_CNT : Field :=
  ⟨8, 0x05C, 0, 16, .rc, 0x0, .any, false⟩
/-- R436: RC -/
def BIST.FAIL_CNT : Field :=
  ⟨8, 0x05C, 16, 16, .rc, 0x0, .any, false⟩

/-- Every page-specific field of the page BIST, for reading a whole word (R39). -/
def BIST.fields : List Field :=
  [BIST.TARGET, BIST.CMD, BIST.RUN_STATUS, BIST.RUN_TARGET, BIST.RUN_MASTER, BIST.RUN_MS, BIST.FAIL_FLAGS, BIST.FAIL_DETAIL, BIST.COND_VIN_MV, BIST.COND_TMAX, BIST.RUN_CNT, BIST.FAIL_CNT]

end Sys2Proof.Machine
end

