-- ==== Sys2Proof/Machine/FieldsRadio.lean ====
section
/-! DEFINITION. The register fields of the pages RADIO, DUTY, LINK, TXN, each with its page, offset, lowest bit, width, access code, reset value, the value a write stores, and whether a start restores it (R44): the spec's register tables, row by row. A field of a wick page takes the wick; a field of an array takes its number. -/

namespace Sys2Proof.Machine

/-- R129: RW -/
def RADIO.TX_EN (w : Wick) : Field :=
  ⟨(w.page 1), 0x008, 1, 1, .rw, 0x0, .any, true⟩
/-- R129: RW -/
def RADIO.SINGLE_INPUT (w : Wick) : Field :=
  ⟨(w.page 1), 0x008, 2, 1, .rw, 0x0, .any, true⟩
/-- R129: RO -/
def RADIO.TCXO_LOCK (w : Wick) : Field :=
  ⟨(w.page 1), 0x00C, 8, 1, .ro, 0x0, .any, false⟩
/-- R129: RO -/
def RADIO.PLL_LOCK (w : Wick) : Field :=
  ⟨(w.page 1), 0x00C, 9, 1, .ro, 0x0, .any, false⟩
/-- R129: RO -/
def RADIO.PROFILE_VALID (w : Wick) : Field :=
  ⟨(w.page 1), 0x00C, 10, 1, .ro, 0x0, .any, false⟩
/-- R129: RO -/
def RADIO.TX_ACTIVE (w : Wick) : Field :=
  ⟨(w.page 1), 0x00C, 11, 1, .ro, 0x0, .any, false⟩
/-- R129: WO -/
def RADIO.LOAD_PRESET (w : Wick) : Field :=
  ⟨(w.page 1), 0x040, 0, 1, .wo, 0x0, .any, false⟩
/-- R129: WO -/
def RADIO.PRESET (w : Wick) : Field :=
  ⟨(w.page 1), 0x040, 8, 3, .wo, 0x0, .any, false⟩
/-- R129: RO -/
def RADIO.CMD_STATUS (w : Wick) : Field :=
  ⟨(w.page 1), 0x044, 0, 2, .ro, 0x0, .any, false⟩
/-- R129: RO -/
def RADIO.CMD_REASON (w : Wick) : Field :=
  ⟨(w.page 1), 0x044, 4, 4, .ro, 0x0, .any, false⟩
/-- R129: SH -/
def RADIO.TX_ATTEN (w : Wick) : Field :=
  ⟨(w.page 1), 0x048, 0, 6, .sh, 0x0, .clamp 0 40, true⟩
/-- R129: RO -/
def RADIO.REGION (w : Wick) : Field :=
  ⟨(w.page 1), 0x04C, 0, 8, .ro, 0x0, .any, false⟩
/-- R129: RO -/
def RADIO.PROFILE_VER (w : Wick) : Field :=
  ⟨(w.page 1), 0x04C, 8, 8, .ro, 0x0, .any, false⟩
/-- R129: RO -/
def RADIO.N_CHANNELS (w : Wick) : Field :=
  ⟨(w.page 1), 0x04C, 16, 7, .ro, 0x0, .any, false⟩
/-- R129: RO -/
def RADIO.RX_FRAMES (w : Wick) : Field :=
  ⟨(w.page 1), 0x050, 0, 32, .ro, 0x0, .any, false⟩
/-- R129: RC -/
def RADIO.RX_FCS_ERR (w : Wick) : Field :=
  ⟨(w.page 1), 0x054, 0, 16, .rc, 0x0, .any, false⟩
/-- R129: RC -/
def RADIO.RX_PHR_ERR (w : Wick) : Field :=
  ⟨(w.page 1), 0x054, 16, 16, .rc, 0x0, .any, false⟩
/-- R129: RC -/
def RADIO.RX_NO_DEMOD (w : Wick) : Field :=
  ⟨(w.page 1), 0x058, 0, 16, .rc, 0x0, .any, false⟩
/-- R129: RC -/
def RADIO.RX_BLANKED (w : Wick) : Field :=
  ⟨(w.page 1), 0x058, 16, 16, .rc, 0x0, .any, false⟩
/-- R129: RO -/
def RADIO.TX_FRAMES (w : Wick) : Field :=
  ⟨(w.page 1), 0x05C, 0, 32, .ro, 0x0, .any, false⟩
/-- R129: RC -/
def RADIO.TX_REFUSED (w : Wick) : Field :=
  ⟨(w.page 1), 0x060, 0, 16, .rc, 0x0, .any, false⟩
/-- R129: RC -/
def RADIO.TX_ABORTED (w : Wick) : Field :=
  ⟨(w.page 1), 0x060, 16, 16, .rc, 0x0, .any, false⟩
/-- R129: RC -/
def RADIO.PLL_UNLOCK_CNT (w : Wick) : Field :=
  ⟨(w.page 1), 0x064, 0, 16, .rc, 0x0, .any, false⟩
/-- R129: RO, d < 8 -/
def RADIO.CHANNEL (w : Wick) (d : Nat) : Field :=
  ⟨(w.page 1), 0x080 + 4 * d, 0, 6, .ro, 0x0, .any, false⟩
/-- R129: RO, d < 8 -/
def RADIO.DEMOD_BUSY (w : Wick) (d : Nat) : Field :=
  ⟨(w.page 1), 0x080 + 4 * d, 7, 1, .ro, 0x0, .any, false⟩
/-- R129: RO, d < 8 -/
def RADIO.INPUT (w : Wick) (d : Nat) : Field :=
  ⟨(w.page 1), 0x080 + 4 * d, 8, 1, .ro, 0x0, .any, false⟩
/-- R129: RO, d < 8 -/
def RADIO.RSSI_NEG (w : Wick) (d : Nat) : Field :=
  ⟨(w.page 1), 0x080 + 4 * d, 16, 8, .ro, 0x0, .any, false⟩
/-- R129: RO, s < 8 -/
def RADIO.CAP_LEVEL (w : Wick) (s : Nat) : Field :=
  ⟨(w.page 1), 0x0C0 + 4 * s, 0, 16, .ro, 0x0, .any, false⟩
/-- R129: RO, s < 8 -/
def RADIO.CAP_PORT (w : Wick) (s : Nat) : Field :=
  ⟨(w.page 1), 0x0C0 + 4 * s, 16, 1, .ro, 0x0, .any, false⟩
/-- R129: SH, k < 192 -/
def RADIO.PROF_DATA (w : Wick) (k : Nat) : Field :=
  ⟨(w.page 1), 0x400 + 4 * k, 0, 32, .sh, 0x0, .any, true⟩

/-- Every page-specific field of the page RADIO, for reading a whole word (R39). -/
def RADIO.fields (w : Wick) : List Field :=
  [RADIO.TX_EN w, RADIO.SINGLE_INPUT w, RADIO.TCXO_LOCK w, RADIO.PLL_LOCK w, RADIO.PROFILE_VALID w, RADIO.TX_ACTIVE w, RADIO.LOAD_PRESET w, RADIO.PRESET w, RADIO.CMD_STATUS w, RADIO.CMD_REASON w, RADIO.TX_ATTEN w, RADIO.REGION w] ++
  [RADIO.PROFILE_VER w, RADIO.N_CHANNELS w, RADIO.RX_FRAMES w, RADIO.RX_FCS_ERR w, RADIO.RX_PHR_ERR w, RADIO.RX_NO_DEMOD w, RADIO.RX_BLANKED w, RADIO.TX_FRAMES w, RADIO.TX_REFUSED w, RADIO.TX_ABORTED w, RADIO.PLL_UNLOCK_CNT w] ++
  (List.range 8).map (RADIO.CHANNEL w) ++
  (List.range 8).map (RADIO.DEMOD_BUSY w) ++
  (List.range 8).map (RADIO.INPUT w) ++
  (List.range 8).map (RADIO.RSSI_NEG w) ++
  (List.range 8).map (RADIO.CAP_LEVEL w) ++
  (List.range 8).map (RADIO.CAP_PORT w) ++
  (List.range 192).map (RADIO.PROF_DATA w)

/-- R130: WO -/
def DUTY.QUIET_ASSERT : Field :=
  ⟨12, 0x008, 1, 1, .wo, 0x0, .any, false⟩
/-- R130: RO -/
def DUTY.MODE : Field :=
  ⟨12, 0x040, 0, 1, .ro, 0x0, .any, false⟩
/-- R130: RO -/
def DUTY.RESTORED : Field :=
  ⟨12, 0x040, 1, 1, .ro, 0x0, .any, false⟩
/-- R130: RO -/
def DUTY.GAP_CHARGED : Field :=
  ⟨12, 0x040, 2, 1, .ro, 0x0, .any, false⟩
/-- R130: RO -/
def DUTY.ASSERTED : Field :=
  ⟨12, 0x040, 3, 1, .ro, 0x0, .any, false⟩
/-- R130: RO -/
def DUTY.PRESUMED_LEFT_S : Field :=
  ⟨12, 0x040, 16, 16, .ro, 0x0, .any, false⟩
/-- R130: RW -/
def DUTY.WARN_PCT : Field :=
  ⟨12, 0x044, 0, 8, .rw, 0x50, .clamp 0 100, true⟩
/-- R130: RC -/
def DUTY.REFUSE_A : Field :=
  ⟨12, 0x048, 0, 16, .rc, 0x0, .any, false⟩
/-- R130: RC -/
def DUTY.REFUSE_B : Field :=
  ⟨12, 0x048, 16, 16, .rc, 0x0, .any, false⟩
/-- R130: RC -/
def DUTY.ROLE_REFUSE : Field :=
  ⟨12, 0x04C, 0, 16, .rc, 0x0, .any, false⟩
/-- R130: RC -/
def DUTY.BEACON_REFUSE : Field :=
  ⟨12, 0x04C, 16, 16, .rc, 0x0, .any, false⟩
/-- R130: RO -/
def DUTY.LR_CODE : Field :=
  ⟨12, 0x050, 0, 4, .ro, 0x0, .any, false⟩
/-- R130: RO -/
def DUTY.LR_SUBBAND : Field :=
  ⟨12, 0x050, 4, 3, .ro, 0x0, .any, false⟩
/-- R130: RO -/
def DUTY.LR_CHANNEL : Field :=
  ⟨12, 0x050, 8, 6, .ro, 0x0, .any, false⟩
/-- R130: RO -/
def DUTY.LR_CLASS : Field :=
  ⟨12, 0x050, 16, 2, .ro, 0x0, .any, false⟩
/-- R130: RO -/
def DUTY.LR_MASTER : Field :=
  ⟨12, 0x050, 20, 3, .ro, 0x0, .any, false⟩
/-- R130: RW. DEDUCED (log entry 193). -/
def DUTY.BKT_SUB : Field :=
  ⟨12, 0x054, 0, 3, .rw, 0x0, .any, true⟩
/-- R130: RW. DEDUCED (log entry 193). -/
def DUTY.BKT_AGE : Field :=
  ⟨12, 0x054, 16, 12, .rw, 0x0, .clamp 0 3600, true⟩
/-- R130: RO -/
def DUTY.BKT_VAL : Field :=
  ⟨12, 0x058, 0, 32, .ro, 0x0, .any, false⟩
/-- R130: RO, s < 8 -/
def DUTY.USED_MS (s : Nat) : Field :=
  ⟨12, 0x080 + 16 * s, 0, 32, .ro, 0x0, .any, false⟩
/-- R130: RO, s < 8 -/
def DUTY.BUDGET_MS (s : Nat) : Field :=
  ⟨12, 0x084 + 16 * s, 0, 32, .ro, 0x0, .any, false⟩
/-- R130: RO, s < 8 -/
def DUTY.NEXT_FREE_S (s : Nat) : Field :=
  ⟨12, 0x088 + 16 * s, 0, 16, .ro, 0x0, .any, false⟩
/-- R130: RC, s < 8 -/
def DUTY.REFUSE_CNT (s : Nat) : Field :=
  ⟨12, 0x088 + 16 * s, 16, 16, .rc, 0x0, .any, false⟩
/-- R130: RO, s < 8 -/
def DUTY.USED_PCT (s : Nat) : Field :=
  ⟨12, 0x08C + 16 * s, 0, 8, .ro, 0x0, .any, false⟩
/-- R130: RO, s < 8 -/
def DUTY.PRESUMED (s : Nat) : Field :=
  ⟨12, 0x08C + 16 * s, 8, 1, .ro, 0x0, .any, false⟩
/-- R130: RO, s < 8 -/
def DUTY.LEFT_S (s : Nat) : Field :=
  ⟨12, 0x08C + 16 * s, 16, 16, .ro, 0x0, .any, false⟩
/-- R130: RO, c < 64 -/
def DUTY.DWELL_USED_MS (c : Nat) : Field :=
  ⟨12, 0x100 + 4 * c, 0, 16, .ro, 0x0, .any, false⟩

/-- Every page-specific field of the page DUTY, for reading a whole word (R39). -/
def DUTY.fields : List Field :=
  [DUTY.QUIET_ASSERT, DUTY.MODE, DUTY.RESTORED, DUTY.GAP_CHARGED, DUTY.ASSERTED, DUTY.PRESUMED_LEFT_S, DUTY.WARN_PCT, DUTY.REFUSE_A, DUTY.REFUSE_B, DUTY.ROLE_REFUSE, DUTY.BEACON_REFUSE, DUTY.LR_CODE] ++
  [DUTY.LR_SUBBAND, DUTY.LR_CHANNEL, DUTY.LR_CLASS, DUTY.LR_MASTER, DUTY.BKT_SUB, DUTY.BKT_AGE, DUTY.BKT_VAL] ++
  (List.range 8).map (DUTY.USED_MS) ++
  (List.range 8).map (DUTY.BUDGET_MS) ++
  (List.range 8).map (DUTY.NEXT_FREE_S) ++
  (List.range 8).map (DUTY.REFUSE_CNT) ++
  (List.range 8).map (DUTY.USED_PCT) ++
  (List.range 8).map (DUTY.PRESUMED) ++
  (List.range 8).map (DUTY.LEFT_S) ++
  (List.range 64).map (DUTY.DWELL_USED_MS)

/-- R163: RW -/
def LINK.BEACON_EN (w : Wick) : Field :=
  ⟨(w.page 2), 0x008, 1, 1, .rw, 0x0, .any, true⟩
/-- R163: RW -/
def LINK.CAPTURE (w : Wick) : Field :=
  ⟨(w.page 2), 0x008, 2, 1, .rw, 0x0, .any, true⟩
/-- R163: RW -/
def LINK.CAPTURE_BAD (w : Wick) : Field :=
  ⟨(w.page 2), 0x008, 3, 1, .rw, 0x0, .any, true⟩
/-- R163: RO -/
def LINK.PROFILE_USABLE (w : Wick) : Field :=
  ⟨(w.page 2), 0x00C, 8, 1, .ro, 0x0, .any, false⟩
/-- R163: RO -/
def LINK.BEACONING (w : Wick) : Field :=
  ⟨(w.page 2), 0x00C, 9, 1, .ro, 0x0, .any, false⟩
/-- R163: RO -/
def LINK.KEY_ROLL_DUE (w : Wick) : Field :=
  ⟨(w.page 2), 0x00C, 10, 1, .ro, 0x0, .any, false⟩
/-- R163: RO -/
def LINK.KEY_EXHAUSTED (w : Wick) : Field :=
  ⟨(w.page 2), 0x00C, 11, 1, .ro, 0x0, .any, false⟩
/-- R163: SH -/
def LINK.BEACON_S (w : Wick) : Field :=
  ⟨(w.page 2), 0x040, 0, 7, .sh, 0x8, .clamp 2 64, true⟩
/-- R163: SH -/
def LINK.SAMPLE_PERIOD_MS (w : Wick) : Field :=
  ⟨(w.page 2), 0x044, 0, 11, .sh, 0x3E8, .clamp 250 1000, true⟩
/-- R163: SH -/
def LINK.SAMPLE_WIN (w : Wick) : Field :=
  ⟨(w.page 2), 0x044, 16, 8, .sh, 0x14, .clamp 10 100, true⟩
/-- R163: SH -/
def LINK.MAX_TTL (w : Wick) : Field :=
  ⟨(w.page 2), 0x048, 0, 4, .sh, 0x8, .clamp 1 15, true⟩
/-- R163: SH -/
def LINK.RELAY_K (w : Wick) : Field :=
  ⟨(w.page 2), 0x048, 8, 4, .sh, 0x2, .clamp 1 8, true⟩
/-- R163: RO -/
def LINK.EFF_PERIOD_MS (w : Wick) : Field :=
  ⟨(w.page 2), 0x04C, 0, 11, .ro, 0x0, .any, false⟩
/-- R163: RO -/
def LINK.NEXT_BEACON_LO (w : Wick) : Field :=
  ⟨(w.page 2), 0x050, 0, 32, .ro, 0x0, .any, false⟩
/-- R163: RO -/
def LINK.NEXT_BEACON_HI (w : Wick) : Field :=
  ⟨(w.page 2), 0x054, 0, 16, .ro, 0x0, .any, false⟩
/-- R163: RO -/
def LINK.FCNT_A (w : Wick) : Field :=
  ⟨(w.page 2), 0x058, 0, 32, .ro, 0x0, .any, false⟩
/-- R163: RO -/
def LINK.FCNT_B (w : Wick) : Field :=
  ⟨(w.page 2), 0x05C, 0, 32, .ro, 0x0, .any, false⟩
/-- R163: RO -/
def LINK.SEQ_NEXT (w : Wick) : Field :=
  ⟨(w.page 2), 0x060, 0, 16, .ro, 0x0, .any, false⟩
/-- R163: RO -/
def LINK.BEACONS_SENT (w : Wick) : Field :=
  ⟨(w.page 2), 0x064, 0, 32, .ro, 0x0, .any, false⟩
/-- R163: RC -/
def LINK.BEACONS_SKIPPED (w : Wick) : Field :=
  ⟨(w.page 2), 0x068, 0, 16, .rc, 0x0, .any, false⟩
/-- R163: RC -/
def LINK.MIC_ERR (w : Wick) : Field :=
  ⟨(w.page 2), 0x068, 16, 16, .rc, 0x0, .any, false⟩
/-- R163: RC -/
def LINK.REPLAY_CNT (w : Wick) : Field :=
  ⟨(w.page 2), 0x06C, 0, 16, .rc, 0x0, .any, false⟩
/-- R163: RC -/
def LINK.DUP_CNT (w : Wick) : Field :=
  ⟨(w.page 2), 0x06C, 16, 16, .rc, 0x0, .any, false⟩
/-- R163: RC -/
def LINK.FOREIGN_CNT (w : Wick) : Field :=
  ⟨(w.page 2), 0x070, 0, 16, .rc, 0x0, .any, false⟩
/-- R163: RC -/
def LINK.BAD_HDR_CNT (w : Wick) : Field :=
  ⟨(w.page 2), 0x070, 16, 16, .rc, 0x0, .any, false⟩
/-- R163: RC -/
def LINK.LAMPLIGHTER_CNT (w : Wick) : Field :=
  ⟨(w.page 2), 0x074, 0, 16, .rc, 0x0, .any, false⟩
/-- R163: RC -/
def LINK.TAPER_CNT (w : Wick) : Field :=
  ⟨(w.page 2), 0x074, 16, 16, .rc, 0x0, .any, false⟩
/-- R163: RO -/
def LINK.NO_DRIFT (w : Wick) : Field :=
  ⟨(w.page 2), 0x078, 0, 13, .ro, 0x0, .any, false⟩
/-- R163: RW -/
def LINK.MODEL_ADDR (w : Wick) : Field :=
  ⟨(w.page 2), 0x080, 0, 16, .rw, 0x0, .any, true⟩
/-- R163: RO -/
def LINK.M_MODE (w : Wick) : Field :=
  ⟨(w.page 2), 0x084, 0, 2, .ro, 0x0, .any, false⟩
/-- R163: RO -/
def LINK.M_VALID (w : Wick) : Field :=
  ⟨(w.page 2), 0x084, 2, 1, .ro, 0x0, .any, false⟩
/-- R163: RO -/
def LINK.M_DRIFT_KNOWN (w : Wick) : Field :=
  ⟨(w.page 2), 0x084, 3, 1, .ro, 0x0, .any, false⟩
/-- R163: RO -/
def LINK.M_ROUTER (w : Wick) : Field :=
  ⟨(w.page 2), 0x084, 4, 1, .ro, 0x0, .any, false⟩
/-- R163: RO -/
def LINK.M_DRIFT (w : Wick) : Field :=
  ⟨(w.page 2), 0x084, 8, 8, .ro, 0x0, .any, false⟩
/-- R163: RO -/
def LINK.M_HOPS (w : Wick) : Field :=
  ⟨(w.page 2), 0x084, 16, 4, .ro, 0x0, .any, false⟩
/-- R163: RO -/
def LINK.M_SAMPLE_CH (w : Wick) : Field :=
  ⟨(w.page 2), 0x084, 24, 6, .ro, 0x0, .any, false⟩
/-- R163: RO -/
def LINK.M_SYNC_LO (w : Wick) : Field :=
  ⟨(w.page 2), 0x088, 0, 32, .ro, 0x0, .any, false⟩
/-- R163: RO -/
def LINK.M_SYNC_HI (w : Wick) : Field :=
  ⟨(w.page 2), 0x08C, 0, 16, .ro, 0x0, .any, false⟩
/-- R163: RO -/
def LINK.M_OFFSET_US (w : Wick) : Field :=
  ⟨(w.page 2), 0x090, 0, 32, .ro, 0x0, .any, false⟩
/-- R163: RO -/
def LINK.M_PRE_US (w : Wick) : Field :=
  ⟨(w.page 2), 0x094, 0, 32, .ro, 0x0, .any, false⟩

/-- Every page-specific field of the page LINK, for reading a whole word (R39). -/
def LINK.fields (w : Wick) : List Field :=
  [LINK.BEACON_EN w, LINK.CAPTURE w, LINK.CAPTURE_BAD w, LINK.PROFILE_USABLE w, LINK.BEACONING w, LINK.KEY_ROLL_DUE w, LINK.KEY_EXHAUSTED w, LINK.BEACON_S w, LINK.SAMPLE_PERIOD_MS w, LINK.SAMPLE_WIN w, LINK.MAX_TTL w, LINK.RELAY_K w] ++
  [LINK.EFF_PERIOD_MS w, LINK.NEXT_BEACON_LO w, LINK.NEXT_BEACON_HI w, LINK.FCNT_A w, LINK.FCNT_B w, LINK.SEQ_NEXT w, LINK.BEACONS_SENT w, LINK.BEACONS_SKIPPED w, LINK.MIC_ERR w, LINK.REPLAY_CNT w, LINK.DUP_CNT w, LINK.FOREIGN_CNT w] ++
  [LINK.BAD_HDR_CNT w, LINK.LAMPLIGHTER_CNT w, LINK.TAPER_CNT w, LINK.NO_DRIFT w, LINK.MODEL_ADDR w, LINK.M_MODE w, LINK.M_VALID w, LINK.M_DRIFT_KNOWN w, LINK.M_ROUTER w, LINK.M_DRIFT w, LINK.M_HOPS w, LINK.M_SAMPLE_CH w] ++
  [LINK.M_SYNC_LO w, LINK.M_SYNC_HI w, LINK.M_OFFSET_US w, LINK.M_PRE_US w]

/-- R183: RO -/
def TXN.IN_FLIGHT (w : Wick) : Field :=
  ⟨(w.page 3), 0x00C, 8, 7, .ro, 0x0, .any, false⟩
/-- R183: RO -/
def TXN.QUARANTINED (w : Wick) : Field :=
  ⟨(w.page 3), 0x00C, 16, 7, .ro, 0x0, .any, false⟩
/-- R183: RO -/
def TXN.HOST_HELD (w : Wick) : Field :=
  ⟨(w.page 3), 0x00C, 24, 7, .ro, 0x0, .any, false⟩
/-- R183: RW -/
def TXN.SUB_DEST (w : Wick) : Field :=
  ⟨(w.page 3), 0x040, 0, 16, .rw, 0x0, .any, false⟩
/-- R183: RW -/
def TXN.SUB_ACK_REQ (w : Wick) : Field :=
  ⟨(w.page 3), 0x040, 16, 1, .rw, 0x0, .any, false⟩
/-- R183: RW -/
def TXN.SUB_OPCODE (w : Wick) : Field :=
  ⟨(w.page 3), 0x044, 0, 8, .rw, 0x0, .any, false⟩
/-- R183: RW -/
def TXN.SUB_ARGLEN (w : Wick) : Field :=
  ⟨(w.page 3), 0x044, 8, 8, .rw, 0x0, .any, false⟩
/-- R183: RW -/
def TXN.SUB_RESP_WIN (w : Wick) : Field :=
  ⟨(w.page 3), 0x044, 16, 8, .rw, 0x0, .any, false⟩
/-- R183: RW -/
def TXN.SUB_MAX_ATT (w : Wick) : Field :=
  ⟨(w.page 3), 0x044, 24, 4, .rw, 0x0, .clamp 0 8, false⟩
/-- R183: RW -/
def TXN.NOT_BEFORE_LO (w : Wick) : Field :=
  ⟨(w.page 3), 0x048, 0, 32, .rw, 0x0, .any, false⟩
/-- R183: RW -/
def TXN.NOT_BEFORE_HI (w : Wick) : Field :=
  ⟨(w.page 3), 0x04C, 0, 16, .rw, 0x0, .any, false⟩
/-- R183: RW -/
def TXN.NOT_AFTER_LO (w : Wick) : Field :=
  ⟨(w.page 3), 0x050, 0, 32, .rw, 0x0, .any, false⟩
/-- R183: RW -/
def TXN.NOT_AFTER_HI (w : Wick) : Field :=
  ⟨(w.page 3), 0x054, 0, 16, .rw, 0x0, .any, false⟩
/-- R183: WO -/
def TXN.CMD (w : Wick) : Field :=
  ⟨(w.page 3), 0x058, 0, 2, .wo, 0x0, .any, false⟩
/-- R183: WO -/
def TXN.ABORT_TAG (w : Wick) : Field :=
  ⟨(w.page 3), 0x058, 8, 8, .wo, 0x0, .any, false⟩
/-- R183: RO -/
def TXN.SUB_TAG (w : Wick) : Field :=
  ⟨(w.page 3), 0x05C, 0, 8, .ro, 0x0, .any, false⟩
/-- R183: RO -/
def TXN.SUB_CODE (w : Wick) : Field :=
  ⟨(w.page 3), 0x05C, 8, 4, .ro, 0x0, .any, false⟩
/-- R183: RW -/
def TXN.MAX_ATTEMPTS (w : Wick) : Field :=
  ⟨(w.page 3), 0x060, 0, 4, .rw, 0x4, .clamp 1 8, true⟩
/-- R183: RW -/
def TXN.HOP_MS (w : Wick) : Field :=
  ⟨(w.page 3), 0x060, 8, 8, .rw, 0xA, .clamp 5 50, true⟩
/-- R183: RW -/
def TXN.BACKOFF_MS (w : Wick) : Field :=
  ⟨(w.page 3), 0x060, 16, 8, .rw, 0x5, .clamp 1 20, true⟩
/-- R183: RW -/
def TXN.HOST_MAX (w : Wick) : Field :=
  ⟨(w.page 3), 0x060, 24, 7, .rw, 0x30, .clamp 1 64, true⟩
/-- R183: RW -/
def TXN.QUAR_S (w : Wick) : Field :=
  ⟨(w.page 3), 0x064, 0, 6, .rw, 0x10, .clamp 16 60, true⟩
/-- R183: RW -/
def TXN.QUEUE_LIMIT_S (w : Wick) : Field :=
  ⟨(w.page 3), 0x064, 16, 12, .rw, 0x3C, .clamp 1 3600, true⟩
/-- R183: RC -/
def TXN.TXN_STALE_CNT (w : Wick) : Field :=
  ⟨(w.page 3), 0x068, 0, 16, .rc, 0x0, .any, false⟩
/-- R183: RC -/
def TXN.TXN_LATE_CNT (w : Wick) : Field :=
  ⟨(w.page 3), 0x068, 16, 16, .rc, 0x0, .any, false⟩
/-- R183: RC -/
def TXN.TXN_MISMATCH_CNT (w : Wick) : Field :=
  ⟨(w.page 3), 0x06C, 0, 16, .rc, 0x0, .any, false⟩
/-- R183: RC -/
def TXN.RETRY_CNT (w : Wick) : Field :=
  ⟨(w.page 3), 0x06C, 16, 16, .rc, 0x0, .any, false⟩
/-- R183: RC -/
def TXN.LEDGER_WAIT_CNT (w : Wick) : Field :=
  ⟨(w.page 3), 0x070, 0, 16, .rc, 0x0, .any, false⟩
/-- R183: RC -/
def TXN.TIMEOUT_CNT (w : Wick) : Field :=
  ⟨(w.page 3), 0x070, 16, 16, .rc, 0x0, .any, false⟩
/-- R183: RO, n < 64 -/
def TXN.S_STATE (w : Wick) (n : Nat) : Field :=
  ⟨(w.page 3), 0x100 + 4 * n, 0, 3, .ro, 0x0, .any, false⟩
/-- R183: RO, n < 64 -/
def TXN.S_EPOCH (w : Wick) (n : Nat) : Field :=
  ⟨(w.page 3), 0x100 + 4 * n, 6, 2, .ro, 0x0, .any, false⟩
/-- R183: RO, n < 64 -/
def TXN.S_HOST (w : Wick) (n : Nat) : Field :=
  ⟨(w.page 3), 0x100 + 4 * n, 8, 1, .ro, 0x0, .any, false⟩
/-- R183: RO, n < 64 -/
def TXN.S_ATTEMPT (w : Wick) (n : Nat) : Field :=
  ⟨(w.page 3), 0x100 + 4 * n, 9, 3, .ro, 0x0, .any, false⟩
/-- R183: RO, n < 64 -/
def TXN.S_DEST (w : Wick) (n : Nat) : Field :=
  ⟨(w.page 3), 0x100 + 4 * n, 16, 16, .ro, 0x0, .any, false⟩
/-- R183: RO -/
def TXN.RES_LEVEL (w : Wick) : Field :=
  ⟨(w.page 3), 0x200, 0, 9, .ro, 0x0, .any, false⟩
/-- R183: RC -/
def TXN.RES_LOST (w : Wick) : Field :=
  ⟨(w.page 3), 0x200, 16, 16, .rc, 0x0, .any, false⟩
/-- R183: WO -/
def TXN.RES_POP (w : Wick) : Field :=
  ⟨(w.page 3), 0x204, 0, 1, .wo, 0x0, .any, false⟩
/-- R183: RO, k < 5 -/
def TXN.RES_REC (w : Wick) (k : Nat) : Field :=
  ⟨(w.page 3), 0x210 + 4 * k, 0, 32, .ro, 0x0, .any, false⟩
/-- R183: RW. DEDUCED (log entry 193). -/
def TXN.RESP_TAG (w : Wick) : Field :=
  ⟨(w.page 3), 0x300, 0, 8, .rw, 0x0, .any, true⟩
/-- R183: RW. DEDUCED (log entry 193). -/
def TXN.RESP_START (w : Wick) : Field :=
  ⟨(w.page 3), 0x300, 16, 12, .rw, 0x0, .any, true⟩
/-- R183: RO -/
def TXN.RESP_STATUS (w : Wick) : Field :=
  ⟨(w.page 3), 0x304, 0, 2, .ro, 0x0, .any, false⟩
/-- R183: RO -/
def TXN.RESP_TOTAL (w : Wick) : Field :=
  ⟨(w.page 3), 0x304, 16, 13, .ro, 0x0, .any, false⟩
/-- R183: RO, k < 16 -/
def TXN.E_ADDR (w : Wick) (k : Nat) : Field :=
  ⟨(w.page 3), 0x320 + 4 * k, 0, 16, .ro, 0x0, .any, false⟩
/-- R183: RO, k < 16 -/
def TXN.E_RESULT (w : Wick) (k : Nat) : Field :=
  ⟨(w.page 3), 0x320 + 4 * k, 16, 8, .ro, 0x0, .any, false⟩
/-- R183: RO, k < 16 -/
def TXN.E_UNEXPECTED (w : Wick) (k : Nat) : Field :=
  ⟨(w.page 3), 0x320 + 4 * k, 30, 1, .ro, 0x0, .any, false⟩
/-- R183: RO, k < 16 -/
def TXN.E_VALID (w : Wick) (k : Nat) : Field :=
  ⟨(w.page 3), 0x320 + 4 * k, 31, 1, .ro, 0x0, .any, false⟩
/-- R183: RW, k < 55 -/
def TXN.SUB_ARG (w : Wick) (k : Nat) : Field :=
  ⟨(w.page 3), 0x400 + 4 * k, 0, 32, .rw, 0x0, .any, false⟩

/-- Every page-specific field of the page TXN, for reading a whole word (R39). -/
def TXN.fields (w : Wick) : List Field :=
  [TXN.IN_FLIGHT w, TXN.QUARANTINED w, TXN.HOST_HELD w, TXN.SUB_DEST w, TXN.SUB_ACK_REQ w, TXN.SUB_OPCODE w, TXN.SUB_ARGLEN w, TXN.SUB_RESP_WIN w, TXN.SUB_MAX_ATT w, TXN.NOT_BEFORE_LO w, TXN.NOT_BEFORE_HI w, TXN.NOT_AFTER_LO w] ++
  [TXN.NOT_AFTER_HI w, TXN.CMD w, TXN.ABORT_TAG w, TXN.SUB_TAG w, TXN.SUB_CODE w, TXN.MAX_ATTEMPTS w, TXN.HOP_MS w, TXN.BACKOFF_MS w, TXN.HOST_MAX w, TXN.QUAR_S w, TXN.QUEUE_LIMIT_S w, TXN.TXN_STALE_CNT w] ++
  [TXN.TXN_LATE_CNT w, TXN.TXN_MISMATCH_CNT w, TXN.RETRY_CNT w, TXN.LEDGER_WAIT_CNT w, TXN.TIMEOUT_CNT w, TXN.RES_LEVEL w, TXN.RES_LOST w, TXN.RES_POP w, TXN.RESP_TAG w, TXN.RESP_START w, TXN.RESP_STATUS w, TXN.RESP_TOTAL w] ++
  (List.range 64).map (TXN.S_STATE w) ++
  (List.range 64).map (TXN.S_EPOCH w) ++
  (List.range 64).map (TXN.S_HOST w) ++
  (List.range 64).map (TXN.S_ATTEMPT w) ++
  (List.range 64).map (TXN.S_DEST w) ++
  (List.range 5).map (TXN.RES_REC w) ++
  (List.range 16).map (TXN.E_ADDR w) ++
  (List.range 16).map (TXN.E_RESULT w) ++
  (List.range 16).map (TXN.E_UNEXPECTED w) ++
  (List.range 16).map (TXN.E_VALID w) ++
  (List.range 55).map (TXN.SUB_ARG w)

end Sys2Proof.Machine
end

