-- ==== Sys2Proof/Machine/FieldsStreet.lean ====
section
/-! DEFINITION. The register fields of the pages REGISTRY, SCHED, WAVE, METER, HARM, each with its page, offset, lowest bit, width, access code, reset value, the value a write stores, and whether a start restores it (R44): the spec's register tables, row by row. A field of a wick page takes the wick; a field of an array takes its number. -/

namespace Sys2Proof.Machine

/-- R211: RW -/
def REGISTRY.JOIN_OPEN (w : Wick) : Field :=
  ⟨(w.page 4), 0x008, 1, 1, .rw, 0x0, .any, true⟩
/-- R211: RW -/
def REGISTRY.ROAM_ACCEPT (w : Wick) : Field :=
  ⟨(w.page 4), 0x008, 2, 1, .rw, 0x0, .any, true⟩
/-- R211: RW -/
def REGISTRY.AUTO_ROLE (w : Wick) : Field :=
  ⟨(w.page 4), 0x008, 3, 1, .rw, 0x0, .any, true⟩
/-- R211: RO -/
def REGISTRY.LOOKUP_BUSY (w : Wick) : Field :=
  ⟨(w.page 4), 0x00C, 8, 1, .ro, 0x0, .any, false⟩
/-- R211: RO -/
def REGISTRY.N_JOINED (w : Wick) : Field :=
  ⟨(w.page 4), 0x040, 0, 13, .ro, 0x0, .any, false⟩
/-- R211: RO -/
def REGISTRY.N_USED (w : Wick) : Field :=
  ⟨(w.page 4), 0x040, 16, 13, .ro, 0x0, .any, false⟩
/-- R211: RW -/
def REGISTRY.ROAM_BASE (w : Wick) : Field :=
  ⟨(w.page 4), 0x044, 0, 13, .rw, 0xF01, .clamp 1 4096, true⟩
/-- R211: RW -/
def REGISTRY.LAST_S (w : Wick) : Field :=
  ⟨(w.page 4), 0x048, 0, 17, .rw, 0x384, .clamp 60 86400, true⟩
/-- R211: RW -/
def REGISTRY.FAULT_THRESH (w : Wick) : Field :=
  ⟨(w.page 4), 0x048, 24, 4, .rw, 0x3, .clamp 1 15, true⟩
/-- R211: RW -/
def REGISTRY.SILENT_S (w : Wick) : Field :=
  ⟨(w.page 4), 0x04C, 0, 17, .rw, 0xA8C, .clamp 900 86400, true⟩
/-- R211: RW -/
def REGISTRY.LIFE_PCT (w : Wick) : Field :=
  ⟨(w.page 4), 0x04C, 24, 7, .rw, 0x5A, .clamp 50 100, true⟩
/-- R211: RW -/
def REGISTRY.RETURN_S (w : Wick) : Field :=
  ⟨(w.page 4), 0x050, 0, 16, .rw, 0xE10, .any, true⟩
/-- R211: RC -/
def REGISTRY.JOIN_UNKNOWN_CNT (w : Wick) : Field :=
  ⟨(w.page 4), 0x054, 0, 16, .rc, 0x0, .any, false⟩
/-- R211: RC -/
def REGISTRY.JOIN_REFUSED_CNT (w : Wick) : Field :=
  ⟨(w.page 4), 0x054, 16, 16, .rc, 0x0, .any, false⟩
/-- R211: RC -/
def REGISTRY.ENGINE_SWAP_CNT (w : Wick) : Field :=
  ⟨(w.page 4), 0x058, 0, 16, .rc, 0x0, .any, false⟩
/-- R211: RC -/
def REGISTRY.COUNT_RESET_CNT (w : Wick) : Field :=
  ⟨(w.page 4), 0x058, 16, 16, .rc, 0x0, .any, false⟩
/-- R211: RO -/
def REGISTRY.N_ADDR (w : Wick) : Field :=
  ⟨(w.page 4), 0x060, 0, 16, .ro, 0x0, .any, false⟩
/-- R211: RO -/
def REGISTRY.N_KIND (w : Wick) : Field :=
  ⟨(w.page 4), 0x060, 16, 4, .ro, 0x0, .any, false⟩
/-- R211: RO -/
def REGISTRY.N_LEVEL (w : Wick) : Field :=
  ⟨(w.page 4), 0x060, 24, 7, .ro, 0x0, .any, false⟩
/-- R211: WO -/
def REGISTRY.NOTICE_POP (w : Wick) : Field :=
  ⟨(w.page 4), 0x064, 0, 1, .wo, 0x0, .any, false⟩
/-- R211: WO -/
def REGISTRY.FAULT_ACK (w : Wick) : Field :=
  ⟨(w.page 4), 0x064, 1, 1, .wo, 0x0, .any, false⟩
/-- R211: WO -/
def REGISTRY.ACK_ADDR (w : Wick) : Field :=
  ⟨(w.page 4), 0x064, 16, 16, .wo, 0x0, .any, false⟩
/-- R211: RC -/
def REGISTRY.NOTICE_LOST (w : Wick) : Field :=
  ⟨(w.page 4), 0x068, 0, 8, .rc, 0x0, .any, false⟩

/-- Every page-specific field of the page REGISTRY, for reading a whole word (R39). -/
def REGISTRY.fields (w : Wick) : List Field :=
  [REGISTRY.JOIN_OPEN w, REGISTRY.ROAM_ACCEPT w, REGISTRY.AUTO_ROLE w, REGISTRY.LOOKUP_BUSY w, REGISTRY.N_JOINED w, REGISTRY.N_USED w, REGISTRY.ROAM_BASE w, REGISTRY.LAST_S w, REGISTRY.FAULT_THRESH w, REGISTRY.SILENT_S w, REGISTRY.LIFE_PCT w, REGISTRY.RETURN_S w] ++
  [REGISTRY.JOIN_UNKNOWN_CNT w, REGISTRY.JOIN_REFUSED_CNT w, REGISTRY.ENGINE_SWAP_CNT w, REGISTRY.COUNT_RESET_CNT w, REGISTRY.N_ADDR w, REGISTRY.N_KIND w, REGISTRY.N_LEVEL w, REGISTRY.NOTICE_POP w, REGISTRY.FAULT_ACK w, REGISTRY.ACK_ADDR w, REGISTRY.NOTICE_LOST w]

/-- R212: RW -/
def SCHED.KO_EN (w : Wick) : Field :=
  ⟨(w.page 5), 0x008, 1, 1, .rw, 0x0, .any, true⟩
/-- R212: RO -/
def SCHED.UTC_OK (w : Wick) : Field :=
  ⟨(w.page 5), 0x00C, 8, 1, .ro, 0x0, .any, false⟩
/-- R212: RO -/
def SCHED.ASTRO_OK (w : Wick) : Field :=
  ⟨(w.page 5), 0x00C, 9, 1, .ro, 0x0, .any, false⟩
/-- R212: RO -/
def SCHED.POLAR (w : Wick) : Field :=
  ⟨(w.page 5), 0x00C, 10, 1, .ro, 0x0, .any, false⟩
/-- R212: SH -/
def SCHED.LAT_UDEG (w : Wick) : Field :=
  ⟨(w.page 5), 0x040, 0, 32, .sh, 0x0, .any, true⟩
/-- R212: SH -/
def SCHED.LON_UDEG (w : Wick) : Field :=
  ⟨(w.page 5), 0x044, 0, 32, .sh, 0x0, .any, true⟩
/-- R212: SH -/
def SCHED.UTC_OFF_MIN (w : Wick) : Field :=
  ⟨(w.page 5), 0x048, 0, 16, .sh, 0x0, .any, true⟩
/-- R212: SH -/
def SCHED.DST_MIN (w : Wick) : Field :=
  ⟨(w.page 5), 0x048, 16, 8, .sh, 0x0, .any, true⟩
/-- R212: SH, e < 2 -/
def SCHED.DST_MONTH (w : Wick) (e : Nat) : Field :=
  ⟨(w.page 5), 0x04C + 4 * e, 0, 4, .sh, 0x0, .any, true⟩
/-- R212: SH, e < 2 -/
def SCHED.DST_WEEK (w : Wick) (e : Nat) : Field :=
  ⟨(w.page 5), 0x04C + 4 * e, 4, 3, .sh, 0x0, .any, true⟩
/-- R212: SH, e < 2 -/
def SCHED.DST_WEEKDAY (w : Wick) (e : Nat) : Field :=
  ⟨(w.page 5), 0x04C + 4 * e, 8, 3, .sh, 0x0, .any, true⟩
/-- R212: SH, e < 2 -/
def SCHED.DST_MINUTE (w : Wick) (e : Nat) : Field :=
  ⟨(w.page 5), 0x04C + 4 * e, 16, 11, .sh, 0x0, .any, true⟩
/-- R212: SH -/
def SCHED.REFRESH_MIN (w : Wick) : Field :=
  ⟨(w.page 5), 0x054, 0, 11, .sh, 0x2D0, .clamp 0 1439, true⟩
/-- R212: SH -/
def SCHED.LEAD_S (w : Wick) : Field :=
  ⟨(w.page 5), 0x054, 16, 9, .sh, 0x1E, .clamp 5 300, true⟩
/-- R212: RO -/
def SCHED.SUNRISE_MIN (w : Wick) : Field :=
  ⟨(w.page 5), 0x058, 0, 11, .ro, 0x7FF, .any, false⟩
/-- R212: RO -/
def SCHED.SUNSET_MIN (w : Wick) : Field :=
  ⟨(w.page 5), 0x058, 16, 11, .ro, 0x7FF, .any, false⟩
/-- R212: RO -/
def SCHED.DAWN_MIN (w : Wick) : Field :=
  ⟨(w.page 5), 0x05C, 0, 11, .ro, 0x7FF, .any, false⟩
/-- R212: RO -/
def SCHED.DUSK_MIN (w : Wick) : Field :=
  ⟨(w.page 5), 0x05C, 16, 11, .ro, 0x7FF, .any, false⟩
/-- R212: RO -/
def SCHED.NEXT_STEP_LO (w : Wick) : Field :=
  ⟨(w.page 5), 0x060, 0, 32, .ro, 0x0, .any, false⟩
/-- R212: RO -/
def SCHED.NEXT_STEP_HI (w : Wick) : Field :=
  ⟨(w.page 5), 0x064, 0, 16, .ro, 0x0, .any, false⟩
/-- R212: RO -/
def SCHED.NEXT_PROG (w : Wick) : Field :=
  ⟨(w.page 5), 0x064, 16, 6, .ro, 0x0, .any, false⟩
/-- R212: RC -/
def SCHED.CLIPPED_CNT (w : Wick) : Field :=
  ⟨(w.page 5), 0x068, 0, 16, .rc, 0x0, .any, false⟩
/-- R212: RC -/
def SCHED.ABSENT_CNT (w : Wick) : Field :=
  ⟨(w.page 5), 0x068, 16, 16, .rc, 0x0, .any, false⟩
/-- R212: RO -/
def SCHED.SCHED_PENDING_N (w : Wick) : Field :=
  ⟨(w.page 5), 0x06C, 0, 13, .ro, 0x0, .any, false⟩

/-- Every page-specific field of the page SCHED, for reading a whole word (R39). -/
def SCHED.fields (w : Wick) : List Field :=
  [SCHED.KO_EN w, SCHED.UTC_OK w, SCHED.ASTRO_OK w, SCHED.POLAR w, SCHED.LAT_UDEG w, SCHED.LON_UDEG w, SCHED.UTC_OFF_MIN w, SCHED.DST_MIN w, SCHED.REFRESH_MIN w, SCHED.LEAD_S w, SCHED.SUNRISE_MIN w, SCHED.SUNSET_MIN w] ++
  [SCHED.DAWN_MIN w, SCHED.DUSK_MIN w, SCHED.NEXT_STEP_LO w, SCHED.NEXT_STEP_HI w, SCHED.NEXT_PROG w, SCHED.CLIPPED_CNT w, SCHED.ABSENT_CNT w, SCHED.SCHED_PENDING_N w] ++
  (List.range 2).map (SCHED.DST_MONTH w) ++
  (List.range 2).map (SCHED.DST_WEEK w) ++
  (List.range 2).map (SCHED.DST_WEEKDAY w) ++
  (List.range 2).map (SCHED.DST_MINUTE w)

/-- R241: RW -/
def WAVE.PROFILE_EN (w : Wick) : Field :=
  ⟨(w.page 6), 0x008, 1, 1, .rw, 0x0, .any, true⟩
/-- R241: RO -/
def WAVE.PROFILE_READY (w : Wick) : Field :=
  ⟨(w.page 6), 0x00C, 8, 1, .ro, 0x0, .any, false⟩
/-- R241: RO -/
def WAVE.LIVE (w : Wick) : Field :=
  ⟨(w.page 6), 0x00C, 9, 1, .ro, 0x0, .any, false⟩
/-- R241: SH -/
def WAVE.N_NODES (w : Wick) : Field :=
  ⟨(w.page 6), 0x040, 0, 13, .sh, 0x0, .any, true⟩
/-- R241: SH -/
def WAVE.N_EDGES (w : Wick) : Field :=
  ⟨(w.page 6), 0x040, 16, 14, .sh, 0x0, .any, true⟩
/-- R241: RW -/
def WAVE.DET_MAX_AGE_MS (w : Wick) : Field :=
  ⟨(w.page 6), 0x044, 0, 13, .rw, 0x3E8, .clamp 100 5000, true⟩
/-- R241: RW -/
def WAVE.TRACK_TTL_S (w : Wick) : Field :=
  ⟨(w.page 6), 0x044, 16, 7, .rw, 0xA, .clamp 2 120, true⟩
/-- R241: RW -/
def WAVE.MIN_CONF (w : Wick) : Field :=
  ⟨(w.page 6), 0x044, 24, 7, .rw, 0x32, .clamp 0 100, true⟩
/-- R241: RW -/
def WAVE.REPLAN_MS (w : Wick) : Field :=
  ⟨(w.page 6), 0x048, 0, 12, .rw, 0x1F4, .clamp 100 2000, true⟩
/-- R241: RW -/
def WAVE.WAVE_REPEATS (w : Wick) : Field :=
  ⟨(w.page 6), 0x048, 16, 3, .rw, 0x2, .clamp 1 4, true⟩
/-- R241: RW -/
def WAVE.PRE_LEAD_S (w : Wick) : Field :=
  ⟨(w.page 6), 0x048, 24, 8, .rw, 0x3C, .clamp 10 240, true⟩
/-- R241: RO -/
def WAVE.HIST_HOURS (w : Wick) : Field :=
  ⟨(w.page 6), 0x04C, 0, 9, .ro, 0x0, .any, false⟩
/-- R241: RO -/
def WAVE.ACTIVE_WAVES (w : Wick) : Field :=
  ⟨(w.page 6), 0x050, 0, 32, .ro, 0x0, .any, false⟩
/-- R241: RO -/
def WAVE.N_TRACKS (w : Wick) : Field :=
  ⟨(w.page 6), 0x054, 0, 7, .ro, 0x0, .any, false⟩
/-- R241: RO -/
def WAVE.N_PROVISIONAL (w : Wick) : Field :=
  ⟨(w.page 6), 0x054, 8, 7, .ro, 0x0, .any, false⟩
/-- R241: WO -/
def WAVE.WAVE_CMD (w : Wick) : Field :=
  ⟨(w.page 6), 0x058, 0, 2, .wo, 0x0, .any, false⟩
/-- R241: WO -/
def WAVE.WAVE_SEL (w : Wick) : Field :=
  ⟨(w.page 6), 0x058, 8, 5, .wo, 0x0, .any, false⟩
/-- R241: WO -/
def WAVE.RESTORE (w : Wick) : Field :=
  ⟨(w.page 6), 0x058, 16, 1, .wo, 0x0, .any, false⟩
/-- R241: RO -/
def WAVE.WAVE_CMD_STATUS (w : Wick) : Field :=
  ⟨(w.page 6), 0x05C, 0, 3, .ro, 0x0, .any, false⟩
/-- R241: RW -/
def WAVE.INJ_NODE (w : Wick) : Field :=
  ⟨(w.page 6), 0x060, 0, 13, .rw, 0x0, .any, true⟩
/-- R241: RW -/
def WAVE.INJ_KIND (w : Wick) : Field :=
  ⟨(w.page 6), 0x060, 16, 2, .rw, 0x0, .any, true⟩
/-- R241: RW -/
def WAVE.INJ_BEARING (w : Wick) : Field :=
  ⟨(w.page 6), 0x060, 24, 8, .rw, 0x0, .any, true⟩
/-- R241: RW -/
def WAVE.INJ_SPEED (w : Wick) : Field :=
  ⟨(w.page 6), 0x064, 0, 8, .rw, 0x0, .any, true⟩
/-- R241: RW -/
def WAVE.INJ_CONF (w : Wick) : Field :=
  ⟨(w.page 6), 0x064, 8, 7, .rw, 0x0, .any, true⟩
/-- R241: RW -/
def WAVE.INJ_TIME_LO (w : Wick) : Field :=
  ⟨(w.page 6), 0x068, 0, 32, .rw, 0x0, .any, true⟩
/-- R241: RW -/
def WAVE.INJ_TIME_HI (w : Wick) : Field :=
  ⟨(w.page 6), 0x06C, 0, 16, .rw, 0x0, .any, true⟩
/-- R241: RC -/
def WAVE.DET_CNT (w : Wick) : Field :=
  ⟨(w.page 6), 0x070, 0, 16, .rc, 0x0, .any, false⟩
/-- R241: RC -/
def WAVE.DET_STALE_CNT (w : Wick) : Field :=
  ⟨(w.page 6), 0x070, 16, 16, .rc, 0x0, .any, false⟩
/-- R241: RC -/
def WAVE.DET_NO_NODE_CNT (w : Wick) : Field :=
  ⟨(w.page 6), 0x074, 0, 16, .rc, 0x0, .any, false⟩
/-- R241: RC -/
def WAVE.TRACK_NEW_CNT (w : Wick) : Field :=
  ⟨(w.page 6), 0x074, 16, 16, .rc, 0x0, .any, false⟩
/-- R241: RC -/
def WAVE.WAVE_FULL_CNT (w : Wick) : Field :=
  ⟨(w.page 6), 0x078, 0, 16, .rc, 0x0, .any, false⟩
/-- R241: RC -/
def WAVE.LATE_ENTRY_CNT (w : Wick) : Field :=
  ⟨(w.page 6), 0x078, 16, 16, .rc, 0x0, .any, false⟩
/-- R241: RC -/
def WAVE.HANDOFF_OUT_CNT (w : Wick) : Field :=
  ⟨(w.page 6), 0x07C, 0, 16, .rc, 0x0, .any, false⟩
/-- R241: RC -/
def WAVE.HANDOFF_IN_CNT (w : Wick) : Field :=
  ⟨(w.page 6), 0x07C, 16, 16, .rc, 0x0, .any, false⟩
/-- R241: RC -/
def WAVE.HANDOFF_REFUSED_CNT (w : Wick) : Field :=
  ⟨(w.page 6), 0x080, 0, 16, .rc, 0x0, .any, false⟩
/-- R241: RC -/
def WAVE.TRACK_FULL_CNT (w : Wick) : Field :=
  ⟨(w.page 6), 0x080, 16, 16, .rc, 0x0, .any, false⟩
/-- R241: RW. DEDUCED (log entry 193). -/
def WAVE.PROG_SEL (w : Wick) : Field :=
  ⟨(w.page 6), 0x084, 0, 6, .rw, 0x0, .any, true⟩
/-- R241: RW. DEDUCED (log entry 193). -/
def WAVE.TRK_SEL (w : Wick) : Field :=
  ⟨(w.page 6), 0x0C0, 0, 6, .rw, 0x0, .any, false⟩
/-- R241: RO -/
def WAVE.T_STATE (w : Wick) : Field :=
  ⟨(w.page 6), 0x0C4, 0, 2, .ro, 0x0, .any, false⟩
/-- R241: RO -/
def WAVE.T_KIND (w : Wick) : Field :=
  ⟨(w.page 6), 0x0C4, 2, 2, .ro, 0x0, .any, false⟩
/-- R241: RO -/
def WAVE.T_PROGRAM (w : Wick) : Field :=
  ⟨(w.page 6), 0x0C4, 8, 8, .ro, 0x0, .any, false⟩
/-- R241: RO -/
def WAVE.T_WAVE (w : Wick) : Field :=
  ⟨(w.page 6), 0x0C4, 16, 5, .ro, 0x0, .any, false⟩
/-- R241: RO -/
def WAVE.T_HAS_WAVE (w : Wick) : Field :=
  ⟨(w.page 6), 0x0C4, 21, 1, .ro, 0x0, .any, false⟩
/-- R241: RO -/
def WAVE.T_NODE (w : Wick) : Field :=
  ⟨(w.page 6), 0x0C8, 0, 13, .ro, 0x0, .any, false⟩
/-- R241: RO -/
def WAVE.T_PREV (w : Wick) : Field :=
  ⟨(w.page 6), 0x0C8, 16, 13, .ro, 0x0, .any, false⟩
/-- R241: RO -/
def WAVE.T_SPEED_CMS (w : Wick) : Field :=
  ⟨(w.page 6), 0x0CC, 0, 16, .ro, 0x0, .any, false⟩
/-- R241: RO -/
def WAVE.T_DETS (w : Wick) : Field :=
  ⟨(w.page 6), 0x0CC, 16, 16, .ro, 0x0, .any, false⟩
/-- R241: RO -/
def WAVE.T_LAST_LO (w : Wick) : Field :=
  ⟨(w.page 6), 0x0D0, 0, 32, .ro, 0x0, .any, false⟩
/-- R241: RO -/
def WAVE.T_LAST_HI (w : Wick) : Field :=
  ⟨(w.page 6), 0x0D4, 0, 16, .ro, 0x0, .any, false⟩
/-- R241: SH, k < 8 -/
def WAVE.PROG_DATA (w : Wick) (k : Nat) : Field :=
  ⟨(w.page 6), 0x400 + 4 * k, 0, 32, .sh, 0x0, .any, true⟩

/-- Every page-specific field of the page WAVE, for reading a whole word (R39). -/
def WAVE.fields (w : Wick) : List Field :=
  [WAVE.PROFILE_EN w, WAVE.PROFILE_READY w, WAVE.LIVE w, WAVE.N_NODES w, WAVE.N_EDGES w, WAVE.DET_MAX_AGE_MS w, WAVE.TRACK_TTL_S w, WAVE.MIN_CONF w, WAVE.REPLAN_MS w, WAVE.WAVE_REPEATS w, WAVE.PRE_LEAD_S w, WAVE.HIST_HOURS w] ++
  [WAVE.ACTIVE_WAVES w, WAVE.N_TRACKS w, WAVE.N_PROVISIONAL w, WAVE.WAVE_CMD w, WAVE.WAVE_SEL w, WAVE.RESTORE w, WAVE.WAVE_CMD_STATUS w, WAVE.INJ_NODE w, WAVE.INJ_KIND w, WAVE.INJ_BEARING w, WAVE.INJ_SPEED w, WAVE.INJ_CONF w] ++
  [WAVE.INJ_TIME_LO w, WAVE.INJ_TIME_HI w, WAVE.DET_CNT w, WAVE.DET_STALE_CNT w, WAVE.DET_NO_NODE_CNT w, WAVE.TRACK_NEW_CNT w, WAVE.WAVE_FULL_CNT w, WAVE.LATE_ENTRY_CNT w, WAVE.HANDOFF_OUT_CNT w, WAVE.HANDOFF_IN_CNT w, WAVE.HANDOFF_REFUSED_CNT w, WAVE.TRACK_FULL_CNT w] ++
  [WAVE.PROG_SEL w, WAVE.TRK_SEL w, WAVE.T_STATE w, WAVE.T_KIND w, WAVE.T_PROGRAM w, WAVE.T_WAVE w, WAVE.T_HAS_WAVE w, WAVE.T_NODE w, WAVE.T_PREV w, WAVE.T_SPEED_CMS w, WAVE.T_DETS w, WAVE.T_LAST_LO w] ++
  [WAVE.T_LAST_HI w] ++
  (List.range 8).map (WAVE.PROG_DATA w)

/-- R274: W1S -/
def METER.SEAL (w : Wick) : Field :=
  ⟨(w.page 7), 0x008, 1, 1, .w1s, 0x0, .any, true⟩
/-- R274: RO -/
def METER.FLL_LOCK (w : Wick) : Field :=
  ⟨(w.page 7), 0x00C, 8, 1, .ro, 0x0, .any, false⟩
/-- R274: RO -/
def METER.SETTLING (w : Wick) : Field :=
  ⟨(w.page 7), 0x00C, 9, 1, .ro, 0x0, .any, false⟩
/-- R274: RO -/
def METER.OVERLOAD (w : Wick) : Field :=
  ⟨(w.page 7), 0x00C, 10, 1, .ro, 0x0, .any, false⟩
/-- R274: RO -/
def METER.FAULT (w : Wick) : Field :=
  ⟨(w.page 7), 0x00C, 11, 1, .ro, 0x0, .any, false⟩
/-- R274: RO -/
def METER.SEQ_OK (w : Wick) : Field :=
  ⟨(w.page 7), 0x00C, 12, 1, .ro, 0x0, .any, false⟩
/-- R274: RO -/
def METER.SEQ_REVERSED (w : Wick) : Field :=
  ⟨(w.page 7), 0x00C, 13, 1, .ro, 0x0, .any, false⟩
/-- R274: RO -/
def METER.MISSING_NEUTRAL (w : Wick) : Field :=
  ⟨(w.page 7), 0x00C, 14, 1, .ro, 0x0, .any, false⟩
/-- R274: RO -/
def METER.CAL_DEFAULT (w : Wick) : Field :=
  ⟨(w.page 7), 0x00C, 15, 1, .ro, 0x1, .any, true⟩
/-- R274: RO -/
def METER.ACC_CLEAR_PEND (w : Wick) : Field :=
  ⟨(w.page 7), 0x00C, 16, 1, .ro, 0x0, .any, false⟩
/-- R274: RO -/
def METER.INTERVAL_PEND (w : Wick) : Field :=
  ⟨(w.page 7), 0x00C, 17, 1, .ro, 0x0, .any, false⟩
/-- R274: RW -/
def METER.WIRING (w : Wick) : Field :=
  ⟨(w.page 7), 0x040, 0, 2, .rw, 0x0, .orElse 1 0, true⟩
/-- R274: RW -/
def METER.F_NOM (w : Wick) : Field :=
  ⟨(w.page 7), 0x040, 2, 1, .rw, 0x0, .any, true⟩
/-- R274: RW -/
def METER.NOMINAL_V (w : Wick) : Field :=
  ⟨(w.page 7), 0x040, 16, 16, .rw, 0x8FC, .clamp 1000 3000, true⟩
/-- R274: RW -/
def METER.INTERVAL_MIN (w : Wick) : Field :=
  ⟨(w.page 7), 0x044, 0, 6, .rw, 0xF, .any, true⟩
/-- R274: RW -/
def METER.WF_SRC (w : Wick) : Field :=
  ⟨(w.page 7), 0x044, 8, 2, .rw, 0x2, .orElse 2 2, true⟩
/-- R274: RW -/
def METER.CREEP_MW (w : Wick) : Field :=
  ⟨(w.page 7), 0x044, 16, 16, .rw, 0x7D0, .any, true⟩
/-- R274: WO -/
def METER.CMD (w : Wick) : Field :=
  ⟨(w.page 7), 0x048, 0, 2, .wo, 0x0, .any, false⟩
/-- R274: RO -/
def METER.CMD_STATUS (w : Wick) : Field :=
  ⟨(w.page 7), 0x048, 8, 3, .ro, 0x0, .any, false⟩
/-- R274: RW -/
def METER.CAP_SAMPLES (w : Wick) : Field :=
  ⟨(w.page 7), 0x04C, 0, 12, .rw, 0xCCD, .clamp 1 4000, true⟩
/-- R274: RW -/
def METER.CAP_CHANNELS (w : Wick) : Field :=
  ⟨(w.page 7), 0x04C, 16, 8, .rw, 0xFF, .any, true⟩
/-- R274: RW -/
def METER.CAP_ON_EVENT (w : Wick) : Field :=
  ⟨(w.page 7), 0x04C, 24, 1, .rw, 0x0, .any, true⟩
/-- R274: RW, v < 4 -/
def METER.V_DIV (w : Wick) (v : Nat) : Field :=
  ⟨(w.page 7), 0x050 + 8 * v, 0, 24, .rw, 0x0, .any, true⟩
/-- R274: RW, v < 4 -/
def METER.V_GAIN (w : Wick) (v : Nat) : Field :=
  ⟨(w.page 7), 0x054 + 8 * v, 0, 23, .rw, 0x400000, .any, true⟩
/-- R274: RW, c < 4 -/
def METER.TYPE (w : Wick) (c : Nat) : Field :=
  ⟨(w.page 7), 0x070 + 32 * c, 0, 2, .rw, 0x0, .any, true⟩
/-- R274: RW, c < 4 -/
def METER.PGA (w : Wick) (c : Nat) : Field :=
  ⟨(w.page 7), 0x070 + 32 * c, 4, 2, .rw, 0x0, .orElse 2 2, true⟩
/-- R274: RW, c < 4 -/
def METER.CT_SEC (w : Wick) (c : Nat) : Field :=
  ⟨(w.page 7), 0x070 + 32 * c, 8, 1, .rw, 0x0, .any, true⟩
/-- R274: RW, c < 4 -/
def METER.SCALE (w : Wick) (c : Nat) : Field :=
  ⟨(w.page 7), 0x074 + 32 * c, 0, 32, .rw, 0x0, .any, true⟩
/-- R274: RW, c < 4 -/
def METER.BURDEN_UOHM (w : Wick) (c : Nat) : Field :=
  ⟨(w.page 7), 0x078 + 32 * c, 0, 32, .rw, 0x0, .any, true⟩
/-- R274: RW, c < 4 -/
def METER.I_GAIN (w : Wick) (c : Nat) : Field :=
  ⟨(w.page 7), 0x07C + 32 * c, 0, 23, .rw, 0x400000, .any, true⟩
/-- R274: RW, c < 4 -/
def METER.I_PHASE (w : Wick) (c : Nat) : Field :=
  ⟨(w.page 7), 0x080 + 32 * c, 0, 16, .rw, 0x0, .clampSigned 5000, true⟩
/-- R274: RO, c < 4 -/
def METER.I_FS_MA (w : Wick) (c : Nat) : Field :=
  ⟨(w.page 7), 0x084 + 32 * c, 0, 32, .ro, 0x0, .any, false⟩
/-- R274: RO, x < 3 -/
def METER.V_RMS_MV (w : Wick) (x : Nat) : Field :=
  ⟨(w.page 7), 0x100 + 32 * x, 0, 32, .ro, 0x0, .any, false⟩
/-- R274: RO, x < 3 -/
def METER.I_RMS_MA (w : Wick) (x : Nat) : Field :=
  ⟨(w.page 7), 0x104 + 32 * x, 0, 32, .ro, 0x0, .any, false⟩
/-- R274: RO, x < 3 -/
def METER.P_MW (w : Wick) (x : Nat) : Field :=
  ⟨(w.page 7), 0x108 + 32 * x, 0, 32, .ro, 0x0, .any, false⟩
/-- R274: RO, x < 3 -/
def METER.Q_MVAR (w : Wick) (x : Nat) : Field :=
  ⟨(w.page 7), 0x10C + 32 * x, 0, 32, .ro, 0x0, .any, false⟩
/-- R274: RO, x < 3 -/
def METER.S_MVA (w : Wick) (x : Nat) : Field :=
  ⟨(w.page 7), 0x110 + 32 * x, 0, 32, .ro, 0x0, .any, false⟩
/-- R274: RO, x < 3 -/
def METER.PF (w : Wick) (x : Nat) : Field :=
  ⟨(w.page 7), 0x114 + 32 * x, 0, 16, .ro, 0x0, .any, false⟩
/-- R274: RO, x < 3 -/
def METER.PH_FLAGS (w : Wick) (x : Nat) : Field :=
  ⟨(w.page 7), 0x114 + 32 * x, 16, 16, .ro, 0x0, .any, false⟩
/-- R274: RO, x < 3 -/
def METER.P_1S_MW (w : Wick) (x : Nat) : Field :=
  ⟨(w.page 7), 0x118 + 32 * x, 0, 32, .ro, 0x0, .any, false⟩
/-- R274: RO, x < 3 -/
def METER.E_1S_MWH (w : Wick) (x : Nat) : Field :=
  ⟨(w.page 7), 0x11C + 32 * x, 0, 32, .ro, 0x0, .any, false⟩
/-- R274: RO -/
def METER.I_RMS_N_MA (w : Wick) : Field :=
  ⟨(w.page 7), 0x160, 0, 32, .ro, 0x0, .any, false⟩
/-- R274: RO -/
def METER.V_DISP_MV (w : Wick) : Field :=
  ⟨(w.page 7), 0x164, 0, 32, .ro, 0x0, .any, false⟩
/-- R274: RO -/
def METER.FREQ_MHZ (w : Wick) : Field :=
  ⟨(w.page 7), 0x168, 0, 17, .ro, 0x0, .any, false⟩
/-- R274: RO -/
def METER.SEC_LO (w : Wick) : Field :=
  ⟨(w.page 7), 0x16C, 0, 32, .ro, 0x0, .any, false⟩
/-- R274: RO -/
def METER.P_TOT_MW (w : Wick) : Field :=
  ⟨(w.page 7), 0x170, 0, 32, .ro, 0x0, .any, false⟩
/-- R274: RO -/
def METER.Q_TOT_MVAR (w : Wick) : Field :=
  ⟨(w.page 7), 0x174, 0, 32, .ro, 0x0, .any, false⟩
/-- R274: RO -/
def METER.S_TOT_MVA (w : Wick) : Field :=
  ⟨(w.page 7), 0x178, 0, 32, .ro, 0x0, .any, false⟩
/-- R274: RO -/
def METER.PF_TOT (w : Wick) : Field :=
  ⟨(w.page 7), 0x17C, 0, 16, .ro, 0x0, .any, false⟩
/-- R274: RO, g < 4/a < 6 -/
def METER.ACC_LO (w : Wick) (g : Nat) (a : Nat) : Field :=
  ⟨(w.page 7), 0x200 + 48 * g + 8 * a, 0, 32, .ro, 0x0, .any, false⟩
/-- R274: RO, g < 4/a < 6 -/
def METER.ACC_HI (w : Wick) (g : Nat) (a : Nat) : Field :=
  ⟨(w.page 7), 0x204 + 48 * g + 8 * a, 0, 32, .ro, 0x0, .any, false⟩
/-- R274: RO -/
def METER.CUR_INDEX (w : Wick) : Field :=
  ⟨(w.page 7), 0x300, 0, 32, .ro, 0x0, .any, false⟩
/-- R274: RO -/
def METER.CUR_COVERED_S (w : Wick) : Field :=
  ⟨(w.page 7), 0x304, 0, 16, .ro, 0x0, .any, false⟩
/-- R274: RO -/
def METER.CUR_FLAGS (w : Wick) : Field :=
  ⟨(w.page 7), 0x304, 16, 16, .ro, 0x0, .any, false⟩
/-- R274: RO -/
def METER.NEWEST_INDEX (w : Wick) : Field :=
  ⟨(w.page 7), 0x308, 0, 32, .ro, 0x0, .any, false⟩
/-- R274: RO -/
def METER.OLDEST_INDEX (w : Wick) : Field :=
  ⟨(w.page 7), 0x30C, 0, 32, .ro, 0x0, .any, false⟩
/-- R274: RO -/
def METER.REC_COUNT (w : Wick) : Field :=
  ⟨(w.page 7), 0x310, 0, 12, .ro, 0x0, .any, false⟩
/-- R274: RW. DEDUCED (log entry 193). -/
def METER.REC_REQ_INDEX (w : Wick) : Field :=
  ⟨(w.page 7), 0x314, 0, 32, .rw, 0x0, .any, true⟩
/-- R274: RO -/
def METER.REC_STATUS (w : Wick) : Field :=
  ⟨(w.page 7), 0x318, 0, 2, .ro, 0x0, .any, false⟩
/-- R274: RO -/
def METER.REV_PHASES (w : Wick) : Field :=
  ⟨(w.page 7), 0x320, 0, 3, .ro, 0x0, .any, false⟩
/-- R274: RO -/
def METER.POL_HINT (w : Wick) : Field :=
  ⟨(w.page 7), 0x320, 4, 3, .ro, 0x0, .any, false⟩
/-- R274: RO -/
def METER.LAST_START (w : Wick) : Field :=
  ⟨(w.page 7), 0x324, 0, 2, .ro, 0x0, .any, false⟩
/-- R274: RO, x < 3 -/
def METER.UNSAVED_MWH (w : Wick) (x : Nat) : Field :=
  ⟨(w.page 7), 0x328 + 4 * x, 0, 32, .ro, 0x0, .any, false⟩
/-- R274: RC -/
def METER.OVERLOAD_CNT (w : Wick) : Field :=
  ⟨(w.page 7), 0x334, 0, 16, .rc, 0x0, .any, false⟩
/-- R274: RC -/
def METER.REVERSE_CNT (w : Wick) : Field :=
  ⟨(w.page 7), 0x334, 16, 16, .rc, 0x0, .any, false⟩
/-- R274: RC -/
def METER.CKPT_FAIL_CNT (w : Wick) : Field :=
  ⟨(w.page 7), 0x338, 0, 16, .rc, 0x0, .any, false⟩
/-- R274: RO, k < 32 -/
def METER.REC_DATA (w : Wick) (k : Nat) : Field :=
  ⟨(w.page 7), 0x380 + 4 * k, 0, 32, .ro, 0x0, .any, false⟩

/-- Every page-specific field of the page METER, for reading a whole word (R39). -/
def METER.fields (w : Wick) : List Field :=
  [METER.SEAL w, METER.FLL_LOCK w, METER.SETTLING w, METER.OVERLOAD w, METER.FAULT w, METER.SEQ_OK w, METER.SEQ_REVERSED w, METER.MISSING_NEUTRAL w, METER.CAL_DEFAULT w, METER.ACC_CLEAR_PEND w, METER.INTERVAL_PEND w, METER.WIRING w] ++
  [METER.F_NOM w, METER.NOMINAL_V w, METER.INTERVAL_MIN w, METER.WF_SRC w, METER.CREEP_MW w, METER.CMD w, METER.CMD_STATUS w, METER.CAP_SAMPLES w, METER.CAP_CHANNELS w, METER.CAP_ON_EVENT w, METER.I_RMS_N_MA w, METER.V_DISP_MV w] ++
  [METER.FREQ_MHZ w, METER.SEC_LO w, METER.P_TOT_MW w, METER.Q_TOT_MVAR w, METER.S_TOT_MVA w, METER.PF_TOT w, METER.CUR_INDEX w, METER.CUR_COVERED_S w, METER.CUR_FLAGS w, METER.NEWEST_INDEX w, METER.OLDEST_INDEX w, METER.REC_COUNT w] ++
  [METER.REC_REQ_INDEX w, METER.REC_STATUS w, METER.REV_PHASES w, METER.POL_HINT w, METER.LAST_START w, METER.OVERLOAD_CNT w, METER.REVERSE_CNT w, METER.CKPT_FAIL_CNT w] ++
  (List.range 4).map (METER.V_DIV w) ++
  (List.range 4).map (METER.V_GAIN w) ++
  (List.range 4).map (METER.TYPE w) ++
  (List.range 4).map (METER.PGA w) ++
  (List.range 4).map (METER.CT_SEC w) ++
  (List.range 4).map (METER.SCALE w) ++
  (List.range 4).map (METER.BURDEN_UOHM w) ++
  (List.range 4).map (METER.I_GAIN w) ++
  (List.range 4).map (METER.I_PHASE w) ++
  (List.range 4).map (METER.I_FS_MA w) ++
  (List.range 3).map (METER.V_RMS_MV w) ++
  (List.range 3).map (METER.I_RMS_MA w) ++
  (List.range 3).map (METER.P_MW w) ++
  (List.range 3).map (METER.Q_MVAR w) ++
  (List.range 3).map (METER.S_MVA w) ++
  (List.range 3).map (METER.PF w) ++
  (List.range 3).map (METER.PH_FLAGS w) ++
  (List.range 3).map (METER.P_1S_MW w) ++
  (List.range 3).map (METER.E_1S_MWH w) ++
  (List.range 4).flatMap (fun g => (List.range 6).map (METER.ACC_LO w g)) ++
  (List.range 4).flatMap (fun g => (List.range 6).map (METER.ACC_HI w g)) ++
  (List.range 3).map (METER.UNSAVED_MWH w) ++
  (List.range 32).map (METER.REC_DATA w)

/-- R275: RO -/
def HARM.SYNC (w : Wick) : Field :=
  ⟨(w.page 8), 0x00C, 8, 1, .ro, 0x0, .any, false⟩
/-- R275: RO -/
def HARM.AGG_VALID (w : Wick) : Field :=
  ⟨(w.page 8), 0x00C, 9, 1, .ro, 0x0, .any, false⟩
/-- R275: RW -/
def HARM.DIP_PCT (w : Wick) : Field :=
  ⟨(w.page 8), 0x040, 0, 8, .rw, 0x5A, .clamp 50 99, true⟩
/-- R275: RW -/
def HARM.SWELL_PCT (w : Wick) : Field :=
  ⟨(w.page 8), 0x040, 8, 8, .rw, 0x6E, .clamp 101 150, true⟩
/-- R275: RW -/
def HARM.INTR_PCT (w : Wick) : Field :=
  ⟨(w.page 8), 0x040, 16, 8, .rw, 0x5, .clamp 1 20, true⟩
/-- R275: RW -/
def HARM.HYST_PCT (w : Wick) : Field :=
  ⟨(w.page 8), 0x040, 24, 8, .rw, 0x2, .clamp 1 10, true⟩
/-- R275: RW. DEDUCED (log entry 193). -/
def HARM.H_CH (w : Wick) : Field :=
  ⟨(w.page 8), 0x044, 0, 3, .rw, 0x0, .any, true⟩
/-- R275: RW. DEDUCED (log entry 193). -/
def HARM.H_VIEW (w : Wick) : Field :=
  ⟨(w.page 8), 0x044, 8, 2, .rw, 0x0, .orElse 2 2, true⟩
/-- R275: RO -/
def HARM.H_INDEX (w : Wick) : Field :=
  ⟨(w.page 8), 0x048, 0, 32, .ro, 0x0, .any, false⟩
/-- R275: RO -/
def HARM.H_THD (w : Wick) : Field :=
  ⟨(w.page 8), 0x04C, 0, 16, .ro, 0x0, .any, false⟩
/-- R275: RO -/
def HARM.H_FLAGS (w : Wick) : Field :=
  ⟨(w.page 8), 0x04C, 16, 16, .ro, 0x0, .any, false⟩
/-- R275: RO -/
def HARM.H_RMS (w : Wick) : Field :=
  ⟨(w.page 8), 0x050, 0, 32, .ro, 0x0, .any, false⟩
/-- R275: RC -/
def HARM.DIP_CNT (w : Wick) : Field :=
  ⟨(w.page 8), 0x054, 0, 16, .rc, 0x0, .any, false⟩
/-- R275: RC -/
def HARM.SWELL_CNT (w : Wick) : Field :=
  ⟨(w.page 8), 0x054, 16, 16, .rc, 0x0, .any, false⟩
/-- R275: RC -/
def HARM.INTR_CNT (w : Wick) : Field :=
  ⟨(w.page 8), 0x058, 0, 16, .rc, 0x0, .any, false⟩
/-- R275: RC -/
def HARM.WIN_LOST_CNT (w : Wick) : Field :=
  ⟨(w.page 8), 0x058, 16, 16, .rc, 0x0, .any, false⟩
/-- R275: RO, n < 64 -/
def HARM.H_SG (w : Wick) (n : Nat) : Field :=
  ⟨(w.page 8), 0x080 + 4 * n, 0, 32, .ro, 0x0, .any, false⟩

/-- Every page-specific field of the page HARM, for reading a whole word (R39). -/
def HARM.fields (w : Wick) : List Field :=
  [HARM.SYNC w, HARM.AGG_VALID w, HARM.DIP_PCT w, HARM.SWELL_PCT w, HARM.INTR_PCT w, HARM.HYST_PCT w, HARM.H_CH w, HARM.H_VIEW w, HARM.H_INDEX w, HARM.H_THD w, HARM.H_FLAGS w, HARM.H_RMS w] ++
  [HARM.DIP_CNT w, HARM.SWELL_CNT w, HARM.INTR_CNT w, HARM.WIN_LOST_CNT w] ++
  (List.range 64).map (HARM.H_SG w)

end Sys2Proof.Machine
end

