-- ==== Sys2Proof/Machine/Map.lean ====
section
/-! DEFINITION. Finite maps from numbers, and byte memories in one canonical form: addresses strictly rising, and no cell that holds zero, the value an unlisted address reads as. -/

namespace Sys2Proof.Machine

/-- A finite map from numbers, in rising order of its keys. -/
abbrev Map (α : Type) := List (Nat × α)

/-- The value at a key. -/
def Map.get? {α : Type} : Map α → Nat → Option α
  | [], _ => none
  | (k, v) :: t, n => if n = k then some v else Map.get? t n

/-- The map with a value put at a key. -/
def Map.put {α : Type} : Map α → Nat → α → Map α
  | [], n, x => [(n, x)]
  | (k, v) :: t, n, x =>
    if n < k then (n, x) :: (k, v) :: t
    else if n = k then (n, x) :: t
    else (k, v) :: Map.put t n x

/-- The map with a key removed. -/
def Map.del {α : Type} : Map α → Nat → Map α
  | [], _ => []
  | (k, v) :: t, n => if n = k then Map.del t n else (k, v) :: Map.del t n

/-- The value at a key, or another where there is none. -/
def Map.getD {α : Type} (m : Map α) (n : Nat) (d : α) : α := (m.get? n).getD d

/-- The keys of a map. -/
def Map.keys {α : Type} (m : Map α) : List Nat := m.map Prod.fst

/-- Whether a key has a value. -/
def Map.has {α : Type} (m : Map α) (n : Nat) : Bool := (m.get? n).isSome

/-- A byte memory. -/
abbrev Mem := List Host.Cell

/-- Reading one byte; an unlisted address reads zero. DESIGN CHOICE (log entry 41). -/
def Mem.get (m : Mem) (a : Nat) : Byte := (Map.get? m a).getD 0

/-- Writing one byte; writing zero removes the cell. DESIGN CHOICE (log entry 41). -/
def Mem.set (m : Mem) (a : Nat) (b : Byte) : Mem := if b = 0 then Map.del m a else Map.put m a b

/-- The canonical form of a memory. -/
def Mem.wf : Mem → Bool
  | [] => true
  | [(_, b)] => b != 0
  | (a, b) :: (a', b') :: t => b != 0 && a < a' && Mem.wf ((a', b') :: t)

/-- Reading n bytes from an address upward. -/
def Mem.read (m : Mem) (a : Nat) : Nat → List Byte
  | 0 => []
  | n + 1 => m.get a :: Mem.read m (a + 1) n

/-- Writing bytes from an address upward. -/
def Mem.write (m : Mem) (a : Nat) : List Byte → Mem
  | [] => m
  | b :: bs => Mem.write (m.set a b) (a + 1) bs

/-- The number that bytes spell in little-endian order. -/
def leNat : List Byte → Nat
  | [] => 0
  | b :: bs => b.toNat + 256 * leNat bs

/-- The n bytes of a number in little-endian order. -/
def leBytes : Nat → Nat → List Byte
  | 0, _ => []
  | n + 1, v => BitVec.ofNat 8 v :: leBytes n (v / 256)

/-- The little-endian number in n bytes at an address. -/
def Mem.num (m : Mem) (a n : Nat) : Nat := leNat (m.read a n)

/-- The memory with a little-endian number written in n bytes at an address. -/
def Mem.setNum (m : Mem) (a n v : Nat) : Mem := m.write a (leBytes n v)

/-- The memory with n bytes from an address set to zero. DESIGN CHOICE (log entry 41). -/
def Mem.clear (m : Mem) (a n : Nat) : Mem := m.filter (fun c => c.1 < a || a + n ≤ c.1)

/-- Bits lo to lo + w - 1 of a number. -/
def bits (v lo w : Nat) : Nat := v / 2 ^ lo % 2 ^ w

/-- One bit of a number. -/
def bit (v n : Nat) : Bool := v.testBit n

/-- A number with bits lo to lo + w - 1 replaced. -/
def setBits (v lo w x : Nat) : Nat :=
  v - bits v lo w * 2 ^ lo + x % 2 ^ w * 2 ^ lo

/-- 1 for true, 0 for false. -/
def b2n (b : Bool) : Nat := if b then 1 else 0

/-- A signed number in w bits as a natural number (two's complement). -/
def ofSigned (w : Nat) (i : Int) : Nat := (i % (2 ^ w : Int)).toNat

/-- The signed number that w bits hold in two's complement. -/
def toSigned (w v : Nat) : Int :=
  let v := v % 2 ^ w
  if v < 2 ^ (w - 1) then (v : Int) else (v : Int) - 2 ^ w

/-- A number limited to a range. -/
def clampTo (lo hi v : Nat) : Nat := if v < lo then lo else if hi < v then hi else v

/-- An element put into a list that is in rising order of f, after those equal to it. -/
def insertOn {α : Type} (f : α → Nat) (x : α) : List α → List α
  | [] => [x]
  | y :: t => if f x < f y then x :: y :: t else y :: insertOn f x t

/-- A list in rising order of f; equal elements keep their order. -/
def sortOn {α : Type} (f : α → Nat) (l : List α) : List α := l.foldl (fun t x => insertOn f x t) []

/-- The first element of a list with the least f. -/
def leastOn? {α : Type} (f : α → Nat) : List α → Option α
  | [] => none
  | x :: t => match leastOn? f t with
    | none => some x
    | some y => if f y < f x then some y else some x

/-- The least element of a list of numbers. -/
def minimum? : List Nat → Option Nat
  | [] => none
  | x :: xs => match minimum? xs with
    | none => some x
    | some y => some (if x ≤ y then x else y)

end Sys2Proof.Machine
end

