-- ==== Sys2Proof/Machine/State.lean ====
section
/-! DEFINITION. The state of the segment controller module as plain data, and the state after reset. -/

namespace Sys2Proof.Machine

/-- The block has no fault that stops it: every access it does not serve is counted or answered by a status (R42), so
this type has no constructor and no command raises one. Safe. -/
inductive Fault where
deriving DecidableEq, Repr

/-- Why a command has no effect given. -/
inductive Refusal where
  /-- Raised by Dispatch.exec alone, for a command whose meaning is not written yet. Safe: the machine stops. -/
  | notModelled (mnemonic : String)
deriving DecidableEq, Repr

/-- The roles of a wick (R13), in the order of their codes (R335). -/
inductive Role where
  | off
  | cold
  | warming
  | mirror
  | author
  | snowdrop
  | failed
deriving DecidableEq, Repr

/-- A command of the CFGBANK page on the whole shadow bank (R65, R456). -/
inductive BankCmd where
  | copyActive
  | clearShadow
  | validate
deriving DecidableEq, Repr

/-- One configuration bank: its tables as bytes, its SH register fields, its change counts. -/
structure Bank where
  mem : Mem
  sh : Map Nat
  tableGens : Map Nat
  gen : Nat
deriving DecidableEq, Repr

/-- A commit word of the bank area: the half it names, its swap count, the instant of its swap, its CRC (R61). -/
structure Commit where
  half : Bool
  count : Nat
  time : Nat
  crc : Nat
deriving DecidableEq, Repr

/-- The configuration banks, the swap, the commit words, the newest first, whether a takeover or a start found work on the banks that comes before the first transmission (R62, R63, R456), the bank command and the preset load that run (R57 to R65, R110). -/
structure Cfg where
  half0 : Bank
  half1 : Bank
  activeHalf : Bool
  commitHalf : Bool
  commits : List Commit
  redo : Bool
  commitCount : Nat
  state : Nat
  reason : Nat
  failedTypes : Nat
  swapAt : Nat
  lastAt : Nat
  swapMode : Nat
  swapTime : Nat
  cmd : Option BankCmd
  cmdDone : Bool
  cmdFailed : Nat
  preset : Option Nat
deriving DecidableEq, Repr

/-- An event on its way to the log (R424). -/
structure Event where
  code : Nat
  source : Nat
  time : Nat
  trusted : Bool
  deferred : Bool
  suppressed : Nat
  params : List Nat
deriving DecidableEq, Repr

/-- The token bucket of an event code (R428): tokens held, the instant it last fell below full, tokens added since. -/
structure Bucket where
  tokens : Nat
  since : Nat
  added : Nat
deriving DecidableEq, Repr

/-- The event queue, the rate limits and the log area (R424 to R428). -/
structure Log where
  queue : List Event
  lostBefore : Bool
  rate : Map Nat
  buckets : Map Bucket
  pendingSup : Map Nat
  area : Mem
  newest : Option Nat
deriving DecidableEq, Repr

/-- A run of the BIST controller (R430 to R433). -/
structure BistRun where
  target : Nat
  master : Nat
  since : Nat
deriving DecidableEq, Repr

/-- One stream FIFO (R95 to R99): committed words with their parity bit, the slots an open packet has reserved, the
words committed before a waiting flush boundary, the last word read. -/
structure Fifo where
  words : List (Word × Bool)
  openSlots : Option Nat
  flushMark : Option Nat
  lastRead : Word
deriving DecidableEq, Repr

/-- The host link's session and frames (R66 to R82): the key of the session that is open, the challenge and host key of an OPEN that runs, the bytes of
the last response, the base cycle at which HOST_WAKE last rose. -/
structure HostLink where
  key : Option (List Byte)
  opening : Option (List Byte)
  response : List Byte
  wokeAt : Nat
deriving DecidableEq, Repr

/-- The duty ledger (R117 to R128): for each sub-band and, when ACCESS is 1, each channel, the buckets in µs, the open one
first; the ends of the presumptions on the base; the snapshot in MRAM; the second and minute records that a final save holds up. -/
structure Ledger where
  accounts : Map (List Nat)
  dwells : Map (List Nat)
  presumed : Map Nat
  presumedAll : Option Nat
  startBase : Nat
  boundaries : Nat
  secondRing : List (List Nat)
  minuteRing : List (List Nat)
  savedOpen : Option (List Nat)
  unwritten : List (List Nat × Option (List Nat))
  snapTime : Nat
  snapTrusted : Bool
  snapValid : Bool
deriving DecidableEq, Repr

/-- A frame the module sends, before its counter and its keys (R136): for an AIRLINK frame the payload starts at LTYPE. -/
structure OutFrame where
  ty : Nat
  dest : Nat
  seq : Nat
  retry : Nat
  ackReq : Bool
  copy : Bool
  keySel : Nat
  nodeId : Nat
  joinKey : List Byte
  ttl : Nat
  payload : List Byte
deriving DecidableEq, Repr

/-- What a granted frame is for: a bare request, an attempt of a slot, a train of taper frames or the rendezvous frame of a
slot, a beacon, an acknowledgement, a MIRROR copy, a fabric message. -/
inductive Use where
  | bare
  | slot (n : Nat)
  | taper (n : Nat)
  | rendezvous (n : Nat)
  | beacon
  | ack
  | copy
  | air
deriving DecidableEq, Repr

/-- A grant of the ledger, and a transmission on air (R121): its frame, its use, its channel, its preamble in symbols, its time
on air, whether it goes on the common channel, the base cycle it was given or keyed, the instant it may be keyed from, the
number of frames in it, whether it is to be cut short (R106). -/
structure Grant where
  frame : Option OutFrame
  use : Use
  channel : Nat
  wake : Nat
  toa : Nat
  common : Bool
  since : Nat
  start : Nat
  count : Nat
  cut : Bool
deriving DecidableEq, Repr

/-- The plan of a group attempt's taper trains (R149): its slot, the values of HOME still to serve, the rendezvous instant, whether its
first train has begun. -/
structure TaperPlan where
  slot : Nat
  homes : List Nat
  rendezvous : Nat
  begun : Bool
deriving DecidableEq, Repr

/-- An acknowledgement the module owes (R153): its destination, the request's SEQ, its result code and RSSI, the channel of
a direct one, the base cycle it is due, the sequence number it has taken for its own frame, if any. -/
structure AckDue where
  dest : Nat
  seq : Nat
  result : Nat
  channel : Option Nat
  rssi : Nat
  due : Nat
  own : Option Nat
deriving DecidableEq, Repr

/-- The PHR of a frame the module sends (R108). -/
structure SentPhr where
  modeSwitch : Bool
  fcs4 : Bool
  whitened : Bool
  length : Nat
deriving DecidableEq, Repr

/-- The journal record of a frame that was granted and never keyed: its wick, its attempt, the frame counter taken for it (R25). -/
structure Record where
  wick : Nat
  retry : Nat
  fcnt : Nat
deriving DecidableEq, Repr

/-- A MIRROR copy that is due: the frame, its channel, the base cycle of its start (R26, R319). -/
structure CopyDue where
  frame : OutFrame
  channel : Nat
  due : Nat
deriving DecidableEq, Repr

/-- An entry of the seen cache: source, SEQ, result, the base cycle it was made (R152). -/
structure Seen where
  src : Nat
  seq : Nat
  result : Nat
  since : Nat
deriving DecidableEq, Repr

/-- What the Pilot domain and the link engines hold beside their registers (R19, R139, R145 to R153): the SEQ allocator, its
ceiling and refusals, the frame counters and theirs, grants, frames on air, copies a MIRROR owes, the taper plan,
acknowledgements owed, the records of frames whose grant lapsed before they were keyed, the PHR and the PSDU each wick sent last, the seen cache, the SFD instant of the last frame of each SEQ, the last beacon instant handled, the whole second whose
common channel the link is on. -/
structure Link where
  seqNext : Nat
  seqCeiling : Nat
  seqRefused : Nat
  fcnt : Map Nat
  fcntCeiling : Map Nat
  fabCnt : Map Nat
  fabCeiling : Map Nat
  grants : Map Grant
  onAir : Map Grant
  blankEnd : Map Nat
  copies : List CopyDue
  taper : Option TaperPlan
  acks : List AckDue
  records : Map Record
  lastPhr : Map SentPhr
  seen : List Seen
  lastPsdu : Map (List Byte)
  sentSfd : Map Nat
  lastBeacon : Option Nat
  second : Nat
deriving DecidableEq, Repr

/-- A transaction descriptor: who submits it, the frame type, the destination, opcode and arguments or payload, what answer it
asks for, its attempts and its time limits; the key and node of a JOIN_ACCEPT. -/
structure Desc where
  master : Nat
  purpose : Purpose
  ty : Nat
  dest : Nat
  opcode : Nat
  args : List Byte
  ackReq : Bool
  respWin : Nat
  maxAtt : Nat
  notBefore : Nat
  notAfter : Nat
  nodeId : Nat
  joinKey : List Byte
deriving DecidableEq, Repr

/-- One transaction slot (R164 to R182): its state and epoch, the descriptor, attempts transmitted, the SEQ taken, the instant
and the order of submission, the base cycle its present timer ends (0 where a QUEUED one waits for nothing) and the length of
that timer, the start, preamble and channel of a planned wake, whether its present attempt has been keyed, the expected
members and the answers of a group, the base cycle since which it is FREE. -/
structure Slot where
  state : Nat
  epoch : Nat
  desc : Desc
  attempts : Nat
  seq : Option Nat
  submitted : Nat
  order : Nat
  timer : Nat
  span : Nat
  planned : Option (Nat × Nat × Nat)
  keyed : Bool
  expected : List Nat
  responses : List (Nat × Nat)
  freeSince : Nat
deriving DecidableEq, Repr

/-- The transaction engine (R164 to R182): its slots, the internal submissions that wait for a slot with the instants they were
made, the result queue of five-word records, the count of submissions. -/
structure Txn where
  slots : Map Slot
  waiting : List (Desc × Nat)
  results : List (List Nat)
  submissions : Nat
deriving DecidableEq, Repr

/-- A committed key of a slot of the vault (R386, R391): its generation, the half that holds it, its bytes. -/
structure SlotKey where
  gen : Nat
  half : Bool
  key : List Byte
deriving DecidableEq, Repr

/-- What the module knows of a lantern and no port shows (R184): the link model with the SFD of the last module frame it acknowledged, the last frame counter and its epoch, the
role last pushed, neighbours, the fault windows of four buckets per bit, the roles being computed, the last push, the last level a host commanded and when it takes effect. -/
structure Lantern where
  tSync : Nat
  ackedSfd : Nat
  drift : Option Rat
  offsetUs : Int
  hops : Option Nat
  mode : Option Nat
  router : Bool
  rssi : Nat
  lastFcnt : Option (Nat × Nat)
  prevFcnt : Option Nat
  holdUntil : Nat
  heardBase : Nat
  neighbours : List (Nat × Nat)
  faultCounts : Map (List Nat)
  activeSince : Map Nat
  inactiveSince : Map Nat
  detail : Nat
  lastTry : Option Nat
  candidate : Option (Bool × Nat)
  joinFcnt : Option Nat
  hostCmd : Option (Nat × Nat)
deriving DecidableEq, Repr

/-- A join request waiting for the home module's answer (R190). -/
structure JoinReq where
  nodeId : Nat
  seq : Nat
  rssi : Nat
  frame : List Byte
  roamFrom : Nat
  due : Nat
deriving DecidableEq, Repr

/-- A kept answer to a registry query: the lent parts of a positive one, in the order the message carries them (R190, R346). -/
structure RegAnswer where
  nodeId : Nat
  lent : Option (List Byte)
  due : Nat
deriving DecidableEq, Repr

/-- A JOIN_ACCEPT kept for a repeat of its request (R189). -/
structure KeptAccept where
  nodeId : Nat
  seq : Nat
  desc : Desc
  due : Nat
deriving DecidableEq, Repr

/-- One resolved step of a day (R199): its program and step, its local minute, its instant, its level, its contactor byte. -/
structure DayStep where
  program : Nat
  step : Nat
  minute : Nat
  at_ : Nat
  level : Nat
  ko : Nat
  sent : Bool
  done : Bool
deriving DecidableEq, Repr

/-- The lantern registry and the schedule service (R184 to R212): the resolved steps, the day they are of, the local minutes of its sunset,
sunrise, dusk and dawn and whether one of them is absent, the day of the last refresh. -/
structure Registry where
  mem : Mem
  gen : Nat
  lanterns : Map Lantern
  lookups : List JoinReq
  answers : List RegAnswer
  accepts : List KeptAccept
  retained : Map (List Byte × Lantern)
  notices : List (Nat × Nat)
  roleDue : Option Nat
  rotated : Nat
  daySteps : List DayStep
  day : Option Int
  sun : List Nat
  refreshed : Option Int
deriving DecidableEq, Repr

/-- A message of the fabric on its way (R345, R346). -/
structure FabMsg where
  ltype : Nat
  odest : Nat
  osrc : Nat
  hops : Nat
  body : List Byte
  via : Option (Nat × Nat)
deriving DecidableEq, Repr

/-- A route of the fabric (R344): its destination, cost, hops, next hop and the link that leads there. -/
structure Route where
  cost : Nat
  hops : Nat
  next : Nat
  link : Nat
deriving DecidableEq, Repr

/-- The request of the gateway that is outstanding (R349): its CTR, its command, the base cycle it was sent. -/
structure RpaOut where
  ctr : Nat
  cmd : Nat
  since : Nat
deriving DecidableEq, Repr

/-- The remote session at this module as target (R348): 0 NONE, 1 OPENING, 2 OPEN; its number, key and challenge, LAST_CTR, its
gateway, the base cycle of its last accepted request, the failures in a row and the end of a lockout. -/
structure Remote where
  state : Nat
  id : Nat
  key : List Byte
  challenge : List Byte
  lastCtr : Nat
  peer : Nat
  since : Nat
  fails : Nat
  lockout : Nat
deriving DecidableEq, Repr

/-- A neighbour of the fabric (R342): its link (0 P0, 1 P1, 2 air), what its last hello said, the base cycle of it. -/
structure Neighbour where
  uid : Nat
  link : Nat
  addr : Nat
  seg : Nat
  interval : Nat
  clockClass : Nat
  tflags : Nat
  rssi : Nat
  since : Nat
  up : Bool
deriving DecidableEq, Repr

/-- An LSA held in the database: its links as neighbour address, cost and kind (R344). -/
structure Lsa where
  uid : Nat
  addr : Nat
  seg : Nat
  seq : Nat
  withdrawn : Bool
  links : List (Nat × Nat × Nat)
  since : Nat
deriving DecidableEq, Repr

/-- A message that is repeated until it is acknowledged (R346): the segment it goes to, the repeats made, the base cycle of the
next one. -/
structure FabRepeat where
  ltype : Nat
  seg : Nat
  nodeId : Nat
  body : List Byte
  count : Nat
  due : Nat
deriving DecidableEq, Repr

/-- The fabric (R337 to R349): its neighbours, the link-state database with this module's own LSA, its LSA_SEQ, the routes over all
links and over the backbone, whether the database changed since they were computed; messages to send, messages repeated; the
hellos heard (link, identity, base cycle), the ports in CONFLICT with the base cycle a second peer was last heard; the last
counter accepted from each sender (key 2 · MOD_UID + TXW); the last frame sent on each link; forwarding: the next record, the last one
acknowledged, the base cycle of the last progress; what a collector holds of each sender (highest without a gap, others above it);
the gateway's request and session; the remote session at this module; the ports whose PHY shows link down (R452). -/
structure Fab where
  neighbours : List Neighbour
  lsas : List Lsa
  lsaSeq : Nat
  small : Map Route
  big : Map Route
  stale : Bool
  queue : List FabMsg
  repeats : List FabRepeat
  heard : List (Nat × Nat × Nat)
  conflicts : Map Nat
  counters : Map Nat
  sent : Map (List Byte)
  fwdNext : Option Nat
  fwdAcked : Nat
  fwdSince : Nat
  collected : Map (Nat × List Nat)
  rpa : Option RpaOut
  rpaSession : Nat
  remote : Remote
  down : List Nat
deriving DecidableEq, Repr

/-- The GNSS input (R352): the base cycle of the last edge, its segment time and the ns into its tick; whether a sentence has named it; the
second it named last; how many consecutive edges were good; the last RMC status; whether GNSS is valid; the base cycle of the last
agreement. -/
structure Gnss where
  edge : Option Nat
  edgeAt : Nat
  edgeNs : Nat
  named : Bool
  name : Option Nat
  run : Nat
  statusA : Bool
  valid : Bool
  agreed : Nat
deriving DecidableEq, Repr

/-- A PTP port (R351): 0 off, 1 LISTENING, 2 MASTER, 3 SLAVE, 4 PASSIVE; the foreign master with the base cycles of its last two
Announces; the last Sync (sequence, its arrival), its sending time once known, the last Delay_Req sent, the mean path delay; the
sequence number and base cycle of the last message of each kind sent. -/
structure PtpPort where
  state : Nat
  foreign : Option Announce
  last : Nat
  before : Option Nat
  sync : Option (Nat × Int)
  t1 : Option Int
  t3 : Option (Nat × Int)
  delay : Option Int
  sent : Map (Nat × Nat)
deriving DecidableEq, Repr

/-- The clock (R350 to R355): GNSS, the PTP ports, the last offset in ns of GNSS, PTP and each air neighbour (source less segment time),
the base cycle of the last choice of a source, whether the source taken has been aligned to and whether time was trusted when
it was taken, the part of a tick slewed and not yet shown, in 1/64 ns. -/
structure Clock where
  gnss : Gnss
  ports : Map PtpPort
  gnssOff : Option Int
  ptpOff : Option Int
  airOff : Map Int
  chosen : Nat
  aligned : Bool
  wasTrusted : Bool
  part : Int
deriving DecidableEq, Repr

/-- A detection that the wave engine takes in (R217): the lantern it came from or the node it was injected at, its kind, bearing,
speed and confidence, the low half of its time. -/
structure Detection where
  source : Nat ⊕ Nat
  kind : Nat
  bearing : Nat
  speed : Nat
  conf : Nat
  time : Nat
deriving DecidableEq, Repr

/-- A track (R218 to R223): 1 LIVE or 2 PROVISIONAL; its speed in m/s; its time and, while PROVISIONAL, the time the road user
was at the boundary; the first edges its heading allows, none for all; the latest arrival planned; the hand-off it came from;
the nodes at which it was counted; the hand-offs it sent with their T_ARR; the deferred nodes; the base cycle of its next
periodic plan. -/
structure Track where
  state : Nat
  kind : Nat
  node : Nat
  prev : Option Nat
  speed : Rat
  t : Nat
  tRef : Nat
  dets : Nat
  program : Option Nat
  wave : Option Nat
  first : Option (List Nat)
  latest : Nat
  src : Option (Nat × Nat)
  counted : List Nat
  handed : List (Nat × Nat)
  deferred : List Nat
  nextPlan : Nat
deriving DecidableEq, Repr

/-- A wave (R228, R229): its track, the kind and program WAVE_START named, the number of entries sent. -/
structure WaveSlot where
  track : Nat
  kind : Nat
  program : Nat
  entries : Nat
deriving DecidableEq, Repr

/-- A wave entry sent to a lantern (R225), with the program under which it was sent. -/
structure LastEntry where
  wave : Nat
  program : Nat
  level : Nat
  tt : Nat
  until_ : Nat
deriving DecidableEq, Repr

/-- A block of the traffic-profile history: a local hour, whether it is present, counts by node and quarter hour (R234). -/
structure HourBlock where
  hour : Int
  present : Bool
  counts : Map Nat
deriving DecidableEq, Repr

/-- The wave engine (R213 to R240): tracks, waves, generations, last entries, the entries in frames not yet keyed, the detections a WARMING wick holds, the profile
of the open hour and whether the engine ran in it, each wick's history, PROFILE_READY, the quarter hour last pre-brightened with
its lanterns, the minute of the last re-send, the base cycle of each program's last AWAKE_HOLD, the
change count of table 2. -/
structure Wave where
  tracks : Map Track
  waves : Map WaveSlot
  gens : Map Nat
  last : Map LastEntry
  queued : List (Nat × LastEntry)
  buffer : List (Detection × Nat)
  openHour : Option Int
  ran : Bool
  counts : Map Nat
  history : Map (List HourBlock)
  ready : Bool
  preDone : Option Int
  preSet : List (Nat × Nat × Nat)
  preMinute : Int
  holds : Map Nat
  profGen : Nat
deriving DecidableEq, Repr

/-- The values of one whole second of a metering domain (R257): the second, P_1S and Q_1S of L1, L2, L3 and the total in mW and
mvar, E_1S of the phases in mWh, RMS voltage in mV and current in mA of the phases, the flags, those of each phase, the wick
that held AUTHOR when it arrived. -/
structure Series where
  second : Nat
  p : List Int
  q : List Int
  e : List Nat
  v : List Nat
  i : List Nat
  flags : Nat
  ph : List Nat
  arrived : Option Wick
deriving DecidableEq, Repr

/-- What a checkpoint, a stop save or a final save of a metering domain holds (R269 to R272): its number, the accumulators with
their residues, the open interval, the E_1S of the last second, a final save's hold-up bounds. -/
structure Saved where
  seq : Nat
  acc : Map Nat
  opening : Map Nat
  index : Option Nat
  len : Nat
  covered : Nat
  flags : Nat
  e : List Nat
  bounds : Option (List Nat)
deriving DecidableEq, Repr

/-- A harmonic view (R258, R259): its number, its flags, and for each channel the mean square of its samples and the squares of
G_1 to G_63. -/
structure Harm where
  index : Nat
  flags : Nat
  chans : List (Rat × List Rat)
deriving DecidableEq, Repr

/-- One metering domain (R242 to R275): the segment time since which it measures; whether it is frozen; accumulators in 2^-32
mWh; the open interval with its opening values, length, seconds and flags; the last direction of each phase; the phases without
voltage; sums of the open second and of the open window; the series of the last 120 seconds, the newest first;
sums for the averages of the interval; records, the
newest first; overload episodes and settling channels by their base cycles; the frequency range flag, the reference phase (3 where no phase has
voltage); phase sequence; half-cycle voltages and voltage events; harmonic views and aggregates; checkpoints, the save being written, the
last save. -/
structure Dom where
  since : Nat
  frozen : Bool
  acc : Map Nat
  opening : Map Nat
  index : Option Nat
  len : Nat
  covered : Nat
  flags : Nat
  prevDir : Map Nat
  filt : Map Nat
  noVolt : List Nat
  second : Nat
  secP : Map Int
  secQ : Map Int
  secAbs : Map Nat
  secV : Map Nat
  secI : Map Nat
  secN : Map Nat
  secFlags : Nat
  secPh : Map Nat
  winP : Map Int
  winQ : Map Int
  winN : Map Nat
  winPh : Map Nat
  series : List Series
  avgV : Map Nat
  avgI : Map Nat
  avgN : Nat
  ring : List (Nat × List Byte)
  clip : Map Nat
  settling : Map Nat
  freqRange : Bool
  refPhase : Option Nat
  present : Bool
  seqKind : Nat
  seqRun : Nat
  seqLogged : Bool
  half : Map Nat
  vEvents : Map (Nat × Nat)
  winIndex : Nat
  latest : Harm
  three : Harm
  ten : Harm
  acc3 : List Harm
  acc10 : Harm
  acc10N : Nat
  period : Option Nat
  periodWhole : Bool
  ckpts : List Saved
  ckptSeq : Nat
  stopping : Option Saved
  saved : Option Saved
  record : Bool
deriving DecidableEq, Repr

/-- A waveform capture that runs (R273): its wick, the segment time of its first sample, channel mask, samples, flags. -/
structure Capture where
  wick : Wick
  time : Nat
  mask : Nat
  samples : Nat
  flags : Nat
deriving DecidableEq, Repr

/-- The harmonic values a master captured by reading H_INDEX (R275). -/
structure HarmRead where
  thd : Nat
  flags : Nat
  rms : Nat
  sg : List Nat
deriving DecidableEq, Repr

/-- Feeder metering: both domains, the interval length in effect and the one to come, the capture that runs, the seconds of export
and of import in a row on each phase (R256), what each master captured of each HARM page. -/
structure Meter where
  domA : Dom
  domB : Dom
  lenMin : Nat
  lenPend : Option Nat
  capture : Option Capture
  exportRun : Map Nat
  importRun : Map Nat
  runSecond : Option Nat
  views : Map HarmRead
deriving DecidableEq, Repr

/-- A chip of a session (R284, R286): the mean power of each phase in W where the chip is valid, the drive expected of each
participant. -/
structure Chip where
  vals : List (Option Rat)
  drives : List Rat
deriving DecidableEq, Repr

/-- An attribution session (R276 to R291): its number, seed, start, chip length, amplitude, plan, target; whether a host started
it, whether its participants are fixed, whether its frame was never sent; the participants, the chips that have ended, the wicks
used (bit 0 A, bit 1 B), the outcome as OUTCOME shows it. -/
structure Session where
  number : Nat
  seed : Nat
  start : Nat
  chipMs : Nat
  ampl : Nat
  plan : Nat
  target : Nat
  fixed : Bool
  notSent : Bool
  parts : List Nat
  chips : List Chip
  wicks : Nat
  outcome : Nat
deriving DecidableEq, Repr

/-- The attribution engine: the current or last session, the last session number, the last result record of each lantern, the
baselines in W with their counts, N_EFF and SIGMA_1S of the latest solution, the day each plan last fell due, the level changes
commanded as phases, start and end. -/
structure Attr where
  cur : Option Session
  number : Nat
  results : Map (List Nat)
  bases : Map (Rat × Nat)
  nEff : List Nat
  sigma : List Nat
  planDays : Map Int
  masks : List (Nat × Nat × Nat)
deriving DecidableEq, Repr

/-- A stored lantern image (R293). -/
structure Image where
  size : Nat
  version : Nat
  hwClass : Nat
  hash : List Byte
  data : Mem
deriving DecidableEq, Repr

/-- A library command that runs (R294). -/
inductive LibOp where
  | begin_ (slot : Nat) (image : Image)
  | finish (size : Nat) (hash : List Byte)
  | delete (slot : Nat)
deriving DecidableEq, Repr

/-- What a lantern last reported of a campaign (R297): the MAP as a number. -/
structure CampReport where
  phase : Nat
  code : Nat
  missing : Nat
  first : Nat
  map : Nat
  runVer : Nat
  last : Nat
deriving DecidableEq, Repr

/-- The campaign engine and the image library (R293 to R305): each wick's stored images, the image being loaded with its slot, the
library command that runs; the campaign's number, state, the state it was paused in, rounds, slot, image, target and required
version; its targets and their reports, who reported in the last collection; the blocks of the round, the position of the next,
whether one is under way; blocks sent, granted air time in µs; base cycles of the last block or announcement, of the last hold,
of the end of a collection or wait, the rest of a collection a pause stopped; the activation instant and whether its frame was
sent; the targets silent in the last collection. -/
structure Camp where
  lib : Map (Map Image)
  load : Option (Nat × Image)
  op : Option LibOp
  number : Nat
  state : Nat
  prev : Nat
  round : Nat
  slot : Nat
  size : Nat
  version : Nat
  hwClass : Nat
  hash : List Byte
  target : Nat
  fromVer : Nat
  targets : List Nat
  reports : Map CampReport
  heard : List Nat
  needed : List Nat
  full : Bool
  next : Nat
  busy : Bool
  blocksSent : Nat
  airUs : Nat
  lastBlock : Nat
  lastHold : Nat
  until_ : Option Nat
  rest : Option Nat
  actTime : Nat
  actSent : Bool
  silent : Nat
deriving DecidableEq, Repr

/-- What a journal record describes (R312): a frame with its SEQ, destination, channel, payload and NO_COPY mark; a change of journalled
state; a register of a page, by its place, with its value; a write of the banks; the end of an AUTHOR. -/
inductive RecKind where
  | frame (seq dest chan : Nat) (payload : List Byte) (noCopy : Bool)
  | state
  | page (key value : Nat)
  | bank
  | roleEnd
deriving DecidableEq, Repr

/-- A record of the journal (R312): its JSEQ, its kind with what it describes, its length in bytes, its segment time, its CRC-32. -/
structure JRec where
  jseq : Nat
  kind : RecKind
  len : Nat
  time : Nat
  crc : Nat
deriving DecidableEq, Repr

/-- The record ring (R311 to R313): the records that the older checkpoint leaves needed, the oldest first, and those that wait for a
checkpoint because the ring has no room for them. -/
structure Ring where
  recs : List JRec
  held : List JRec
deriving DecidableEq, Repr

/-- A controller checkpoint (R313): its slot, the registers of the pages it holds, and its commit word: JSEQ, segment time, the first 8
bytes of a SHA-256 digest over the state, a CRC; and the base cycle it was completed at. -/
structure Ckpt where
  slot : Nat
  pages : Map Nat
  jseq : Nat
  time : Nat
  digest : List Byte
  crc : Nat
  base : Nat
deriving DecidableEq, Repr

/-- The role arbiter (R307 to R335), by wick (0 A, 1 B) where it keeps something of each: the base cycles of the last heartbeat,
of READY, of the last stop counted under LOCKSTEP; the hourly buckets of each fault class (key 5 · wick + class); the wicks whose
last judged report failed; the base cycle since which a wick whose last report passed soaks; the self-tests that run, by the base cycle of
their start, those done, the instants a wick last left AUTHOR and first became COLD, the self-tests due besides the periodic
ones; the last heartbeat and the wicks of a loss of AUTHOR that no wick has taken over yet; the wick whose domains are still to be
switched off; the recovery starts of each wick that have failed in a row; the base cycle of the last recovery start tried and its wick, whether no
controller is left; the checkpoints, the newest first; the second compared last, whether an excursion lasts, the wicks blamed, the counted
seconds without it; the wicks that started without a valid checkpoint, with the JSEQ they started at; the hour boundaries passed; the counts
as MRAM holds them (R326); the instant of the last swap. -/
structure Arb where
  beat : Map Nat
  readyAt : Map Nat
  lockStop : Map Nat
  buckets : Map (List Nat)
  failed : List Nat
  soak : Map Nat
  testing : Map Nat
  testDone : Map Nat
  leftAuthor : Map Nat
  firstCold : Map Nat
  retest : Map Nat
  silence : Option Nat
  lost : List Nat
  outgoing : Option Wick
  snowRow : Map Nat
  tried : Nat
  triedWick : Nat
  noController : Bool
  ckpts : List Ckpt
  cmpSecond : Option Nat
  excursion : Bool
  blamed : List Nat
  absent : Nat
  lostAt : Map Nat
  hour : Nat
  savedBuckets : Map (List Nat)
  lastSwap : Nat
deriving DecidableEq, Repr

/-- A part entry of a package (R410). -/
structure Part where
  type : Nat
  flags : Nat
  mask : Nat
  version : Nat
  compatMin : Nat
  compatMax : Nat
  offset : Nat
  length : Nat
  head : List Byte
  iv : List Byte
  tag : List Byte
  baseHash : List Byte
  newHash : List Byte
deriving DecidableEq, Repr

/-- An installed firmware image (R407): its version, size and SHA-256. -/
structure FwImage where
  version : Nat
  size : Nat
  hash : List Byte
deriving DecidableEq, Repr

/-- The update path (R407 to R421): staging, the pages not yet complete, the words written of each open page; the parts of the verified
package; the installed images by (2 · wick + slot) · 8 + TYPE; the wicks and metering domains that run the trial set, whether the MSS
does; whether the trial's settings reset was made; whether the activation began without an AUTHOR; the wick of the update dry boot
that runs; the segment time of a cold switch; the base cycle a wick on the trial set took AUTHOR; PREV_SET_VER and DIGEST of the
commit record. -/
structure Upd where
  pkg : Mem
  missing : List Nat
  opened : Map (List Nat)
  parts : List Part
  images : Map FwImage
  onTrial : List Nat
  meterTrial : List Nat
  mssTrial : Bool
  wiped : Bool
  alone : Bool
  dry : Option Nat
  switchAt : Option Nat
  tookAt : Option Nat
  prevVer : Nat
  digest : List Byte
  recDigest : List Byte
  commits : Nat
deriving DecidableEq, Repr

/-- Supplies, starts and final saves (R359 to R371): the trigger held in PD0 and the base cycle of it; the trigger of the final
commit word where that is valid; whether a save ran since the last start; whether a start has begun and no save since; the base
cycle of the start; whether a start has restored the PD0 pages since PD0 was powered on; whether the arbiter still waits for
HOLD_READY, and whether a wick has been warmed since the start; whether the settings record exists; whether the next start follows
a factory reset; the base cycle at which each master wrote FR_KEY; whether RESET_N is low (R367); what
the MRAM held when it was last seen to be written, and the base cycle of that (R363). -/
structure Power where
  saveTrig : Nat
  saveSince : Nat
  word : Option Nat
  ran : Bool
  started : Bool
  startBase : Nat
  restored : Bool
  waiting : Bool
  warmed : Bool
  recorded : Bool
  factory : Bool
  frKey : Map Nat
  resetLow : Bool
  mramMark : List Nat
  mramAt : Nat
deriving DecidableEq, Repr

/-- Cabinet I/O beside its registers (R375 to R379): the debounced KF pads, the UART's FIFOs (a received byte with its parity and
stop-bit failures), whether a CSB transfer runs. -/
structure Cabinet where
  kf : Nat
  tx : List Byte
  rx : List (Byte × Bool × Bool)
  csb : Bool
deriving DecidableEq, Repr

/-- The vault and the tamper logic (R383 to R404): whether helper data exists; the root, empty while it is not regenerated, and the
corrected start-up pattern that the helper data yields; root checks failed since PD8 was powered on; whether a roll has been carried out since the last was armed or
cancelled; the last two bits of TLOOP_OUT, the newer first; the mismatches of the last loop samples; the base cycle at which each master
wrote SN_KEY; the mask of each key register; whether a health test has failed and the entropy source not yet restarted. -/
structure Vault where
  helper : Bool
  root : List Byte
  pattern : List Byte
  tries : Nat
  rolled : Bool
  out : List Bool
  loop : List Bool
  snKey : Map Nat
  masks : Map (List Byte)
  rngDown : Bool
deriving DecidableEq, Repr

/-- The management subsystem beside its registers (R423, R434): the conditions that hold, the rails that are in fault, the base
cycle of its last start. -/
structure Mss where
  hot : Bool
  damp : Bool
  light : Bool
  rails : List Nat
  since : Nat
deriving DecidableEq, Repr

/-- The whole state. `pending` is the queue of waiting commands; `base` counts cycles of the 32.768 kHz base, `now` is
segment time; `chReset` holds, of each message that a sender reset revoked, REVOKED_CNT and REVOKED_c as they stood before;
`tpEn` is the level of the TP_EN pad, `tpUnlocked` whether the test port has been unlocked (R439);
`fresh` and `viaAlias` are the model's own (the counter of free values; whether the access now executed came
through the ACTIVE alias). -/
structure State where
  pending : List Instr
  base : Nat
  now : Nat
  fresh : Nat
  viaAlias : Bool
  regs : Map Nat
  journal : Map Nat
  jseq : Nat
  ring : Ring
  hold : Map Nat
  busData : Word
  timers : Map Nat
  roleA : Role
  roleB : Role
  stoppedA : Bool
  stoppedB : Bool
  saving : Bool
  locks : Map Nat
  cfg : Cfg
  log : Log
  bist : Option BistRun
  fifos : Map Fifo
  hl : HostLink
  chPoster : Map Nat
  chReset : Map (Nat × Nat)
  chWaiting : List Nat
  window : Mem
  ledger : Ledger
  link : Link
  txn : Txn
  keys : Map SlotKey
  keyLeft : List Nat
  authorSince : Option Nat
  reg : Registry
  fab : Fab
  wave : Wave
  meter : Meter
  attr : Attr
  camp : Camp
  arb : Arb
  upd : Upd
  clock : Clock
  power : Power
  cab : Cabinet
  vault : Vault
  mss : Mss
  tpEn : Bool
  tpUnlocked : Bool
deriving DecidableEq, Repr

/-- An arbiter of which nothing has happened. DESIGN CHOICE (log entry 179). -/
def Arb.empty : Arb :=
  { beat := [], readyAt := [], lockStop := [], buckets := [], failed := [], soak := [], testing := [], testDone := [], leftAuthor := []
    firstCold := [], retest := [], silence := none, lost := [], outgoing := none, snowRow := [], tried := 0, triedWick := 0
    noController := false, ckpts := [], cmpSecond := none, excursion := false, blamed := [], absent := 0, lostAt := [], hour := 0
    savedBuckets := [], lastSwap := 0 }

/-- An update path that has done nothing. DESIGN CHOICE (log entry 179). -/
def Upd.empty : Upd :=
  { pkg := [], missing := [], opened := [], parts := [], images := [], onTrial := [], meterTrial := [], mssTrial := false, wiped := false
    alone := false, dry := none, switchAt := none, tookAt := none, prevVer := 0, digest := [], recDigest := [], commits := 0 }

/-- A fabric that knows nothing. DESIGN CHOICE (log entry 179). -/
def Fab.empty : Fab :=
  { neighbours := [], lsas := [], lsaSeq := 0, small := [], big := [], stale := false, queue := [], repeats := [], heard := []
    conflicts := [], counters := [], sent := [], fwdNext := none, fwdAcked := 0, fwdSince := 0, collected := [], rpa := none
    rpaSession := 0
    remote := { state := 0, id := 0, key := [], challenge := [], lastCtr := 0, peer := 0, since := 0, fails := 0, lockout := 0 }
    down := [] }

/-- A clock without any source. DESIGN CHOICE (log entry 179). -/
def Clock.empty : Clock :=
  { gnss := { edge := none, edgeAt := 0, edgeNs := 0, named := false, name := none, run := 0, statusA := false, valid := false, agreed := 0 }
    ports := [], gnssOff := none, ptpOff := none, airOff := [], chosen := 0, aligned := false, wasTrusted := false, part := 0 }

/-- An empty configuration bank (R44: banks empty). -/
def Bank.empty : Bank := { mem := [], sh := [], tableGens := [], gen := 0 }

/-- A FIFO as it starts (R99). -/
def Fifo.empty : Fifo := { words := [], openSlots := none, flushMark := none, lastRead := 0 }

/-- A harmonic view of nothing. -/
def Harm.empty : Harm := { index := 0, flags := 0, chans := [] }

/-- A metering domain of which nothing has run. DESIGN CHOICE (log entry 179). -/
def Dom.empty : Dom :=
  { since := 0, frozen := false, acc := [], opening := [], index := none, len := 15, covered := 0, flags := 0, prevDir := [], filt := []
    noVolt := [], second := 0, secP := [], secQ := [], secAbs := [], secV := [], secI := [], secN := [], secFlags := 0, secPh := [], winP := [], winQ := []
    winN := [], winPh := [], series := [], avgV := [], avgI := [], avgN := 0, ring := [], clip := [], settling := [], freqRange := false
    refPhase := none, present := false, seqKind := 0, seqRun := 0, seqLogged := false, half := [], vEvents := [], winIndex := 0, latest := Harm.empty
    three := Harm.empty, ten := Harm.empty, acc3 := [], acc10 := Harm.empty, acc10N := 0, period := none, periodWhole := false
    ckpts := [], ckptSeq := 0, stopping := none, saved := none, record := false }

/-- No campaign since start-up, and an empty library. DESIGN CHOICE (log entry 179). -/
def Camp.idle : Camp :=
  { lib := [], load := none, op := none, number := 0, state := 0, prev := 0, round := 0, slot := 0, size := 0, version := 0
    hwClass := 0, hash := [], target := 0, fromVer := 0, targets := [], reports := [], heard := [], needed := [], full := true, next := 0
    busy := false, blocksSent := 0, airUs := 0, lastBlock := 0, lastHold := 0, until_ := none, rest := none, actTime := 0
    actSent := false, silent := 0 }

/-- The state right after the Pilot domain is first powered: every register at its reset value, every domain but PD0 off,
both wicks OFF, every store empty. DESIGN CHOICE (log entries 3, 4, 178, 179). -/
def State.reset : State :=
  { pending := [], base := 0, now := 0, fresh := 0, viaAlias := false
    regs := [], journal := [], jseq := 0, ring := { recs := [], held := [] }, hold := [], busData := 0, timers := []
    roleA := .off, roleB := .off, stoppedA := false, stoppedB := false, saving := false
    locks := []
    cfg := { half0 := Bank.empty, half1 := Bank.empty, activeHalf := false, commitHalf := false, commits := [], redo := false, commitCount := 0
             state := 0, reason := 0, failedTypes := 0, swapAt := 0, lastAt := 0, swapMode := 0, swapTime := 0
             cmd := none, cmdDone := false, cmdFailed := 0, preset := none }
    log := { queue := [], lostBefore := false, rate := [], buckets := [], pendingSup := [], area := [], newest := none }
    bist := none
    fifos := []
    hl := { key := none, opening := none, response := [], wokeAt := 0 }
    chPoster := []
    chReset := []
    chWaiting := []
    window := []
    ledger := { accounts := [], dwells := [], presumed := [], presumedAll := some 0, startBase := 0, boundaries := 0
                secondRing := [], minuteRing := [], savedOpen := none, unwritten := [], snapTime := 0, snapTrusted := false, snapValid := false }
    link := { seqNext := 0, seqCeiling := 0, seqRefused := 0, fcnt := [], fcntCeiling := [], fabCnt := [], fabCeiling := [], grants := []
              onAir := [], blankEnd := [], copies := [], taper := none, acks := [], records := [], lastPhr := [], seen := [], lastPsdu := [], sentSfd := []
              lastBeacon := none, second := 0 }
    txn := { slots := [], waiting := [], results := [], submissions := 0 }
    keys := [], keyLeft := [], authorSince := none
    reg := { mem := [], gen := 0, lanterns := [], lookups := [], answers := [], accepts := [], retained := [], notices := [], roleDue := none
             rotated := 0, daySteps := [], day := none, sun := [], refreshed := none }
    fab := Fab.empty
    wave := { tracks := [], waves := [], gens := [], last := [], queued := [], buffer := [], openHour := none, ran := false, counts := [], history := []
              ready := false, preDone := none, preSet := [], preMinute := 0, holds := [], profGen := 0 }
    meter := { domA := Dom.empty, domB := Dom.empty, lenMin := 15, lenPend := none, capture := none, exportRun := [], importRun := [], runSecond := none
               views := [] }
    attr := { cur := none, number := 0, results := [], bases := [], nEff := [0, 0, 0], sigma := [0, 0, 0], planDays := [], masks := [] }
    camp := Camp.idle, arb := Arb.empty, upd := Upd.empty, clock := Clock.empty
    power := { saveTrig := 0, saveSince := 0, word := none, ran := false, started := false, startBase := 0
               restored := false, waiting := false, warmed := false, recorded := false, factory := false, frKey := [], resetLow := false, mramMark := [], mramAt := 0 }
    cab := { kf := 0, tx := [], rx := [], csb := false }
    vault := { helper := false, root := [], pattern := [], tries := 0, rolled := false, out := [], loop := [], snKey := [], masks := [], rngDown := false }
    mss := { hot := false, damp := false, light := false, rails := [], since := 0 }
    tpEn := false, tpUnlocked := false }

end Sys2Proof.Machine
end

