-- ==== Sys2Proof/Machine/Ops.lean ====
section
/-! DEFINITION. The named operations over registers, interrupts, errors, timers, roles, domains, locks and the event log
that the meanings share. -/

namespace Sys2Proof.Machine

/-! ### A quotient shown in whole units: the spec states no rounding -/

/-- n over d as a whole number: itself where it is one, else one of its neighbours. DESIGN CHOICE (log entry 10). -/
def shown (n d : Nat) : Nat := n / d + (if n % d = 0 then 0 else b2n (Config.roundsUp n d))

/-- Base cycles shown as milliseconds. DESIGN CHOICE (log entry 10). -/
def msShown (n : Nat) : Nat := shown (n * 1000) 32768

/-! ### The common header of a page (R39) -/

/-- CTRL.ENABLE. -/
def HDR.ENABLE (p : Nat) : Field := ⟨p, 0x008, 0, 1, .rw, 0, .any, true⟩
/-- STATUS.RUNNING. -/
def HDR.RUNNING (p : Nat) : Field := ⟨p, 0x00C, 0, 1, .ro, 0, .any, false⟩
/-- STATUS.BUSY. -/
def HDR.BUSY (p : Nat) : Field := ⟨p, 0x00C, 1, 1, .ro, 0, .any, false⟩
/-- IRQ_RAW. -/
def HDR.IRQ_RAW (p : Nat) : Field := ⟨p, 0x010, 0, 32, .ro, 0, .any, false⟩
/-- IRQ_EN. -/
def HDR.IRQ_EN (p : Nat) : Field := ⟨p, 0x014, 0, 32, .rw, 0, .any, true⟩
/-- ERR_CNT.COUNT. -/
def HDR.ERR_COUNT (p : Nat) : Field := ⟨p, 0x020, 0, 16, .rc, 0, .any, false⟩
/-- ERR_FIRST, all its fields as one word. -/
def HDR.ERR_FIRST (p : Nat) : Field := ⟨p, 0x024, 0, 32, .ro, 0, .any, false⟩
/-- PAGE_LOCK.NS_LOCK. -/
def HDR.NS_LOCK (p : Nat) : Field := ⟨p, 0x028, 0, 1, .w1s, 0, .any, false⟩
/-- PAGE_LOCK.HOST_LOCK. -/
def HDR.HOST_LOCK (p : Nat) : Field := ⟨p, 0x028, 1, 1, .w1s, 0, .any, false⟩
/-- PAGE_LOCK.SET_BY. -/
def HDR.SET_BY (p : Nat) : Field := ⟨p, 0x028, 8, 3, .ro, 0, .any, false⟩
/-- SHADOW_CTL.VIEW_SHADOW. -/
def HDR.VIEW_SHADOW (p : Nat) : Field := ⟨p, 0x02C, 2, 1, .rw, 0, .any, true⟩

/-! ### The table ports (R54), at offset 0x100 of their pages -/

/-- PORT.TABLE. -/
def PORT.TABLE (p : Nat) : Field := ⟨p, 0x100, 0, 4, .rw, 0, .any, false⟩
/-- PORT.BANK. -/
def PORT.BANK (p : Nat) : Field := ⟨p, 0x100, 8, 1, .rw, 0, .any, false⟩
/-- PORT.INDEX. -/
def PORT.INDEX (p : Nat) : Field := ⟨p, 0x104, 0, 16, .rw, 0, .any, false⟩
/-- PORT.AUTO_INC, held while its command runs. -/
def PORT.AUTO_INC (p : Nat) : Field := ⟨p, 0x108, 8, 1, .wo, 0, .any, false⟩
/-- PORT.BUSY. -/
def PORT.BUSY (p : Nat) : Field := ⟨p, 0x10C, 0, 1, .ro, 0, .any, false⟩
/-- PORT.DONE. -/
def PORT.DONE (p : Nat) : Field := ⟨p, 0x10C, 1, 1, .ro, 0, .any, false⟩
/-- PORT.FAIL. -/
def PORT.FAIL (p : Nat) : Field := ⟨p, 0x10C, 2, 1, .ro, 0, .any, false⟩
/-- PORT.FAIL_CODE. -/
def PORT.FAIL_CODE (p : Nat) : Field := ⟨p, 0x10C, 4, 4, .ro, 0, .any, false⟩
/-- PORT.LAST_INDEX. -/
def PORT.LAST_INDEX (p : Nat) : Field := ⟨p, 0x10C, 16, 16, .ro, 0, .any, false⟩
/-- PORT_DATAk. -/
def PORT.DATA (p k : Nat) : Field := ⟨p, 0x120 + 4 * k, 0, 32, .rw, 0, .any, false⟩

/-! ### Registers -/

/-- The value a register field holds. DESIGN CHOICE (log entry 4). -/
def State.get (s : State) (f : Field) : Nat := s.regs.getD f.key f.reset

/-- A register file with a field holding a value, cut to the field's width; a field at its reset value is not listed. -/
def setReg (r : Map Nat) (f : Field) (v : Nat) : Map Nat :=
  if v % 2 ^ f.width = f.reset then r.del f.key else r.put f.key (v % 2 ^ f.width)

/-- A register field takes a value. -/
def State.set (s : State) (f : Field) (v : Nat) : State := { s with regs := setReg s.regs f v }

/-- Whether a one-bit field is 1. -/
def State.on (s : State) (f : Field) : Bool := s.get f = 1

/-- A counter that saturates goes up by n. -/
def State.bump (s : State) (f : Field) (n : Nat) : State :=
  s.set f (min (s.get f + n) (2 ^ f.width - 1))

/-- A counter that wraps goes up by one. -/
def State.wrapInc (s : State) (f : Field) : State := s.set f (s.get f + 1)

/-- Several fields take values, the first first. -/
def State.setAll (s : State) (l : List (Field × Nat)) : State := l.foldl (fun t p => t.set p.1 p.2) s

/-- A 64-bit value over a pair of registers, low half first (R32). -/
def State.get2 (s : State) (lo hi : Field) : Nat := s.get lo + 2 ^ 32 * s.get hi

/-- A value set over a pair of registers (R32). -/
def State.set2 (s : State) (lo hi : Field) (v : Nat) : State := (s.set lo (v % 2 ^ 32)).set hi (v / 2 ^ 32)

/-- The next free value: an unknown number, and the state with its counter advanced. DESIGN CHOICE (log entries 8, 147). -/
def State.draw (s : State) : Nat × State := (Config.random s.fresh, { s with fresh := s.fresh + 1 })

/-- Unknown bytes. DESIGN CHOICE (log entry 8). -/
def State.drawBytes (s : State) : Nat → List Byte × State
  | 0 => ([], s)
  | n + 1 =>
    let (bs, t) := State.drawBytes s n
    (bs ++ [BitVec.ofNat 8 (Config.random t.fresh)], { t with fresh := t.fresh + 1 })

/-- The registers of the vault that hold the keys K_s and K_r (R386), as its masks are keyed. -/
def maskHost : Nat := 32
/-- The register of K_r. -/
def maskRemote : Nat := 33

/-- The bytes of a list as a list of little-endian words. -/
def toWords : List Byte → List Nat
  | a :: b :: c :: d :: t => leNat [a, b, c, d] :: toWords t
  | [] => []
  | t => [leNat t]

/-- Words written over an array of one-word fields. -/
def State.setWords (s : State) (f : Nat → Field) (start : Nat) : List Nat → State
  | [] => s
  | v :: t => State.setWords (s.set (f start) v) f (start + 1) t

/-- The bytes held in an array of n one-word fields. -/
def State.wordBytes (s : State) (f : Nat → Field) (n : Nat) : List Byte :=
  (List.range n).flatMap (fun k => leBytes 4 (s.get (f k)))

/-! ### Interrupts and errors -/

/-- Interrupt source n of a page sets its IRQ_RAW bit (R41). -/
def State.raise (s : State) (page n : Nat) : State :=
  s.set (HDR.IRQ_RAW page) (s.get (HDR.IRQ_RAW page) ||| 2 ^ n)

/-- The chosen IRQ_RAW bits clear, but for the bits whose source sets them in the same cycle (R10, R41). -/
def State.clearIrq (s : State) (page v same : Nat) : State :=
  s.set (HDR.IRQ_RAW page) ((s.get (HDR.IRQ_RAW page) &&& (2 ^ 32 - 1 - v % 2 ^ 32)) ||| same)

/-- IRQ_STAT (R39). -/
def State.irqStat (s : State) (page : Nat) : Nat := s.get (HDR.IRQ_RAW page) &&& s.get (HDR.IRQ_EN page)

/-- The page number as the master sent it (R42). -/
def State.sentPage (s : State) (page : Nat) : Nat :=
  if s.viaAlias = true ∧ 0x10 ≤ page then 0x30 + page % 16 else page

/-- A refused access is counted in a page under a code; the first since COUNT was 0 is captured (R42). -/
def State.countErr (s : State) (counter : Nat) (m : Master) (page off code : Nat) : State :=
  let first := off % 4096 + 2 ^ 12 * s.sentPage page + 2 ^ 24 * code + 2 ^ 28 * m.id + 2 ^ 31
  let t := if s.get (HDR.ERR_COUNT counter) = 0 then s.set (HDR.ERR_FIRST counter) first else s
  t.bump (HDR.ERR_COUNT counter) 1

/-! ### Timers on the base -/

/-- A timer is set to fall due n base cycles from now. -/
def State.arm (s : State) (id n : Nat) : State := { s with timers := s.timers.put id (s.base + n) }

/-- A timer is stopped. -/
def State.disarm (s : State) (id : Nat) : State := { s with timers := s.timers.del id }

/-- Whether a timer runs. -/
def State.armed (s : State) (id : Nat) : Bool := s.timers.has id

/-- Whether a timer has fallen due. DESIGN CHOICE (log entries 2, 174). -/
def State.due (s : State) (id : Nat) : Bool :=
  match s.timers.get? id with
  | some t => decide (t ≤ s.base)
  | none => false

/-- Base cycles in a number of seconds. -/
def secs (n : Nat) : Nat := 32768 * n

/-- Base cycles in a number of milliseconds, rounded up. -/
def millis (n : Nat) : Nat := (32768 * n + 999) / 1000

/-! ### Roles, domains, pages -/

/-- A wick's role. -/
def State.role (s : State) : Wick → Role
  | .a => s.roleA
  | .b => s.roleB

/-- A wick takes a role. -/
def State.setRole (s : State) (w : Wick) (r : Role) : State :=
  match w with
  | .a => { s with roleA := r }
  | .b => { s with roleB := r }

/-- Whether a wick is stopped under R14. -/
def State.stopped (s : State) : Wick → Bool
  | .a => s.stoppedA
  | .b => s.stoppedB

/-- The wick that holds AUTHOR. -/
def State.author (s : State) : Option Wick :=
  if s.roleA = .author then some .a else if s.roleB = .author then some .b else none

/-- The wick that holds AUTHOR or SNOWDROP. -/
def State.controller (s : State) : Option Wick :=
  if s.roleA = .author ∨ s.roleA = .snowdrop then some .a
  else if s.roleB = .author ∨ s.roleB = .snowdrop then some .b else none

/-- Whether a wick holds AUTHOR and is not stopped (R14). -/
def State.authorRuns (s : State) : Bool :=
  match s.author with
  | some w => !s.stopped w
  | none => false

/-- Whether a wick holds AUTHOR or SNOWDROP and is not stopped (R14). -/
def State.controllerRuns (s : State) : Bool :=
  match s.controller with
  | some w => !s.stopped w
  | none => false

/-- Whether a wick holds AUTHOR. -/
def State.isAuthor (s : State) (w : Wick) : Bool := s.role w = .author

/-- Whether a wick holds AUTHOR or SNOWDROP. -/
def State.isController (s : State) (w : Wick) : Bool := s.role w = .author || s.role w = .snowdrop

/-! ### Who may write the MRAM (R23) -/

/-- The writers of the MRAM. -/
inductive MramWriter where
  | finalSave
  | vault
  | pilot
  | meterA
  | meterB
  | mss
  | coreA
  | coreB
deriving DecidableEq, Repr

/-- The order in which the MRAM controller serves writers that wait (R23). -/
def mramOrder : List MramWriter := [.finalSave, .vault, .pilot, .meterA, .meterB, .mss, .coreA, .coreB]

/-- The writer that is served next among those that wait. -/
def mramNext (l : List MramWriter) : Option MramWriter := mramOrder.find? l.contains

/-- The writers that have something to write and wait for it: the final-save sequencer while it runs, the Pilot domain with ledger records
that a save held up, the MSS with events in its queue. Every other writer's write is made within its command. -/
def State.mramWaiting (s : State) : List MramWriter :=
  (if s.saving then [.finalSave] else []) ++ (if s.ledger.unwritten.isEmpty then [] else [.pilot]) ++ (if s.log.queue.isEmpty then [] else [.mss])

/-- Whether a writer's write is served now: it is the first among itself and the writers that wait, and no final save runs that is
another's (R23). -/
def State.mramServes (s : State) (x : MramWriter) : Bool :=
  (!s.saving || x = .finalSave) && mramNext (x :: s.mramWaiting) = some x

/-- Whether a read of MRAM_SCAN is served: no write waits (R23). -/
def State.scanServed (s : State) : Bool := s.mramWaiting.isEmpty

/-- Whether power domain n is powered and ready. -/
def State.pdOn (s : State) (n : Nat) : Bool := bit (s.get PWR.PD_ON) n

/-- Power domain n goes on or off. -/
def State.setPd (s : State) (n : Nat) (v : Bool) : State :=
  let t := s.set PWR.PD_ON (setBits (s.get PWR.PD_ON) n 1 (b2n v))
  t.set PWR.PD_SLEEP (setBits (t.get PWR.PD_SLEEP) n 1 0)

/-- The core, radio and metering domains of a wick (R24). -/
def corePd : Wick → Nat
  | .a => 2
  | .b => 5
/-- The radio domain of a wick. -/
def radioPd (w : Wick) : Nat := corePd w + 1
/-- The metering domain of a wick. -/
def meterPd (w : Wick) : Nat := corePd w + 2

/-- The wick of a wick page. -/
def pageWick (page : Nat) : Option Wick :=
  if page / 16 = 1 then some .a else if page / 16 = 2 then some .b else none

/-- The domain that serves a physical page (R24, R33). -/
def pageDomain (page : Nat) : Nat :=
  match pageWick page with
  | some w =>
    if page % 16 = 1 then radioPd w
    else if page % 16 = 7 ∨ page % 16 = 8 then meterPd w
    else corePd w
  | none =>
    if page = 5 ∨ page = 0xF then 10
    else if page = 6 ∨ page = 7 ∨ page = 8 ∨ page = 0xA then 1
    else if page = 9 then 8
    else 0

/-- Whether a page is served from a wick's core domain. -/
def isCorePage (page : Nat) : Bool := decide (page / 16 = 1 ∨ page / 16 = 2) && decide (page % 16 ≠ 1 ∧ page % 16 ≠ 7 ∧ page % 16 ≠ 8)

/-- Whether a page is ready: its domain is on, and no restoration, self-test or destructive BIST runs in it (R35). -/
def State.pageReady (s : State) (page : Nat) : Bool :=
  s.pdOn (pageDomain page) &&
    (match pageWick page with
     | some w =>
       !(isCorePage page || page % 16 = 1) || s.role w = .mirror || s.role w = .author || s.role w = .snowdrop || s.arb.outgoing = some w
     | none => true)

/-- The access code of a page that does not answer, if any (R35, R42). -/
def State.pageDown (s : State) (page : Nat) : Option Nat :=
  match pageWick page with
  | some w =>
    if s.stopped w && isCorePage page then some 0xC
    else if s.pageReady page then none else some 0x9
  | none => if s.pageReady page then none else some 0x9

/-! ### Who may reach a page (R33, R34, R43) -/

/-- Whether the non-secure port may read a physical page. -/
def nsMayRead (page : Nat) : Bool :=
  page / 16 = 1 || page / 16 = 2 || !(page = 4 || page = 8 || page = 9 || page = 0xA || page = 0xB)

/-- Whether the non-secure port may write a word of a physical page. -/
def nsMayWrite (page off : Nat) : Bool :=
  nsMayRead page && (off = 0x014 || off = 0x01C || page = 3 || page = 5 || page = 0xF ||
    (page = 2 && 0x80 ≤ off && off < 0xC0))

/-- Whether PAGE_LOCK refuses a master's write of a word (R43, R39). -/
def State.pageLocked (s : State) (m : Master) (page off : Nat) : Bool :=
  (s.on (HDR.NS_LOCK page) && m = .hostN) ||
  (s.on (HDR.HOST_LOCK page) && (m = .hostN || m = .hostS || m = .remote) && off ≠ 0x01C)

/-- Whether a guard lock is held by another master while the LOCKS page is enabled (R52, R53). -/
def State.guardHeld (s : State) (m : Master) (n : Nat) : Bool :=
  s.on (HDR.ENABLE 2) && (match s.locks.get? n with
    | some o => o ≠ m.id
    | none => false)

/-- Whether a page stands on a reserved wick page position, which is answered without an error (R30). DEDUCED (log entry 13). -/
def reservedPage (page : Nat) : Bool := decide (0x10 ≤ page ∧ 0xD ≤ page % 16)

/-- The codes under which a write of a word of a physical page is refused, before the page's own rules. DEDUCED (log entry 14). -/
def State.writeCodes (s : State) (m : Master) (page off : Nat) : List Nat :=
  if reservedPage page then [] else
  (if m = .hostN ∧ nsMayWrite page off = false then [0x1] else []) ++
  (if s.pageLocked m page off then [0x2] else []) ++
  (match s.pageDown page with | some c => [c] | none => [])

/-- The codes under which a read of a physical page is refused. DEDUCED (log entry 14). -/
def State.readCodes (s : State) (m : Master) (page : Nat) : List Nat :=
  if reservedPage page then [] else
  (if m = .hostN ∧ nsMayRead page = false then [0x1] else []) ++
  (match s.pageDown page with | some c => [c] | none => [])

/-- The page that counts a refusal (R42). DEDUCED (log entry 14). -/
def errPage (page code : Nat) : Nat := if 0x9 ≤ code ∧ code ≤ 0xC then 0xF else page

/-- Whether a master can act: a wick that is stopped takes no action outside itself (R14). DEDUCED (log entry 7). -/
def State.acts (s : State) (m : Master) : Bool := !((m = .wickA && s.stoppedA) || (m = .wickB && s.stoppedB))

/-- A write of a register with behaviour of its own: refused and counted once under its lowest code, or carried out. Nothing stands on a
reserved page position (R30). DEDUCED (log entries 7, 13). -/
def State.write (s : State) (m : Master) (page off : Nat) (extra : List Nat) (k : State → State) : State :=
  if s.acts m && !reservedPage page then
    match minimum? (s.writeCodes m page off ++ extra) with
    | some c => s.countErr (errPage page c) m page off c
    | none => k s
  else s

/-- Code NOT_AUTHOR for a wick page that takes writes only while its wick holds AUTHOR or SNOWDROP (R106). -/
def State.controlCode (s : State) (w : Wick) : List Nat := if s.isController w then [] else [0x5]

/-- Code NOT_AUTHOR for a wick page that takes writes only while its wick holds AUTHOR (R57). -/
def State.authorCode (s : State) (w : Wick) : List Nat := if s.isAuthor w then [] else [0x5]

/-- Whether a swap is armed: from the accepted ARM until it completes, is refused or is cancelled (R59). -/
def State.swapArmed (s : State) : Bool := s.cfg.state = 1 || s.cfg.state = 2

/-- The codes that refuse a shadow write (R53, R57, R59). -/
def State.shadowCodes (s : State) (m : Master) (w : Wick) : List Nat :=
  (if s.guardHeld m 24 then [0x3] else []) ++ s.authorCode w ++ (if s.swapArmed then [0x6] else [])

/-! ### Sources of events (R424) -/

/-- The Pilot domain as an event source. -/
def srcPilot : Nat := 0x10
/-- The vault as an event source. -/
def srcVault : Nat := 0x11
/-- A wick's metering as an event source. -/
def srcMeter : Wick → Nat
  | .a => 0x12
  | .b => 0x13

/-! ### The event queue (R424 to R428) -/

/-- The codes listed in Event Codes that are not fixed (R429). -/
def limitedCodes : List Nat :=
  [0x0101, 0x0102, 0x0103, 0x0201, 0x0203, 0x0301, 0x0501, 0x0504, 0x0505, 0x0506, 0x0507, 0x0508, 0x0509, 0x050A,
   0x0510, 0x0601, 0x0602, 0x0603, 0x0604, 0x0701, 0x0702, 0x0703, 0x0704, 0x0802, 0x0901, 0x0902, 0x0903] ++
  [0x0C01, 0x0C02, 0x0C03, 0x0C04, 0x0C05]

/-- The fixed codes (R429). -/
def fixedCodes : List Nat :=
  [0x0202, 0x0302, 0x0502, 0x0503, 0x050B, 0x050C, 0x050D, 0x050E, 0x050F, 0x0801, 0x0803, 0x0A01, 0x0A02, 0x0A03,
   0x0A04, 0x0A05, 0x0A06] ++ [0x0B01, 0x0B02, 0x0B03, 0x0B04, 0x0B05, 0x0B06, 0x0C06]

/-- RL_RATE of an event code. -/
def Log.rateOf (l : Log) (code : Nat) : Nat := l.rate.getD code 10

/-- The tokens of a code's bucket; a bucket not listed is full. -/
def Log.tokensOf (l : Log) (code : Nat) : Nat :=
  match l.buckets.get? code with
  | some b => b.tokens
  | none => l.rateOf code

/-- A token is taken from a code's bucket: a full bucket starts its refill time now. DEDUCED (log entry 148). -/
def Log.take (l : Log) (code base : Nat) : Log :=
  match l.buckets.get? code with
  | some b => { l with buckets := l.buckets.put code { b with tokens := b.tokens - 1 } }
  | none => { l with buckets := l.buckets.put code { tokens := l.rateOf code - 1, since := base, added := 0 } }

/-- Whether an event raised now is written only after a restart of the MSS or a final save (R427). -/
def State.deferring (s : State) : Bool := !s.pdOn 1 || s.saving

/-- An event enters the queue: events of the same cycle stand in increasing order of SOURCE (R426). -/
def enqueued (q : List Event) (e : Event) : List Event :=
  let behind := (q.reverse.takeWhile (fun x => decide (x.time = e.time ∧ e.source < x.source))).length
  q.take (q.length - behind) ++ e :: q.drop (q.length - behind)

/-- An event is raised: rate-limited, then queued, or dropped by a full queue (R426, R428). -/
def State.event (s : State) (source code : Nat) (params : List Nat) : State :=
  if decide (code ∈ limitedCodes) && s.log.tokensOf code = 0 then
    { s with log := { s.log with pendingSup := s.log.pendingSup.put code (min (s.log.pendingSup.getD code 0 + 1) 0xFFFF) } }
  else
    let l := if code ∈ limitedCodes then s.log.take code s.base else s.log
    if 64 ≤ l.queue.length then
      (({ s with log := { l with lostBefore := true } } : State).bump EVLOG.QUEUE_LOST_CNT 1).raise 6 1
    else
      let e : Event :=
        { code := code, source := source, time := s.now, trusted := s.on TIME.TRUSTED, deferred := s.deferring
          suppressed := l.pendingSup.getD code 0, params := params.map (· % 2 ^ 24) }
      { s with log := { l with queue := enqueued l.queue e, pendingSup := l.pendingSup.del code } }

/-! ### Check codes -/

/-- One step of a CRC of w bits with its top bit shifted out first. -/
def crcMsbStep (w poly : Nat) (c : Nat) : Nat :=
  if c.testBit (w - 1) then Nat.xor (2 * c % 2 ^ w) poly else 2 * c % 2 ^ w

/-- n steps of crcMsbStep. -/
def crcMsbSteps (w poly : Nat) : Nat → Nat → Nat
  | 0, c => c
  | n + 1, c => crcMsbSteps w poly n (crcMsbStep w poly c)

/-- The CRC-16 of R70. -/
def crc16 (l : List Byte) : Nat :=
  l.foldl (fun c b => crcMsbSteps 16 0x1021 8 (Nat.xor c (b.toNat * 256))) 0xFFFF

/-- n steps of the reflected CRC-32. -/
def crcLsbSteps : Nat → Nat → Nat
  | 0, c => c
  | n + 1, c => crcLsbSteps n (if c.testBit 0 then Nat.xor (c / 2) 0xEDB88320 else c / 2)

/-- The CRC-32 of R424. -/
def crc32 (l : List Byte) : Nat :=
  Nat.xor (l.foldl (fun c b => crcLsbSteps 8 (Nat.xor c b.toNat)) 0xFFFFFFFF) 0xFFFFFFFF

/-! ### The journal (R311 to R314) -/

/-- A kind of record as bytes, with what it describes. DESIGN CHOICE (log entry 177). -/
def RecKind.bytes : RecKind → List Byte
  | .frame seq dest chan payload noCopy => leBytes 1 0 ++ leBytes 2 seq ++ leBytes 2 dest ++ leBytes 1 chan ++ leBytes 1 (b2n noCopy) ++ payload
  | .state => leBytes 1 1
  | .page key value => leBytes 1 2 ++ leBytes 4 key ++ leBytes 4 value
  | .bank => leBytes 1 3
  | .roleEnd => leBytes 1 4

/-- The bytes of a record that its CRC-32 covers. DESIGN CHOICE (log entry 177). -/
def JRec.bytes (r : JRec) : List Byte := leBytes 8 r.jseq ++ leBytes 4 r.len ++ leBytes 6 r.time ++ r.kind.bytes

/-- Whether a record's CRC is right. -/
def JRec.valid (r : JRec) : Bool := r.crc = crc32 r.bytes

/-- The record that the controller would add now. -/
def State.newRecord (s : State) (k : RecKind) : JRec :=
  let r : JRec := { jseq := s.jseq + 1, kind := k, len := Config.recLen (s.jseq + 1), time := s.now, crc := 0 }
  { r with crc := crc32 r.bytes }

/-- The bytes of the record ring that the records after a journal number take (R312). DESIGN CHOICE (log entry 177). -/
def State.ringUsed (s : State) (since : Nat) : Nat := ((s.ring.recs.filter (fun r => decide (since < r.jseq))).map JRec.len).sum

/-- The size of the record ring, and of a checkpoint slot, in bytes (R311). -/
def ringSize : Nat := 1280 * 1024
/-- The size of a checkpoint slot. -/
def slotSize : Nat := 896 * 1024

/-- The bytes of the commit word of a checkpoint that its CRC covers. DESIGN CHOICE (log entry 177). -/
def Ckpt.bytes (c : Ckpt) : List Byte := leBytes 8 c.jseq ++ leBytes 6 c.time ++ c.digest ++ leBytes 6 0

/-- Whether a checkpoint's commit word is valid (R313). -/
def Ckpt.valid (c : Ckpt) : Bool := c.crc = crc32 c.bytes

/-- The newest checkpoint whose commit word is valid (R314). -/
def State.newestCkpt (s : State) : Option Ckpt := s.arb.ckpts.find? Ckpt.valid

/-- The JSEQ of that checkpoint; 0 without one. -/
def State.ckptJseq (s : State) : Nat :=
  match s.newestCkpt with
  | some c => c.jseq
  | none => 0

/-- The JSEQ up to which the ring may overwrite records: that of the older valid checkpoint (R313). -/
def State.ringFloor (s : State) : Nat :=
  match (s.arb.ckpts.filter Ckpt.valid)[1]? with
  | some c => c.jseq
  | none => 0

/-- Whether the record ring has room: no record that the older checkpoint leaves needed is overwritten (R313). -/
def State.ringRoom (s : State) : Bool := s.ring.held.isEmpty && decide (s.ringUsed s.ringFloor < ringSize)

/-- The controller adds a record of a kind to the journal (R312), but while a final save runs (R23); one for which the ring has no room waits
for a checkpoint (R313). DESIGN CHOICE (log entries 18, 177). -/
def State.jotAs (s : State) (k : RecKind) : State :=
  if s.controllerRuns && !s.saving then
    let r := s.newRecord k
    let ring := s.ring
    { s with jseq := s.jseq + 1, ring := if s.ringRoom then { ring with recs := ring.recs ++ [r] } else { ring with held := ring.held ++ [r] } }
  else s

/-- A record of a change of journalled state. DESIGN CHOICE (log entry 18). -/
def State.jot (s : State) : State := s.jotAs .state

/-! ### Stream FIFOs (R95 to R99) -/

/-- The number of words a FIFO holds. -/
def fifoSize (f : Nat) : Nat := if f = 1 then 16384 else if f = 2 then 32768 else 4096

/-- A FIFO. -/
def State.fifo (s : State) (f : Nat) : Fifo := s.fifos.getD f Fifo.empty

/-- A FIFO takes a value. -/
def State.setFifo (s : State) (f : Nat) (x : Fifo) : State := { s with fifos := s.fifos.put f x }

/-- The parity bit of a word: the 33 bits hold an odd number of ones (R95). -/
def oddParity (w : Word) : Bool :=
  (List.range 32).foldl (fun p i => p != w.getLsbD i) true

/-- Whether a FIFO accepts packets: PD10 is on, F_EN and the page's ENABLE are 1 (R76, R98). -/
def State.fifoAccepts (s : State) (f : Nat) : Bool :=
  s.pdOn 10 && s.on (HDR.ENABLE 5) && s.on (STREAM.F_EN f)

/-- Free words of a FIFO, the slots of an open packet counted as used. -/
def Fifo.free (x : Fifo) (f : Nat) : Nat := fifoSize f - (x.words.length + x.openSlots.getD 0)

/-- A flush whose boundary is reached discards everything before it and raises FLUSH_DONE_f (R98). -/
def State.finishFlush (s : State) (f n : Nat) : State :=
  let x := s.fifo f
  ((s.setFifo f { x with words := x.words.drop n, flushMark := none }).set (STREAM.FLUSH_BUSY f) 0).raise 5 (16 + f)

/-- A producer opens a packet: PD10 wakes and the length word's slot is reserved (R76, R96). -/
def State.openPacket (s : State) (f : Nat) : State :=
  if s.fifoAccepts f = true ∧ (s.fifo f).openSlots = none then
    let t := s.set PWR.PD_SLEEP (setBits (s.get PWR.PD_SLEEP) 10 1 0)
    if (t.fifo f).free f = 0 then (t.bump (STREAM.DROP_CNT f) 1).raise 5 (8 + f)
    else t.setFifo f { t.fifo f with openSlots := some 1 }
  else s

/-- The open packet of a FIFO is abandoned: its space is free and it is counted; a flush that waited for it has its
boundary here (R97, R98). -/
def State.abandonPacket (s : State) (f : Nat) : State :=
  match (s.fifo f).openSlots with
  | none => s
  | some _ =>
    let x := s.fifo f
    let mark := if s.on (STREAM.FLUSH_BUSY f) = true ∧ x.flushMark = none then some x.words.length else x.flushMark
    ((s.setFifo f { x with openSlots := none, flushMark := mark }).bump (STREAM.DROP_CNT f) 1).raise 5 (8 + f)

/-- The open packet of a FIFO commits with its length word, or is abandoned where it does not fit (R96, R97). A flush that
waited for it has its boundary after it (R98). -/
def State.commitPacket (s : State) (f ty : Nat) (payload : List Word) : State :=
  match (s.fifo f).openSlots with
  | none => s
  | some _ =>
    let x := s.fifo f
    if fifoSize f < x.words.length + 1 + payload.length then s.abandonPacket f
    else
      let len : Word := BitVec.ofNat 32 (payload.length % 2 ^ 16 + 2 ^ 16 * (ty % 256) + 2 ^ 24 * s.get (STREAM.F_NEXT_SEQ f))
      let words := x.words ++ (len :: payload).map (fun w => (w, oddParity w))
      let mark := if s.on (STREAM.FLUSH_BUSY f) = true ∧ x.flushMark = none then some words.length else x.flushMark
      (s.setFifo f { x with openSlots := none, words := words, flushMark := mark }).wrapInc (STREAM.F_NEXT_SEQ f)

/-- A producer writes a whole packet, which is written only while the FIFO accepts packets (R96 to R98). -/
def State.packet (s : State) (f ty : Nat) (payload : List Nat) : State :=
  if s.fifoAccepts f then (s.openPacket f).commitPacket f ty (payload.map (BitVec.ofNat 32)) else s

end Sys2Proof.Machine
end

