-- ==== Sys2Proof/Machine/Banks.lean ====
section
/-! DEFINITION. The configuration banks: their tables, their SH fields, copying, comparing and counting them (R56 to R65). -/

namespace Sys2Proof.Machine

/-- The store a table lives in. -/
inductive Store where
  | bank
  | registry
  | profile
deriving DecidableEq, Repr

/-- The geometry of a table: where it lives, its first byte there, its entries, the bytes of an entry, its content type. -/
structure Table where
  store : Store
  base : Nat
  entries : Nat
  bytes : Nat
  content : Nat
deriving DecidableEq, Repr

/-- Schedule programs (R198). -/
def tabPrograms : Table := ⟨.bank, 0, 64, 16, 0⟩
/-- Schedule steps (R198). -/
def tabSteps : Table := ⟨.bank, 0x1000, 512, 8, 0⟩
/-- Calendar exceptions (R198). -/
def tabExceptions : Table := ⟨.bank, 0x3000, 128, 8, 0⟩
/-- The group map (R197). -/
def tabGroups : Table := ⟨.bank, 0x10000, 4096, 32, 1⟩
/-- Street nodes (R213). -/
def tabNodes : Table := ⟨.bank, 0x30000, 4096, 16, 2⟩
/-- Street edges (R213). -/
def tabEdges : Table := ⟨.bank, 0x40000, 12288, 8, 2⟩
/-- Wave programs (R221). -/
def tabWavePrograms : Table := ⟨.bank, 0x58000, 64, 32, 3⟩
/-- The region profile, 768 bytes (R110). -/
def tabProfile : Table := ⟨.bank, 0x59000, 1, 768, 4⟩
/-- Attribution plans (R276). -/
def tabPlans : Table := ⟨.bank, 0x5A000, 16, 16, 5⟩
/-- The lantern registry (R184). -/
def tabRegistry : Table := ⟨.registry, 0, 4096, 128, 7⟩
/-- The traffic profile, read only (R235). -/
def tabTraffic : Table := ⟨.profile, 0, 4096, 96, 7⟩

/-- The tables a bank holds. -/
def bankTables : List Table :=
  [tabPrograms, tabSteps, tabExceptions, tabGroups, tabNodes, tabEdges, tabWavePrograms, tabProfile, tabPlans]

/-- The table of a number at a port; none is RANGE (R211, R212, R241). -/
def portTable : PortId → Nat → Option Table
  | .registry, 0 => some tabRegistry
  | .registry, 1 => some tabGroups
  | .sched, 0 => some tabPrograms
  | .sched, 1 => some tabSteps
  | .sched, 2 => some tabExceptions
  | .wave, 0 => some tabNodes
  | .wave, 1 => some tabEdges
  | .wave, 2 => some tabTraffic
  | _, _ => none

/-- The wick page position of a port. -/
def portPos : PortId → Nat
  | .registry => 4
  | .sched => 5
  | .wave => 6

/-- Where an entry of a table starts. -/
def Table.at (t : Table) (i : Nat) : Nat := t.base + i * t.bytes

/-- The bytes of an entry. -/
def Mem.entry (m : Mem) (t : Table) (i : Nat) : List Byte := m.read (t.at i) t.bytes

/-- A number in an entry: n bytes at an offset. -/
def Mem.field (m : Mem) (t : Table) (i off n : Nat) : Nat := m.num (t.at i + off) n

/-- Whether an entry is empty: all its bytes are zero (R65). -/
def Mem.entryEmpty (m : Mem) (t : Table) (i : Nat) : Bool := (m.entry t i).all (· = 0)

/-- The part of a memory between two addresses. -/
def Mem.slice (m : Mem) (a b : Nat) : Mem := m.filter (fun c => a ≤ c.1 && c.1 < b)

/-- The first and the last-plus-one byte of a table. -/
def Table.span (t : Table) : Nat × Nat := (t.base, t.base + t.entries * t.bytes)

/-- The indices of the non-empty entries of a table. -/
def Mem.used (m : Mem) (t : Table) : List Nat :=
  ((m.slice t.span.1 t.span.2).map (fun c => (c.1 - t.base) / t.bytes)).dedup

/-- The active bank. -/
def State.active (s : State) : Bank := if s.cfg.activeHalf then s.cfg.half1 else s.cfg.half0

/-- The shadow bank. -/
def State.shadow (s : State) : Bank := if s.cfg.activeHalf then s.cfg.half0 else s.cfg.half1

/-- The shadow bank takes a value. -/
def State.setShadow (s : State) (b : Bank) : State :=
  if s.cfg.activeHalf then { s with cfg := { s.cfg with half0 := b } } else { s with cfg := { s.cfg with half1 := b } }

/-- The shadow bank is written, under a BANK record of the journal (R57, R312), but while a final save runs (R23).
DESIGN CHOICE (log entry 18). -/
def State.writeShadow (s : State) (b : Bank) : State := if s.saving then s else (s.setShadow b).jotAs .bank

/-- The active bank takes a value. -/
def State.setActive (s : State) (b : Bank) : State :=
  if s.cfg.activeHalf then { s with cfg := { s.cfg with half1 := b } } else { s with cfg := { s.cfg with half0 := b } }

/-- The number under which a bank holds an SH field: the same for both wicks. -/
def Field.shKey (f : Field) : Nat := ((f.page % 16) * 4096 + f.off) * 32 + f.lo

/-- An SH field's value in a bank. -/
def Bank.sget (b : Bank) (f : Field) : Nat := b.sh.getD f.shKey f.reset

/-- The active value of an SH field. -/
def State.cfgGet (s : State) (f : Field) : Nat := s.active.sget f

/-- A bank with an SH field holding a value. -/
def Bank.sset (b : Bank) (f : Field) (v : Nat) : Bank :=
  { b with sh := if v = f.reset then b.sh.del f.shKey else b.sh.put f.shKey v }

/-- A bank changed once more. -/
def Bank.touch (b : Bank) : Bank := { b with gen := (b.gen + 1) % 2 ^ 32 }

/-- A bank with a table changed once more (R54, R55). -/
def Bank.touchTable (b : Bank) (t : Table) : Bank :=
  { b with tableGens := b.tableGens.put t.base ((b.tableGens.getD t.base 0 + 1) % 2 ^ 32), gen := (b.gen + 1) % 2 ^ 32 }

/-- Which SH fields, of one wick's pages, a bank holds as register words (Bank Content Types, bit 6). -/
def shFields : List Field :=
  [RADIO.TX_ATTEN .a, LINK.BEACON_S .a, LINK.SAMPLE_PERIOD_MS .a, LINK.SAMPLE_WIN .a, LINK.MAX_TTL .a, LINK.RELAY_K .a,
   SCHED.LAT_UDEG .a, SCHED.LON_UDEG .a, SCHED.UTC_OFF_MIN .a, SCHED.DST_MIN .a] ++
  [SCHED.DST_MONTH .a 0, SCHED.DST_WEEK .a 0, SCHED.DST_WEEKDAY .a 0, SCHED.DST_MINUTE .a 0, SCHED.DST_MONTH .a 1,
   SCHED.DST_WEEK .a 1, SCHED.DST_WEEKDAY .a 1, SCHED.DST_MINUTE .a 1, SCHED.REFRESH_MIN .a, SCHED.LEAD_S .a,
   WAVE.N_NODES .a, WAVE.N_EDGES .a]

/-- The SH fields of a page position. -/
def pageShFields (pos : Nat) : List Field := shFields.filter (fun f => f.page % 16 = pos)

/-- The part of a bank's tables that a page edits through SH arrays: PROF_DATA, PROG_DATA, PLAN_DATA. -/
def pageShTable : Nat → Option Table
  | 1 => some tabProfile
  | 6 => some tabWavePrograms
  | 9 => some tabPlans
  | _ => none

/-- Whether a page has SH fields (R39). -/
def pageHasSh (pos : Nat) : Bool := pos = 1 || pos = 2 || pos = 5 || pos = 6 || pos = 9

/-- Whether the SH fields of a page differ between the banks (R39). -/
def State.pageDirty (s : State) (pos : Nat) : Bool :=
  (pageShFields pos).any (fun f => s.active.sget f != s.shadow.sget f) ||
    (match pageShTable pos with
     | some t => s.active.mem.slice t.span.1 t.span.2 != s.shadow.mem.slice t.span.1 t.span.2
     | none => false)

/-- Whether a content type differs between the banks (R65). -/
def State.typeDirty (s : State) (n : Nat) : Bool :=
  if n = 6 then s.active.sh != s.shadow.sh
  else (bankTables.filter (fun t => t.content = n)).any
    (fun t => s.active.mem.slice t.span.1 t.span.2 != s.shadow.mem.slice t.span.1 t.span.2)

/-- CFGBANK DIRTY. -/
def State.dirtyTypes (s : State) : Nat :=
  (List.range 7).foldl (fun n i => n + b2n (s.typeDirty i) * 2 ^ i) 0

/-- The words of SH register fields that hold a value other than their reset value (R65). -/
def Bank.shWords (b : Bank) : Nat := ((b.sh.map (fun c => c.1 / 32)).dedup).length

/-- The KiB a bank's contents occupy, rounded up (R65). -/
def Bank.kib (b : Bank) : Nat :=
  ((bankTables.map (fun t => (b.mem.used t).length * t.bytes)).sum + 4 * b.shWords + 1023) / 1024

/-- A bank's memory with another's bytes between two addresses. -/
def Mem.splice (m src : Mem) (a b : Nat) : Mem :=
  m.filter (fun c => decide (c.1 < a)) ++ src.slice a b ++ m.filter (fun c => decide (b ≤ c.1))

/-- A bank with every table changed once more. -/
def Bank.touchTables (b : Bank) : Bank :=
  { b with tableGens := bankTables.foldl (fun (g : Map Nat) t => g.put t.base ((g.getD t.base 0 + 1) % 2 ^ 32)) b.tableGens
           gen := (b.gen + 1) % 2 ^ 32 }

/-- The shadow bank as COPY_ACTIVE leaves it (R58, R456). -/
def State.copiedShadow (s : State) : Bank :=
  { s.shadow.touchTables with mem := s.active.mem, sh := s.active.sh }

/-- The shadow bank as CLEAR_SHADOW leaves it (R65, R456). -/
def State.clearedShadow (s : State) : Bank :=
  { s.shadow.touchTables with mem := [], sh := [] }

/-- One page's active SH values copied into the shadow bank (R39). -/
def State.copiedPage (s : State) (pos : Nat) : Bank :=
  let b := (pageShFields pos).foldl (fun b f => b.sset f (s.active.sget f)) s.shadow
  let b := match pageShTable pos with
    | some t => { b with mem := b.mem.splice s.active.mem t.span.1 t.span.2 }
    | none => b
  b.touch

/-! ### The commit word (R61, R62) -/

/-- The bytes of a commit word that its CRC covers. DESIGN CHOICE (log entry 195). -/
def Commit.bytes (c : Commit) : List Byte := leBytes 1 (b2n c.half) ++ leBytes 2 c.count ++ leBytes 6 c.time ++ leBytes 19 0

/-- Whether a commit word's CRC is right. -/
def Commit.valid (c : Commit) : Bool := c.crc = crc32 c.bytes

/-- The commit word a swap writes. -/
def commitOf (half : Bool) (count time : Nat) : Commit :=
  let c : Commit := { half := half, count := count, time := time, crc := 0 }
  { c with crc := crc32 c.bytes }

/-- The half that the last valid commit word names; a word with a bad CRC is ignored (R62). Half 0 before the first swap. -/
def Cfg.committedHalf (c : Cfg) : Bool :=
  match c.commits.find? Commit.valid with
  | some x => x.half
  | none => false

/-- Whether work on the banks is open that a new AUTHOR does before its first transmission: a swap whose instant has passed, a validation,
a bank command, a preset load (R62, R63, R456). -/
def State.bankOpen (s : State) : Bool :=
  (s.cfg.state = 2 && decide (s.cfg.swapAt ≤ s.now)) || s.cfg.state = 1 || s.cfg.cmd.isSome || s.cfg.preset.isSome

/-- Whether the AUTHOR still owes work on the banks that it found when it took over or started. -/
def State.bankOwed (s : State) : Bool := s.cfg.redo && s.bankOpen

/-- A wick that takes AUTHOR reads the commit word and finds what it owes (R62, R63, R456). -/
def State.readCommit (s : State) : State :=
  let t : State := { s with cfg := { s.cfg with activeHalf := s.cfg.committedHalf, commitHalf := s.cfg.committedHalf } }
  { t with cfg := { t.cfg with redo := t.bankOpen } }

/-- Once nothing is owed, later work on the banks holds no transmission back. -/
def State.settleBanks (s : State) : State := { s with cfg := { s.cfg with redo := s.bankOwed } }

/-- The beacon interval in ticks of a bank (R60). -/
def Bank.beaconTicks (b : Bank) : Nat := 32768 * b.sget (LINK.BEACON_S .a)

/-- The first multiple of a number of ticks at or after an instant. -/
def nextMultiple (t q : Nat) : Nat := if q = 0 then t else (t + q - 1) / q * q

end Sys2Proof.Machine
end

