-- ==== Sys2Proof/Machine/Registers.lean ====
section
/-! DEFINITION. Register accesses that every page shares: plain writes, split values, interrupts, error counters, page locks, SH fields (R29 to R43), and the lock registers (R47 to R53). -/

namespace Sys2Proof.Machine

/-! ### Where an access goes -/

/-- The physical page a host page number reaches, or the code under which the access is counted in the HOSTLINK page
(R29, R30, R36). A reserved position of the alias is answered without an error whoever holds AUTHOR. -/
def State.resolve (s : State) (page : Nat) : Nat ⊕ Nat :=
  if page < 0x30 ∨ (0x3D ≤ page ∧ page < 0x40) then .inl page
  else if page < 0x40 then
    (match s.author with
     | some w => .inl (w.page (page % 16))
     | none => .inr 0xB)
  else .inr 0xA

/-- An access to a page register, sent to its physical page; through the alias it is marked so while it is carried out.
DEDUCED (log entry 24). -/
def State.atAddr (s : State) (m : Master) (a : Addr) (k : State → Nat → Nat → State) : State :=
  let page := a.toNat / 4096
  let off := a.toNat % 4096
  match s.resolve page with
  | .inl p => { k { s with viaAlias := decide (0x30 ≤ page) } p off with viaAlias := false }
  | .inr c => s.countErr 0xF m page off c

/-- The page-specific fields of a physical page. -/
def pageFields (page : Nat) : List Field :=
  match pageWick page with
  | some w =>
    (match page % 16 with
     | 0 => WCORE.fields w
     | 1 => RADIO.fields w
     | 2 => LINK.fields w
     | 3 => TXN.fields w
     | 4 => REGISTRY.fields w
     | 5 => SCHED.fields w
     | 6 => WAVE.fields w
     | 7 => METER.fields w
     | 8 => HARM.fields w
     | 9 => ATTR.fields w
     | 0xA => CAMPAIGN.fields w
     | 0xB => FABRIC.fields w
     | 0xC => CFGBANK.fields w
     | _ => [])
  | none =>
    (match page with
     | 0 => PILOT.fields
     | 1 => PWR.fields
     | 2 => LOCKS.fields
     | 3 => MBOX.fields 3
     | 4 => MBOX.fields 4
     | 5 => STREAM.fields
     | 6 => EVLOG.fields
     | 7 => MSS.fields
     | 8 => BIST.fields
     | 9 => VAULT.fields
     | 0xA => UPDATE.fields
     | 0xB => TAMPER.fields
     | 0xC => DUTY.fields
     | 0xD => TIME.fields
     | 0xE => CABINET_IO.fields
     | 0xF => HOSTLINK.fields
     | _ => [])

/-- The fields of the common header, and of the table port where the page has one. -/
def headerFields (page : Nat) : List Field :=
  if reservedPage page then [] else
  [HDR.ENABLE page, HDR.RUNNING page, HDR.BUSY page, HDR.IRQ_RAW page, HDR.IRQ_EN page, HDR.ERR_COUNT page,
   HDR.ERR_FIRST page, HDR.NS_LOCK page, HDR.HOST_LOCK page, HDR.SET_BY page] ++
  (if pageHasSh (page % 16) = true ∧ 0x10 ≤ page then [HDR.VIEW_SHADOW page] else []) ++
  (if 0x10 ≤ page ∧ 4 ≤ page % 16 ∧ page % 16 ≤ 6 then
    [PORT.TABLE page, PORT.BANK page, PORT.INDEX page, PORT.BUSY page, PORT.DONE page, PORT.FAIL page,
     PORT.FAIL_CODE page, PORT.LAST_INDEX page] ++ (List.range 32).map (PORT.DATA page)
   else [])

/-- The fields of one register word. -/
def wordFields (page off : Nat) : List Field :=
  (headerFields page ++ pageFields page).filter (fun f => f.off = off)

/-- Whether a page has a table port (R54). -/
def portPage (page : Nat) : Bool := decide (0x10 ≤ page ∧ 4 ≤ page % 16 ∧ page % 16 ≤ 6)

/-- Whether a word of a defined page is a register; every other offset is reserved (R11, R30). -/
def definedWord (page off : Nat) : Bool :=
  (decide (off < 0x030) && decide (off % 4 = 0)) || (portPage page && (off = 0x108 || off = 0x110)) ||
  (page = 5 && decide (0x800 ≤ off)) || !(wordFields page off).isEmpty

/-- The code under which an access to any word of a page that does not answer is refused, reserved offsets included (R35). -/
def State.downCodes (s : State) (page : Nat) : List Nat :=
  if reservedPage page then [] else
  match s.pageDown page with
  | some c => [c]
  | none => []

/-- A write of a reserved offset: ignored without an error on a page that answers (R11), counted on one that does not (R35).
DEDUCED (log entry 14). -/
def State.reservedWrite (s : State) (m : Master) (page off : Nat) : State :=
  if s.acts m then
    match s.downCodes page with
    | c :: _ => s.countErr (errPage page c) m page off c
    | [] => s
  else s

/-- A write of any word of a page: of a register as State.write says, of a reserved offset as State.reservedWrite says. -/
def State.writeAt (s : State) (m : Master) (page off : Nat) (extra : List Nat) (k : State → State) : State :=
  if definedWord page off then s.write m page off extra k else s.reservedWrite m page off

/-- The page positions of the wick whose RW fields take writes only while the wick holds AUTHOR or SNOWDROP (R106, and the
rules of the other pages that follow it). -/
def controlledPos (pos off : Nat) : Bool :=
  (pos = 1 || pos = 2 || pos = 4 || pos = 5 || pos = 6 || pos = 9 || pos = 0xA || pos = 0xB ||
   (pos = 3 && off = 0x008) || (pos = 3 && off = 0x060) || (pos = 3 && off = 0x064))

/-- The refusal codes of a page for a plain write of one of its words, beyond those of every page. DEDUCED (log entry 21). -/
def State.plainCodes (s : State) (m : Master) (page off : Nat) : List Nat :=
  match pageWick page with
  | some w =>
    (if controlledPos (page % 16) off then s.controlCode w else []) ++
    (if page % 16 = 0xC ∧ 0x40 ≤ off ∧ s.guardHeld m 24 = true then [0x3] else [])
  | none =>
    (if page = 0xA ∧ (off = 0x04C ∨ off = 0x050 ∨ off = 0x084) ∧ s.guardHeld m 28 = true then [0x3] else []) ++
    (if page = 6 ∧ 0x40 ≤ off ∧ m = .hostN then [0x1] else []) ++
    (if page = 0xE ∧ off = 0x040 ∧ (m = .wickA ∨ m = .wickB) then [0x1] else [])

/-- The fields a write acts on through a command of its own: no plain write touches them. -/
def specialFields : List Field :=
  [HDR.ENABLE 0xB, HDR.ENABLE 0xF, TAMPER.LOOP_EN, TAMPER.LID_EN, TIME.EPOCH_S_LO, TIME.EPOCH_S_HI,
   CABINET_IO.KO_OUT, PILOT.WICK_EN_A, PILOT.WICK_EN_B, PILOT.REVERT_INHIBIT, EVLOG.RL_RATE] ++
  [EVLOG.R_SEQ, TIME.SET_UTC_S_LO, TIME.SET_UTC_S_HI]

/-- The special fields of a wick's pages. -/
def specialWickFields (w : Wick) : List Field :=
  [HDR.ENABLE (w.page 7), TXN.RESP_TAG w, TXN.RESP_START w, METER.REC_REQ_INDEX w, FABRIC.FAB_ADDR w, FABRIC.SEG_ID w,
   CFGBANK.CFG_SWAP_TIME_LO w, CFGBANK.CFG_SWAP_TIME_HI w, TXN.NOT_BEFORE_LO w, TXN.NOT_BEFORE_HI w,
   TXN.NOT_AFTER_LO w, TXN.NOT_AFTER_HI w] ++
  [WAVE.INJ_TIME_LO w, WAVE.INJ_TIME_HI w, ATTR.START_TIME_LO w, ATTR.START_TIME_HI w, CAMPAIGN.ACT_TIME_LO w,
   CAMPAIGN.ACT_TIME_HI w]

/-- The pages whose ENABLE, when cleared, does more than store 0: clearing it is a command of its own. -/
def disablePage (page : Nat) : Bool :=
  page = 2 || page = 3 || page = 4 || page = 8 || page = 0xA || page = 0xF ||
    (0x10 ≤ page && (page % 16 = 2 || page % 16 = 3 || page % 16 = 6 || page % 16 = 9 || page % 16 = 0xA))

/-- Whether a plain write with a value stores a field: an RW field without a command of its own for that value.
DESIGN CHOICE (log entry 16). -/
def plainField (f : Field) (v : Nat) : Bool :=
  f.acc = .rw && !(decide (f ∈ specialFields)) &&
  (match pageWick f.page with
   | some w => !(decide (f ∈ specialWickFields w)) && !((f.page % 16 = 7 || f.page % 16 = 8) && 0x40 ≤ f.off && f.off < 0x100 &&
       !(decide (f = HARM.H_CH w)) && !(decide (f = HARM.H_VIEW w)))
   | none => !((f.page = 3 || f.page = 4) && 0x40 ≤ f.off) && !(f.page = 5 && f.lo = 0 && 0x40 ≤ f.off && v = 0) &&
       !(f.page = 0xE && f.off = 8 && f.lo = 1 && v = 0)) &&
  !(f.off = 8 && f.lo = 0 && v = 0 && disablePage f.page)

/-- The key under which the journal holds a wick page's field, the same for both wicks (R57, R106). -/
def Field.journalKey (f : Field) : Nat := ((0x10 + f.page % 16) * 4096 + f.off) * 32 + f.lo

/-- A field takes a written value under its own limits; a restored field of the controller's pages is journalled (R44, R106), but while a
final save runs (R23). DEDUCED (log entry 20); DESIGN CHOICE (log entry 18). -/
def State.store (s : State) (f : Field) (v : Nat) : State :=
  let t := s.set f (f.stored v)
  match pageWick f.page with
  | some w =>
    if f.keep = true ∧ s.isController w = true ∧ s.saving = false ∧ f.page % 16 ≠ 7 ∧ f.page % 16 ≠ 8 then
      let u := ({ t with journal := t.journal.put f.journalKey (f.stored v) } : State).jotAs (.page f.journalKey (f.stored v))
      if s.role w.other = .mirror ∨ s.role w.other = .warming then u.set { f with page := w.other.page (f.page % 16) } (f.stored v) else u
    else t
  | none => t

/-- The submission copy of a master: TXN's SUB_DEST to SUB_ARG exist once for each master (R167). The copies stand on page
numbers no host address reaches. -/
def Field.forMaster (f : Field) (m : Master) : Field := { f with page := 0x100 * m.id + f.page % 16 + 0x10 }

/-- Whether a word of the TXN page belongs to the submission copies (R167). -/
def isSubmission (page off : Nat) : Bool :=
  decide (0x10 ≤ page ∧ page % 16 = 3) && ((0x40 ≤ off && off < 0x58) || (0x400 ≤ off && off < 0x4DC))

/-- The plain fields of a word take their parts of a written value. -/
def State.storeWord (s : State) (m : Master) (page off v : Nat) : State :=
  (wordFields page off).foldl
    (fun t f =>
      let x := bits v f.lo f.width
      if plainField f x then t.store (if isSubmission page off then f.forMaster m else f) x else t) s

/-! ### What some settings do besides (R42, R50, R348, R363, R374, R381) -/

/-- The locks a master holds are released because it reset or its session ended (R50). -/
def State.dropLocks (s : State) (m : Master) : State :=
  let kept := s.locks.filter (fun p => p.2 ≠ m.id)
  if kept.length = s.locks.length then s else ({ s with locks := kept } : State).raise 2 1

/-- The remote session ends: its key is forgotten, a new challenge is drawn, its locks are released (R348). -/
def State.endRemote (s : State) : State :=
  if s.fab.remote.state = 0 then s
  else
    let (c, t) := if s.vault.rngDown then (s.fab.remote.challenge, s) else s.drawBytes 16
    let t := { t with vault := { t.vault with masks := t.vault.masks.del maskRemote } }
    State.dropLocks { t with fab := { t.fab with remote := { t.fab.remote with state := 0, key := [], challenge := c } } } .remote

/-- What the contactor outputs drive: KO_OUT while the page is enabled, the Pilot domain is on and its settings are restored (R373,
R374). -/
def State.koState (s : State) : Nat := if s.on (HDR.ENABLE 0xE) && s.pdOn 0 && s.power.restored then s.get CABINET_IO.KO_OUT else 0

/-- The timer of a contactor's mismatch check. -/
def tmKf (n : Nat) : Nat := 200 + n

/-- The mismatch timers of the outputs whose driven state changed start. -/
def State.armKf (s : State) (changed : Nat) : State :=
  (List.range 4).foldl (fun t n => if bit changed n then t.arm (tmKf n) (millis (t.get CABINET_IO.KF_DELAY_MS)) else t) s

/-- A wick transmits only while RADIO ENABLE and TX_EN are both 1 (R106): a frame that it sends when one is cleared is cut short. DEDUCED (log
entry 199). DEDUCED (log entry 199). -/
def State.cutRadio (s : State) (w : Wick) : State :=
  match s.link.onAir.get? w.idx with
  | some g =>
    if s.on (HDR.ENABLE (w.page 1)) && s.on (RADIO.TX_EN w) then s
    else ({ s with link := { s.link with onAir := s.link.onAir.put w.idx { g with cut := true } } } : State).set (RADIO.TX_ACTIVE w) 0
  | none => s

/-- The settings of a page's CTRL register act besides being stored: the backbone ports' domain follows the FABRIC settings, clearing
RPA_EN ends the remote session, clearing ENABLE or TX_EN of a radio stops its transmitter, clearing VAUX_EN clears its fault, enabling CABINET_IO changes what the contactor outputs drive. -/
def State.ctrlWritten (s : State) (page ko : Nat) : State :=
  match pageWick page with
  | some w =>
    if page % 16 = 0xB then
      let t := s.setPd 11 (s.on (HDR.ENABLE page) && (s.on (FABRIC.P0_EN w) || s.on (FABRIC.P1_EN w)))
      if s.on (FABRIC.RPA_EN w) then t else t.endRemote
    else if page % 16 = 1 then (s.cutRadio .a).cutRadio .b
    else s
  | none =>
    if page = 1 ∧ s.on PWR.VAUX_EN = false then s.set PWR.VAUX_FAULT 0
    else if page = 0xE then s.armKf (Nat.xor ko s.koState)
    else s

/-! ### REGISTER_WRITE (R9) -/

/-- What the non-secure port's write of an IRQ_ROUTE register stores: the routing bits of pages it may not read keep their
values (R46). -/
def State.routeValue (s : State) (m : Master) (page off v : Nat) : Nat :=
  if page = 0xF ∧ off = 0x048 ∧ m = .hostN then
    (List.range 32).foldl (fun x n => if nsMayRead n then setBits x n 1 (bits v n 1) else x) (s.get HOSTLINK.IRQ_ROUTE0)
  else v

/-- The write of a register word's plain fields on a physical page. STG_OFFSET takes a value while U_STATE is RECEIVING; any other
write of it is counted (R412). -/
def doRegisterWrite (m : Master) (page off v : Nat) (s : State) : State :=
  s.writeAt m page off (s.plainCodes m page off) (fun s =>
    if page = 0xA ∧ off = 0x050 ∧ s.get UPDATE.U_STATE ≠ 2 then s.bump UPDATE.STG_REFUSED_CNT 1
    else
      let t := s.storeWord m page off (s.routeValue m page off v)
      if off = 0x008 then t.ctrlWritten page s.koState else t)

/-- REGISTER_WRITE. -/
def execRegisterWrite (m : Master) (a : Addr) (v : Word) (s : State) : Host.Outcome State Fault Refusal :=
  .next (s.atAddr m a (fun s page off => doRegisterWrite m page off v.toNat s))

/-! ### Split values (R32) -/

/-- The pairs of a _LO and a _HI register of a physical page. DEDUCED (log entry 15). -/
def splitPairs (page : Nat) : List (Field × Field) :=
  match pageWick page with
  | some w =>
    (match page % 16 with
     | 0 => [(WCORE.JSEQ_HEAD_LO w, WCORE.JSEQ_HEAD_HI w), (WCORE.CKPT_JSEQ_LO w, WCORE.CKPT_JSEQ_HI w)]
     | 2 => [(LINK.NEXT_BEACON_LO w, LINK.NEXT_BEACON_HI w), (LINK.M_SYNC_LO w, LINK.M_SYNC_HI w)]
     | 3 => [(TXN.NOT_BEFORE_LO w, TXN.NOT_BEFORE_HI w), (TXN.NOT_AFTER_LO w, TXN.NOT_AFTER_HI w)]
     | 5 => [(SCHED.NEXT_STEP_LO w, SCHED.NEXT_STEP_HI w)]
     | 6 => [(WAVE.INJ_TIME_LO w, WAVE.INJ_TIME_HI w), (WAVE.T_LAST_LO w, WAVE.T_LAST_HI w)]
     | 7 => (List.range 24).map (fun n => (METER.ACC_LO w (n / 6) (n % 6), METER.ACC_HI w (n / 6) (n % 6)))
     | 9 => [(ATTR.START_TIME_LO w, ATTR.START_TIME_HI w), (ATTR.S_LO w, ATTR.S_HI w)]
     | 0xA => [(CAMPAIGN.ACT_TIME_LO w, CAMPAIGN.ACT_TIME_HI w)]
     | 0xB => [(FABRIC.MOD_UID_LO w, FABRIC.MOD_UID_HI w)]
     | 0xC => [(CFGBANK.CFG_SWAP_TIME_LO w, CFGBANK.CFG_SWAP_TIME_HI w), (CFGBANK.CFG_SWAP_AT_LO w, CFGBANK.CFG_SWAP_AT_HI w)]
     | _ => [])
  | none =>
    (match page with
     | 0 => [(PILOT.SWAP_AT_LO, PILOT.SWAP_AT_HI)]
     | 9 => [(VAULT.ROLL_AT_LO, VAULT.ROLL_AT_HI)]
     | 0xD => [(TIME.EPOCH_S_LO, TIME.EPOCH_S_HI), (TIME.SEGTIME_LO, TIME.SEGTIME_HI), (TIME.UTC_S_LO, TIME.UTC_S_HI),
               (TIME.GM_ID_LO, TIME.GM_ID_HI), (TIME.SET_UTC_S_LO, TIME.SET_UTC_S_HI)]
     | _ => [])

/-- The split value whose _HI register stands at a word, if it is one a write commits. DEDUCED (log entry 15). -/
def hiPair (page off : Nat) : Option (Field × Field) :=
  (splitPairs page).find? (fun p => p.2.off = off && p.2.acc = .rw)

/-- The split value whose _LO register stands at a word. DEDUCED (log entry 15). -/
def loPair (page off : Nat) : Option (Field × Field) := (splitPairs page).find? (fun p => p.1.off = off)

/-- The number under which a master's holding register of a split value is held: written halves, then captured ones. -/
def holdKey (m : Master) (page off : Nat) (captured : Bool) : Nat :=
  ((m.id * 2 + b2n captured) * 256 + page) * 4096 + off

/-- The write of a _LO register only holds the value for the master (R32). -/
def doHoldLo (m : Master) (page off v : Nat) (s : State) : State :=
  s.writeAt m page off (s.plainCodes m page off) (fun s => { s with hold := s.hold.put (holdKey m page off false) v })

/-- The write of a _HI register commits both halves, if the master wrote _LO since its last commit (R32); otherwise _HI alone is stored.
DESIGN CHOICE (log entry 183). -/
def doHiCommit (m : Master) (page off v : Nat) (s : State) : State :=
  s.writeAt m page off (s.plainCodes m page off) (fun s =>
    match hiPair page off with
    | none => s
    | some (lo, hi) =>
      let f := fun (g : Field) => if isSubmission page off then g.forMaster m else g
      let k := holdKey m page lo.off false
      match s.hold.get? k with
      | none => s.store (f hi) (bits v hi.lo hi.width)
      | some x => ({ (s.store (f lo) x) with hold := s.hold.del k }).store (f hi) (bits v hi.lo hi.width))

/-- WRITE_HI_COMMIT. -/
def execWriteHiCommit (m : Master) (a : Addr) (v : Word) (s : State) : Host.Outcome State Fault Refusal :=
  .next (s.atAddr m a (fun s page off => doHiCommit m page off v.toNat s))

/-! ### Interrupts and error counters (R41, R42) -/

/-- A write of IRQ_CLR on a physical page. -/
def doIrqClrWrite (m : Master) (page v same : Nat) (s : State) : State :=
  s.write m page 0x01C [] (fun s => s.clearIrq page v same)

/-- IRQ_CLR_WRITE; `same` holds the bits whose source sets them in the same cycle. DESIGN CHOICE (log entry 6). -/
def execIrqClrWrite (m : Master) (page : Nat) (v same : Word) (s : State) : Host.Outcome State Fault Refusal :=
  .next (doIrqClrWrite m page v.toNat same.toNat s)

/-- IRQ_SOURCE_SET. -/
def execIrqSourceSet (page : Nat) (n : Fin 32) (s : State) : Host.Outcome State Fault Refusal :=
  .next (s.raise page n.val)

/-- A read of ERR_CNT: the count is answered, then it and ERR_FIRST clear; an error of the same cycle is held for the next
read (R42). DEDUCED (log entry 13). -/
def doErrCntRead (m : Master) (page : Nat) (same : Option PageErr) (s : State) : State :=
  match minimum? (s.readCodes m page) with
  | some c => { (s.countErr (errPage page c) m page 0x020 c) with busData := 0 }
  | none =>
    let t := ({ s with busData := BitVec.ofNat 32 (s.get (HDR.ERR_COUNT page)) }.set (HDR.ERR_COUNT page) 0).set (HDR.ERR_FIRST page) 0
    match same with
    | some e => t.countErr page e.master page e.off e.code
    | none => t

/-- ERR_CNT_READ. DESIGN CHOICE (log entry 6). -/
def execErrCntRead (m : Master) (page : Nat) (same : Option PageErr) (s : State) : Host.Outcome State Fault Refusal :=
  .next (if s.acts m then (if reservedPage page then { s with busData := 0 } else doErrCntRead m page same s) else s)

/-- A field that every wick restores is stored, whatever a start does to it (R44). One of a wick that is not the controller is journalled
too (R43). DEDUCED (log entry 19). -/
def State.storeKept (s : State) (f : Field) (v : Nat) : State :=
  let t := s.store { f with keep := true } v
  match pageWick f.page with
  | some w => if s.isController w then t else t.jot
  | none => t

/-- A write of PAGE_LOCK: set bits stay set and SET_BY takes the master, that of a write that sets a bit again too; the non-secure port may
not set them (R43). DEDUCED (log entry 19); DESIGN CHOICE (log entry 189). -/
def doPageLockSet (m : Master) (page v : Nat) (s : State) : State :=
  s.write m page 0x028 (if m = .hostN then [0x1] else []) (fun s =>
    let t := if bit v 0 then s.storeKept (HDR.NS_LOCK page) 1 else s
    let t := if bit v 1 then t.storeKept (HDR.HOST_LOCK page) 1 else t
    if bit v 0 ∨ bit v 1 then t.storeKept (HDR.SET_BY page) m.id else t)

/-- PAGE_LOCK_SET. -/
def execPageLockSet (m : Master) (page : Nat) (v : Word) (s : State) : Host.Outcome State Fault Refusal :=
  .next (doPageLockSet m page v.toNat s)

/-! ### SH fields (R57) -/

/-- A write of SHADOW_CTL.COPY_ACTIVE. -/
def doCopyActivePage (m : Master) (w : Wick) (pos : Nat) (s : State) : State :=
  if pageHasSh pos then
    s.write m (w.page pos) 0x02C (s.shadowCodes m w) (fun s => s.writeShadow (s.copiedPage pos))
  else s

/-- COPY_ACTIVE_PAGE. -/
def execCopyActivePage (m : Master) (w : Wick) (pos : Nat) (s : State) : Host.Outcome State Fault Refusal :=
  .next (doCopyActivePage m w pos s)

/-- The byte of the bank an SH array word of a page starts at: PROF_DATA, PROG_DATA of PROG_SEL, PLAN_DATA. -/
def State.shArrayAt (s : State) (w : Wick) (pos off : Nat) : Option (Table × Nat) :=
  if pos = 1 ∧ 0x400 ≤ off ∧ off < 0x700 then some (tabProfile, tabProfile.base + (off - 0x400))
  else if pos = 6 ∧ 0x400 ≤ off ∧ off < 0x420 then some (tabWavePrograms, tabWavePrograms.at (s.get (WAVE.PROG_SEL w)) + (off - 0x400))
  else if pos = 9 ∧ 0x400 ≤ off ∧ off < 0x500 then some (tabPlans, tabPlans.base + (off - 0x400))
  else none

/-- A write of an SH field goes to the shadow bank, which the AUTHOR journals (R57). -/
def doShFieldWrite (m : Master) (page off v : Nat) (s : State) : State :=
  match pageWick page with
  | none => s
  | some w =>
    s.writeAt m page off (s.shadowCodes m w) (fun s =>
      match s.shArrayAt w (page % 16) off with
      | some (t, a) => s.writeShadow { (s.shadow.touchTable t) with mem := s.shadow.mem.write a (leBytes 4 v) }
      | none =>
        let fs := (pageShFields (page % 16)).filter (fun f => f.off = off)
        if fs = [] then s
        else s.writeShadow ((fs.foldl (fun b f => b.sset f (f.stored (bits v f.lo f.width))) s.shadow).touch))

/-- SH_FIELD_WRITE. -/
def execShFieldWrite (m : Master) (a : Addr) (v : Word) (s : State) : Host.Outcome State Fault Refusal :=
  .next (s.atAddr m a (fun s page off => doShFieldWrite m page off v.toNat s))

/-! ### The lock registers (R47 to R53) -/

/-- Whether a master may use a lock (R51). -/
def mayLock (m : Master) (n : Nat) : Bool := n < 16 || m ≠ .hostN

/-- The master of highest priority among those that read a lock in one cycle (R48): the lowest ID. -/
def lockWinner (m : Master) (rivals : List Master) (n : Nat) : Nat :=
  (rivals.filter (fun r => mayLock r n)).foldl (fun a r => min a r.id) m.id

/-- The answer to a master that reads a lock owned by `owner` (R48). -/
def lockAnswer (m : Master) (owner : Nat) : Word :=
  BitVec.ofNat 32 (if owner = m.id then m.id + 2 ^ 31 else owner)

/-- A read of LOCKn; `rivals` are the other masters that read it in the same cycle. -/
def doLockAcquireRead (m : Master) (n : Nat) (rivals : List Master) (s : State) : State :=
  match minimum? (s.readCodes m 2 ++ (if mayLock m n then [] else [0x1])) with
  | some c => { (s.countErr (errPage 2 c) m 2 (0x080 + 4 * n) c) with busData := 0 }
  | none =>
    if s.on (HDR.ENABLE 2) then
      match s.locks.get? n with
      | some o => { s with busData := lockAnswer m o }
      | none =>
        let o := lockWinner m rivals n
        { s with locks := s.locks.put n o, busData := lockAnswer m o }
    else { s with busData := 0 }

/-- LOCK_ACQUIRE_READ. DESIGN CHOICE (log entry 6). -/
def execLockAcquireRead (m : Master) (n : Fin 32) (rivals : List Master) (s : State) : Host.Outcome State Fault Refusal :=
  .next (if s.acts m then doLockAcquireRead m n.val rivals s else s)

/-- A write of LOCKn: zero by its owner releases it, any other is counted under NOT_OWNER (R49). -/
def doLockRelease (m : Master) (n : Nat) (v : Nat) (s : State) : State :=
  s.write m 2 (0x080 + 4 * n) (if s.locks.get? n = some m.id ∧ v = 0 then [] else [0x4])
    (fun s => { s with locks := s.locks.del n })

/-- LOCK_RELEASE. -/
def execLockRelease (m : Master) (n : Fin 32) (v : Word) (s : State) : Host.Outcome State Fault Refusal :=
  .next (doLockRelease m n.val v.toNat s)

/-- One lock is forced: it is released, and FORCED and a LOCK_FORCED event follow if it was held (R53). -/
def State.forceLock (s : State) (m : Master) (n : Nat) : State :=
  match s.locks.get? n with
  | none => s
  | some o => (({ s with locks := s.locks.del n } : State).raise 2 0).event m.id 0x0102 [n, o, m.id]

/-- A write of LOCK_FORCE. -/
def doLockForce (m : Master) (v : Nat) (s : State) : State :=
  s.write m 2 0x044 (if m = .mss ∨ m = .hostS then [] else [0x1]) (fun s =>
    ((List.range 32).filter (bit v)).foldl (fun t n => t.forceLock m n) s)

/-- LOCK_FORCE. -/
def execLockForce (m : Master) (v : Word) (s : State) : Host.Outcome State Fault Refusal :=
  .next (doLockForce m v.toNat s)

/-- Clearing LOCKS CTRL.ENABLE (R50, R52). -/
def doLocksDisable (m : Master) (s : State) : State :=
  s.write m 2 0x008 [] (fun s =>
    let t := s.set (HDR.ENABLE 2) 0
    if t.locks = [] then t else ({ t with locks := [] } : State).raise 2 1)

/-- LOCKS_DISABLE. -/
def execLocksDisable (m : Master) (s : State) : Host.Outcome State Fault Refusal :=
  .next (doLocksDisable m s)

end Sys2Proof.Machine
end

