-- ==== Sys2Proof/Machine/Crypto.lean ====
section
/-! DEFINITION. The engines that R398 names by their standards: AES with CCM, CMAC and GCM, SHA-256, ECDH and ECDSA on P-256, and the frame check
sequence of the IEEE 802.15.4g PHY. -/

namespace Sys2Proof.Machine

/-- The number that bytes spell, the most significant first. -/
def beNat (l : List Byte) : Nat := leNat l.reverse

/-- A number as n bytes, the most significant first. DEDUCED (log entry 127). -/
def beBytes (n v : Nat) : List Byte := (leBytes n v).reverse

/-- Bytes combined with XOR, one by one. -/
def xorBytes (a b : List Byte) : List Byte := List.zipWith (fun x y => x ^^^ y) a b

/-- Bytes filled up with zeros to whole blocks of 16. -/
def padBlock (l : List Byte) : List Byte := l ++ leBytes ((16 - l.length % 16) % 16) 0

/-- Bytes as 128-bit blocks; a last one that is not whole counts as if zeros followed. -/
def blocksOf (l : List Byte) : List Nat :=
  (List.range ((l.length + 15) / 16)).map (fun i => beNat (padBlock ((l.drop (16 * i)).take 16)))

/-! ### AES (FIPS 197) -/

/-- The substitution box, one number for each row of FIPS 197's table. -/
def sboxRows : List Nat :=
  [0x637c777bf26b6fc53001672bfed7ab76, 0xca82c97dfa5947f0add4a2af9ca472c0, 0xb7fd9326363ff7cc34a5e5f171d83115,
   0x04c723c31896059a071280e2eb27b275, 0x09832c1a1b6e5aa0523bd6b329e32f84, 0x53d100ed20fcb15b6acbbe394a4c58cf,
   0xd0efaafb434d338545f9027f503c9fa8, 0x51a3408f929d38f5bcb6da2110fff3d2, 0xcd0c13ec5f974417c4a77e3d645d1973,
   0x60814fdc222a908846eeb814de5e0bdb, 0xe0323a0a4906245cc2d3ac629195e479, 0xe7c8376d8dd54ea96c56f4ea657aae08,
   0xba78252e1ca6b4c6e8dd741f4bbd8b8a, 0x703eb5664803f60e613557b986c11d9e, 0xe1f8981169d98e949b1e87e9ce5528df,
   0x8ca1890dbfe6426841992d0fb054bb16]

/-- One byte through the substitution box. -/
def sbox (b : Nat) : Nat := sboxRows.getD (b / 16) 0 / 2 ^ (8 * (15 - b % 16)) % 256

/-- The bytes of a number of n bytes, the most significant first, as numbers. -/
def octets (n v : Nat) : List Nat := (List.range n).map (fun i => v / 2 ^ (8 * (n - 1 - i)) % 256)

/-- The number that octets spell, the most significant first. -/
def fromOctets (l : List Nat) : Nat := l.foldl (fun v b => v * 256 + b) 0

/-- A byte times 2 in the field of AES. -/
def xtime (b : Nat) : Nat := if b < 128 then 2 * b else Nat.xor (2 * b) 0x11B

/-- The columns of the state mixed. -/
def mixColumns : List Nat → List Nat
  | a :: b :: c :: d :: l =>
    let t := Nat.xor (Nat.xor a b) (Nat.xor c d)
    let f := fun (x y : Nat) => Nat.xor (Nat.xor x t) (xtime (Nat.xor x y))
    f a b :: f b c :: f c d :: f d a :: mixColumns l
  | l => l

/-- The rows of the state shifted, row r by r places. -/
def shiftRows (l : List Nat) : List Nat := (List.range 16).map (fun i => l.getD (5 * i % 16) 0)

/-- One round of the cipher with its round key; the last round does not mix. -/
def aesRound (last : Bool) (state key : Nat) : Nat :=
  let l := shiftRows ((octets 16 state).map sbox)
  Nat.xor (fromOctets (if last then l else mixColumns l)) key

/-- A word of the key schedule through the substitution box. -/
def subWord (w : Nat) : Nat := fromOctets ((octets 4 w).map sbox)

/-- The first byte of the round constants. -/
def rcons : List Nat := [0x01, 0x02, 0x04, 0x08, 0x10, 0x20, 0x40, 0x80, 0x1B, 0x36]

/-- The key schedule goes on for n words; the words so far stand last first. -/
def expandKey (nk : Nat) : Nat → List Nat → List Nat
  | 0, l => l.reverse
  | n + 1, l =>
    let i := l.length
    let last := l.headD 0
    let t := if i % nk = 0 then Nat.xor (subWord (last * 256 % 2 ^ 32 + last / 2 ^ 24)) (rcons.getD (i / nk - 1) 0 * 2 ^ 24)
      else if 6 < nk ∧ i % nk = 4 then subWord last
      else last
    expandKey nk n (Nat.xor (l.getD (nk - 1) 0) t :: l)

/-- The round keys of a key of 16 or 32 bytes. -/
def roundKeys (key : List Byte) : List Nat :=
  let nk := key.length / 4
  let words := (List.range nk).map (fun i => beNat ((key.drop (4 * i)).take 4))
  let all := expandKey nk (4 * (nk + 7) - nk) words.reverse
  (List.range (nk + 7)).map (fun r => (List.range 4).foldl (fun v i => v * 2 ^ 32 + all.getD (4 * r + i) 0) 0)

/-- The cipher on one block, by its round keys. -/
def cipher : List Nat → Nat → Nat
  | [], b => b
  | [k], b => aesRound true b k
  | k :: l, b => cipher l (aesRound false b k)

/-- AES-128 or AES-256, by the length of the key, on one block. PRESUMED (log entry 9). -/
def aes (key : List Byte) (block : Nat) : Nat :=
  match roundKeys key with
  | k :: l => cipher l (Nat.xor block k)
  | [] => block

/-! ### CMAC (SP 800-38B) -/

/-- A block doubled. -/
def doubled (b : Nat) : Nat := if b < 2 ^ 127 then 2 * b else Nat.xor (2 * b) (2 ^ 128 + 0x87)

/-- Cipher block chaining over blocks. -/
def cbcMac (key : List Byte) (l : List Nat) (v : Nat) : Nat := l.foldl (fun v b => aes key (Nat.xor v b)) v

/-- AES-CMAC of a message under a key: 16 bytes. PRESUMED (log entry 9). -/
def cmac (key msg : List Byte) : List Byte :=
  let k1 := doubled (aes key 0)
  let whole := 16 * ((msg.length - 1) / 16)
  let tail := msg.drop whole
  let last := if tail.length = 16 then Nat.xor (beNat tail) k1 else Nat.xor (beNat (padBlock (tail ++ [0x80]))) (doubled k1)
  beBytes 16 (cbcMac key (blocksOf (msg.take whole) ++ [last]) 0)

/-! ### CCM with M = 8 and L = 2 (SP 800-38C, R138) -/

/-- The key stream of a counter mode: one block for each block of the data, `at_` giving the i-th counter block. -/
def keyStream (key : List Byte) (at_ : Nat → Nat) (n : Nat) : List Byte :=
  (List.range ((n + 15) / 16)).flatMap (fun i => beBytes 16 (aes key (at_ (i + 1))))

/-- The i-th counter block of a nonce. -/
def ccmCounter (nonce : List Byte) (i : Nat) : Nat := beNat ([1] ++ nonce ++ beBytes 2 i)

/-- The authentication value of a payload with its associated data, encrypted: 8 bytes. -/
def ccmTag (key nonce aad payload : List Byte) : List Byte :=
  let first := leBytes 1 (if aad = [] then 0x19 else 0x59) ++ nonce ++ beBytes 2 payload.length
  let head := if aad = [] then [] else padBlock (beBytes 2 aad.length ++ aad)
  let v := cbcMac key (blocksOf (first ++ head ++ padBlock payload)) 0
  (beBytes 16 (Nat.xor v (aes key (ccmCounter nonce 0)))).take 8

/-- AES-CCM encryption of a payload under a key, a nonce and associated data: the ciphertext and its MIC. PRESUMED (log entry 9). -/
def ccmSeal (key nonce aad payload : List Byte) : List Byte :=
  xorBytes payload (keyStream key (ccmCounter nonce) payload.length) ++ ccmTag key nonce aad payload

/-- AES-CCM opening: the payload, or none where the MIC is wrong. PRESUMED (log entry 9). -/
def ccmOpen (key nonce aad sealed : List Byte) : Option (List Byte) :=
  let n := sealed.length - 8
  let payload := xorBytes (sealed.take n) (keyStream key (ccmCounter nonce) n)
  if 8 ≤ sealed.length ∧ ccmTag key nonce aad payload = sealed.drop n then some payload else none

/-! ### GCM (SP 800-38D) -/

/-- The product of two blocks in GCM's field: n bits of x are left, v is y times the power reached, z the sum so far. -/
def ghashMul (x : Nat) : Nat → Nat → Nat → Nat
  | 0, _, z => z
  | n + 1, v, z =>
    ghashMul x n (if v % 2 = 1 then Nat.xor (v / 2) (0xE1 * 2 ^ 120) else v / 2) (if x.testBit n then Nat.xor z v else z)

/-- GHASH over blocks under a hash key. -/
def ghash (h : Nat) (l : List Nat) : Nat := l.foldl (fun y b => ghashMul (Nat.xor y b) 128 h 0) 0

/-- AES-GCM opening of a ciphertext with its 16-byte tag under a 12-byte IV: the plaintext, or none where the tag is wrong.
PRESUMED (log entry 9). -/
def gcmOpen (key iv aad sealed : List Byte) : Option (List Byte) :=
  let n := sealed.length - 16
  let text := sealed.take n
  let counter := fun (i : Nat) => beNat (iv ++ beBytes 4 (i + 1))
  let sum := ghash (aes key 0) (blocksOf aad ++ blocksOf text ++ [8 * aad.length * 2 ^ 64 + 8 * n])
  if 16 ≤ sealed.length ∧ beBytes 16 (Nat.xor sum (aes key (counter 0))) = sealed.drop n then
    some (xorBytes text (keyStream key counter n))
  else none

/-! ### SHA-256 (FIPS 180-4) -/

/-- The round constants. -/
def shaRounds : List Nat :=
  [0x428a2f98, 0x71374491, 0xb5c0fbcf, 0xe9b5dba5, 0x3956c25b, 0x59f111f1, 0x923f82a4, 0xab1c5ed5] ++
  [0xd807aa98, 0x12835b01, 0x243185be, 0x550c7dc3, 0x72be5d74, 0x80deb1fe, 0x9bdc06a7, 0xc19bf174] ++
  [0xe49b69c1, 0xefbe4786, 0x0fc19dc6, 0x240ca1cc, 0x2de92c6f, 0x4a7484aa, 0x5cb0a9dc, 0x76f988da] ++
  [0x983e5152, 0xa831c66d, 0xb00327c8, 0xbf597fc7, 0xc6e00bf3, 0xd5a79147, 0x06ca6351, 0x14292967] ++
  [0x27b70a85, 0x2e1b2138, 0x4d2c6dfc, 0x53380d13, 0x650a7354, 0x766a0abb, 0x81c2c92e, 0x92722c85] ++
  [0xa2bfe8a1, 0xa81a664b, 0xc24b8b70, 0xc76c51a3, 0xd192e819, 0xd6990624, 0xf40e3585, 0x106aa070] ++
  [0x19a4c116, 0x1e376c08, 0x2748774c, 0x34b0bcb5, 0x391c0cb3, 0x4ed8aa4a, 0x5b9cca4f, 0x682e6ff3] ++
  [0x748f82ee, 0x78a5636f, 0x84c87814, 0x8cc70208, 0x90befffa, 0xa4506ceb, 0xbef9a3f7, 0xc67178f2]

/-- The first hash value. -/
def shaStart : List Nat :=
  [0x6a09e667, 0xbb67ae85, 0x3c6ef372, 0xa54ff53a, 0x510e527f, 0x9b05688c, 0x1f83d9ab, 0x5be0cd19]

/-- A 32-bit word turned right by n bits. -/
def rotr (n w : Nat) : Nat := w / 2 ^ n + w * 2 ^ (32 - n) % 2 ^ 32

/-- The exclusive or of three words. -/
def xor3 (a b c : Nat) : Nat := Nat.xor (Nat.xor a b) c

/-- The message schedule goes on for n words; the words so far stand last first. -/
def shaSchedule : Nat → List Nat → List Nat
  | 0, l => l.reverse
  | n + 1, l =>
    let w := fun (i : Nat) => l.getD (i - 1) 0
    let s0 := xor3 (rotr 7 (w 15)) (rotr 18 (w 15)) (w 15 / 2 ^ 3)
    let s1 := xor3 (rotr 17 (w 2)) (rotr 19 (w 2)) (w 2 / 2 ^ 10)
    shaSchedule n ((s1 + w 7 + s0 + w 16) % 2 ^ 32 :: l)

/-- One round on the eight working words, with the sum of the round constant and the schedule's word. -/
def shaRound : List Nat → Nat → List Nat
  | [a, b, c, d, e, f, g, h], kw =>
    let t1 := h + xor3 (rotr 6 e) (rotr 11 e) (rotr 25 e) + Nat.xor (Nat.land e f) (Nat.land (2 ^ 32 - 1 - e) g) + kw
    let t2 := xor3 (rotr 2 a) (rotr 13 a) (rotr 22 a) + xor3 (Nat.land a b) (Nat.land a c) (Nat.land b c)
    [(t1 + t2) % 2 ^ 32, a, b, c, (d + t1) % 2 ^ 32, e, f, g]
  | l, _ => l

/-- One block of 64 bytes goes into the hash value. -/
def shaBlock (h : List Nat) (b : List Byte) : List Nat :=
  let words := (List.range 16).map (fun i => beNat ((b.drop (4 * i)).take 4))
  let kws := List.zipWith (· + ·) shaRounds (shaSchedule 48 words.reverse)
  List.zipWith (fun x y => (x + y) % 2 ^ 32) h (kws.foldl shaRound h)

/-- A message with its padding: a bit of 1, zeros, its length in bits. -/
def shaPadded (m : List Byte) : List Byte := m ++ [0x80] ++ leBytes ((119 - m.length % 64) % 64) 0 ++ beBytes 8 (8 * m.length)

/-- SHA-256: 32 bytes. PRESUMED (log entry 9). -/
def sha256 (m : List Byte) : List Byte :=
  let p := shaPadded m
  ((List.range (p.length / 64)).foldl (fun h i => shaBlock h ((p.drop (64 * i)).take 64)) shaStart).flatMap (beBytes 4)

/-! ### The curve P-256 (SP 800-186; ECDH of SP 800-56A, ECDSA of FIPS 186-5) -/

/-- The prime of the field. -/
def curveP : Nat := 0xffffffff00000001000000000000000000000000ffffffffffffffffffffffff
/-- The order of the group. -/
def curveN : Nat := 0xffffffff00000000ffffffffffffffffbce6faada7179e84f3b9cac2fc632551
/-- The constant of the curve y² = x³ − 3x + b. -/
def curveB : Nat := 0x5ac635d8aa3a93e7b3ebbd55769886bc651d06b0cc53b0f63bce3c3e27d2604b
/-- The X coordinate of the base point. -/
def baseX : Nat := 0x6b17d1f2e12c4247f8bce6e563a440f277037d812deb33a0f4a13945d898c296
/-- The Y coordinate of the base point. -/
def baseY : Nat := 0x4fe342e2fe1a7f9b8ee7eb4a7c0f9e162bce33576b315ececbb6406837bf51f5

/-- A power modulo m by the low n bits of its exponent e. -/
def powMod (m e : Nat) : Nat → Nat → Nat
  | 0, _ => 1 % m
  | n + 1, b => let r := powMod m (e / 2) n (b * b % m)
    if e % 2 = 1 then b * r % m else r

/-- The inverse modulo a prime below 2²⁵⁶; 0 for 0. -/
def invMod (m a : Nat) : Nat := powMod m (m - 2) 256 (a % m)

/-- The difference modulo the prime of the field. -/
def subP (a b : Nat) : Nat := (a + (curveP - b % curveP)) % curveP

/-- A point (x / z², y / z³) of the curve; z is 0 for the point at infinity. -/
structure Jac where
  /-- x times z². -/
  x : Nat
  /-- y times z³. -/
  y : Nat
  /-- The scale. -/
  z : Nat
  deriving DecidableEq, Repr

/-- The point at infinity. -/
def infinity : Jac := { x := 1, y := 1, z := 0 }

/-- A point added to itself. -/
def Jac.double (p : Jac) : Jac :=
  let yy := p.y * p.y % curveP
  let s := 4 * p.x * yy % curveP
  let zz := p.z * p.z % curveP
  let m := 3 * (subP p.x zz * (p.x + zz)) % curveP
  let x := subP (m * m) (2 * s)
  { x := x, y := subP (m * subP s x) (8 * (yy * yy)), z := 2 * p.y * p.z % curveP }

/-- The sum of two points. -/
def Jac.add (p q : Jac) : Jac :=
  let pz := p.z * p.z % curveP
  let qz := q.z * q.z % curveP
  let u := p.x * qz % curveP
  let s := p.y * (qz * q.z % curveP) % curveP
  let h := subP (q.x * pz) u
  let r := subP (q.y * (pz * p.z % curveP)) s
  if p.z = 0 then q
  else if q.z = 0 then p
  else if h = 0 then (if r = 0 then p.double else infinity)
  else
    let hh := h * h % curveP
    let hhh := h * hh % curveP
    let v := u * hh % curveP
    let x := subP (r * r) (hhh + 2 * v)
    { x := x, y := subP (r * subP v x) (s * hhh), z := p.z * q.z % curveP * h % curveP }

/-- A point times the low n bits of a number. -/
def Jac.times (p : Jac) (k : Nat) : Nat → Jac
  | 0 => infinity
  | n + 1 =>
    let q := (Jac.times p (k / 2) n).double
    if k % 2 = 1 then q.add p else q

/-- The X coordinate of a point. -/
def Jac.affineX (p : Jac) : Nat := let i := invMod curveP p.z; p.x * (i * i % curveP) % curveP
/-- The Y coordinate of a point. -/
def Jac.affineY (p : Jac) : Nat := let i := invMod curveP p.z; p.y * (i * (i * i % curveP) % curveP) % curveP

/-- The point of 64 bytes: X then Y, the most significant byte first. -/
def pointOf (b : List Byte) : Jac := { x := beNat (b.take 32), y := beNat ((b.drop 32).take 32), z := 1 }

/-- Whether 64 bytes are a point of the curve. PRESUMED (log entry 9). -/
def onCurve (b : List Byte) : Bool :=
  let p := pointOf b
  decide (b.length = 64 ∧ p.x < curveP ∧ p.y < curveP ∧ p.y * p.y % curveP = (p.x * p.x * p.x + 3 * (curveP - p.x) + curveB) % curveP)

/-- The public key of a private key: X then Y. PRESUMED (log entry 9). -/
def ecPublic (d : Nat) : List Byte :=
  let q := Jac.times { x := baseX, y := baseY, z := 1 } d 256
  beBytes 32 q.affineX ++ beBytes 32 q.affineY

/-- The X coordinate of the shared point of a private and a public key: 32 bytes. PRESUMED (log entry 9). -/
def ecShared (d : Nat) (pub : List Byte) : List Byte := beBytes 32 (Jac.times (pointOf pub) d 256).affineX

/-- The private key that a number gives: it lies between 1 and the order less 1 (R385). -/
def privateKey (t : Nat) : Nat := t % (curveN - 1) + 1

/-- An ephemeral private key, and the state after the draw (R387). -/
def State.drawKey (s : State) : Nat × State :=
  let (b, t) := s.drawBytes 32
  (privateKey (beNat b), t)

/-- ECDSA verification: the public key, the SHA-256 of the message, the signature r then s. PRESUMED (log entry 9). -/
def ecdsaVerify (pub digest sig : List Byte) : Bool :=
  let r := beNat (sig.take 32)
  let s := beNat ((sig.drop 32).take 32)
  let w := invMod curveN s
  let q := (Jac.times { x := baseX, y := baseY, z := 1 } (beNat digest * w % curveN) 256).add
    (Jac.times (pointOf pub) (r * w % curveN) 256)
  decide (1 ≤ r ∧ r < curveN ∧ 1 ≤ s ∧ s < curveN ∧ q.z ≠ 0 ∧ q.affineX % curveN = r)

/-! ### Key derivation and frames -/

/-- Octets that the counter-mode derivation of SP 800-108 with AES-CMAC gives for a label (R385): 16 for each value of its counter, from 1.
DESIGN CHOICE (log entry 207). -/
def derived (root label : List Byte) (n : Nat) : List Byte :=
  ((List.range ((n + 15) / 16)).flatMap (fun i => cmac root (Config.kdfInput (i + 1) label (8 * n)))).take n

/-- The 4-octet frame check sequence of the IEEE 802.15.4g PHY, sent low octet first (R108, R136): fewer than 4 octets count as if zeros
followed. PRESUMED (log entry 208). -/
def fcs (body : List Byte) : Nat := crc32 (body ++ leBytes (4 - body.length) 0)

end Sys2Proof.Machine
end

