-- ==== Sys2Proof/Machine/Profile.lean ====
section
/-! DEFINITION. Region profiles: their fields, validation, transmit levels, presets, time on air, and the channel and listening formulas that rest on them (R109 to R116, R131 to R135). -/

namespace Sys2Proof.Machine

/-! ### The fields of a profile image (R111 to R113) -/

/-- A number in a bank's profile image: n bytes at an offset. -/
def Bank.prof (b : Bank) (off n : Nat) : Nat := b.mem.num (tabProfile.base + off) n

/-- Whether a bank's profile is not empty: not all its bytes are zero (R110). -/
def Bank.profFilled (b : Bank) : Bool := (b.mem.entry tabProfile 0).any (· != 0)

/-- REGION. -/
def Bank.region (b : Bank) : Nat := b.prof 0x03 1
/-- PROFILE_VER. -/
def Bank.profVer (b : Bank) : Nat := b.prof 0x02 1
/-- WIN_CENTRE_KHZ. -/
def Bank.winCentre (b : Bank) : Nat := b.prof 0x04 4
/-- N_SUBBANDS. -/
def Bank.nSub (b : Bank) : Nat := bits (b.prof 0x08 4) 0 4
/-- N_CHANNELS. -/
def Bank.nChan (b : Bank) : Nat := bits (b.prof 0x08 4) 8 7
/-- ACCESS: true for hopping with a dwell limit per channel. -/
def Bank.access (b : Bank) : Bool := bit (b.prof 0x08 4) 16
/-- RESERVE_PCT. -/
def Bank.reservePct (b : Bank) : Nat := b.prof 0x0B 1
/-- DWELL_MS. -/
def Bank.dwellMs (b : Bank) : Nat := b.prof 0x0C 2
/-- DWELL_WIN_S. -/
def Bank.dwellWin (b : Bank) : Nat := b.prof 0x0E 2
/-- BULK_HEADROOM_PCT. -/
def Bank.bulkPct (b : Bank) : Nat := b.prof 0x18 1
/-- PRE_MIN_OCTETS. -/
def Bank.preMin (b : Bank) : Nat := b.prof 0x19 1
/-- PRE_MAX_MS. -/
def Bank.preMax (b : Bank) : Nat := b.prof 0x1A 2

/-- The number of a pad in the header's order: A HI, A LO, B HI, B LO. -/
def padIndex (w : Wick) (lo : Bool) : Nat := (match w with | .a => 0 | .b => 2) + b2n lo

/-- GAIN of a pad, in 0.25 dBi. -/
def Bank.gain (b : Bank) (w : Wick) (lo : Bool) : Int := toSigned 8 (b.prof (0x10 + padIndex w lo) 1)
/-- LOSS of a pad, in 0.25 dB. -/
def Bank.loss (b : Bank) (w : Wick) (lo : Bool) : Int := (b.prof (0x14 + padIndex w lo) 1 : Int)

/-- A sub-band entry (R112). -/
structure SubBand where
  low : Nat
  high : Nat
  budget : Nat
  window : Nat
  eirp : Int
  maxTx : Nat
  port : Nat
  txAllowed : Bool
  cond : Int
deriving DecidableEq, Repr

/-- A sub-band of a bank's profile. -/
def Bank.sub (b : Bank) (i : Nat) : SubBand :=
  let o := 0x40 + 0x18 * i
  { low := b.prof o 4, high := b.prof (o + 4) 4, budget := b.prof (o + 8) 4, window := b.prof (o + 0xC) 2
    eirp := toSigned 16 (b.prof (o + 0xE) 2), maxTx := b.prof (o + 0x10) 2, port := bits (b.prof (o + 0x10) 4) 16 2
    txAllowed := bit (b.prof (o + 0x10) 4) 24, cond := toSigned 16 (b.prof (o + 0x14) 2) }

/-- A channel entry (R113). -/
structure Chan where
  centre : Nat
  sub : Nat
  rate : Nat
  fec : Bool
  tx : Bool
  beacon : Bool
  rx : Bool
  airlink : Bool
deriving DecidableEq, Repr

/-- A channel of a bank's profile. -/
def Bank.chan (b : Bank) (c : Nat) : Chan :=
  let o := 0x100 + 8 * c
  let f := b.prof (o + 4) 4
  { centre := b.prof o 4, sub := bits f 0 3, rate := bits f 3 2, fec := bit f 5, tx := bit f 6, beacon := bit f 7
    rx := bit f 8, airlink := bit f 9 }

/-- The channels of a profile. -/
def Bank.chans (b : Bank) : List Nat := List.range b.nChan

/-- The symbol time of a rate in thirds of a microsecond (R107, R109). -/
def symThirds (rate : Nat) : Nat := if rate = 0 then 60 else if rate = 1 then 30 else 20

/-- Half the nominal width of a rate's channel, in kHz (R107). -/
def halfWidth (rate : Nat) : Nat := if rate = 0 then 50 else if rate = 1 then 100 else 150

/-- Time on air in µs (R109). -/
def Bank.toaUs (b : Bank) (c psdu wake : Nat) : Nat :=
  let ch := b.chan c
  let pre := max (8 * b.preMin) wake
  let body := if ch.fec then 16 + 16 * (3 + psdu) else 8 * (4 + psdu)
  ((pre + body) * symThirds ch.rate + 2) / 3

/-! ### Transmit levels (R115), in 0.05 dBm -/

/-- level_p of a pad in a sub-band. -/
def Bank.levelP (b : Bank) (w : Wick) (sb : SubBand) (lo : Bool) : Int :=
  min (2 * sb.cond) (2 * sb.eirp - 5 * b.gain w lo + 5 * b.loss w lo) - 10 * (b.sget (RADIO.TX_ATTEN w) : Int)

/-- Whether the LO pad is selected in a sub-band. -/
def Bank.padLo (b : Bank) (w : Wick) (sb : SubBand) : Bool :=
  if sb.port = 1 then false else if sb.port = 2 then true else decide (b.levelP w sb false ≤ 280)

/-- The conducted level of a wick in a sub-band, before the minimum of the port is looked at: at most the pad's maximum,
rounded down to 0.5 dB. -/
def Bank.txLevel (b : Bank) (w : Wick) (sb : SubBand) : Int :=
  (min (b.levelP w sb (b.padLo w sb)) (if b.padLo w sb then 280 else 540)) / 10 * 10

/-! ### Validation (R114) -/

/-- Whether the header's fields lie in their ranges and its reserved areas are zero. -/
def Bank.headerOk (b : Bank) : Bool :=
  let w8 := b.prof 0x08 4
  b.prof 0x00 2 = 0x5250 && (b.region = 1 || b.region = 2 || b.region = 3 || decide (0x80 ≤ b.region)) &&
  (decide (856000 ≤ b.winCentre ∧ b.winCentre ≤ 929000)) && (decide (1 ≤ b.nSub ∧ b.nSub ≤ 8)) &&
  (decide (1 ≤ b.nChan ∧ b.nChan ≤ 64)) && decide (b.reservePct ≤ 50) && bits w8 4 4 = 0 && bits w8 15 1 = 0 &&
  bits w8 17 7 = 0 &&
  (!b.access || decide (1 ≤ b.dwellMs ∧ b.dwellMs ≤ 1000 ∧ 1 ≤ b.dwellWin ∧ b.dwellWin ≤ 60)) &&
  decide (b.bulkPct ≤ 80 ∧ b.reservePct + b.bulkPct ≤ 90) && decide (4 ≤ b.preMin ∧ b.preMin ≤ 32) &&
  decide (1 ≤ b.preMax ∧ b.preMax ≤ 1050) && (b.mem.read (tabProfile.base + 0x1C) 0x24).all (· = 0)

/-- Whether a sub-band entry is sound, with the levels R115 yields in it. -/
def Bank.subOk (b : Bank) (i : Nat) : Bool :=
  let o := 0x40 + 0x18 * i
  let sb := b.sub i
  let f := b.prof (o + 0x10) 4
  if i < b.nSub then
    decide (sb.low < sb.high) && decide (sb.budget ≤ sb.window * 1000) && decide (1 ≤ sb.window ∧ sb.window ≤ 3600) &&
    decide (1 ≤ sb.maxTx ∧ sb.maxTx ≤ 2000) && sb.port != 3 && bits f 18 6 = 0 && bits f 25 7 = 0 &&
    bits (b.prof (o + 0x14) 4) 16 16 = 0 &&
    (!sb.txAllowed || [Wick.a, Wick.b].all (fun w => decide ((if b.padLo w sb then -200 else 200) ≤ b.txLevel w sb)))
  else (b.mem.read (tabProfile.base + o) 0x18).all (· = 0)

/-- Whether a channel entry is sound. -/
def Bank.chanOk (b : Bank) (c : Nat) : Bool :=
  let o := 0x100 + 8 * c
  let ch := b.chan c
  let sb := b.sub ch.sub
  let h := halfWidth ch.rate
  if c < b.nChan then
    decide (ch.sub < b.nSub) && ch.rate != 3 && bits (b.prof (o + 4) 4) 10 22 = 0 &&
    decide (sb.low + h ≤ ch.centre ∧ ch.centre + h ≤ sb.high) &&
    decide (b.winCentre ≤ ch.centre + 5850 - h ∧ ch.centre + h ≤ b.winCentre + 5850) &&
    !(ch.fec && ch.rate = 2) && !((ch.tx || ch.airlink) && !sb.txAllowed)
  else (b.mem.read (tabProfile.base + o) 8).all (· = 0)

/-- Whether a bank's profile passes validation: an empty one does. -/
def Bank.profileOk (b : Bank) : Bool :=
  !b.profFilled ||
  (b.headerOk && (List.range 8).all b.subOk && (List.range 64).all b.chanOk && b.chans.any (fun c => (b.chan c).beacon))

/-! ### Presets (R116) -/

/-- A sub-band of a preset as its 24 bytes. -/
def presetSub (low high budget window eirp cond maxTx : Nat) : List Byte :=
  leBytes 4 low ++ leBytes 4 high ++ leBytes 4 budget ++ leBytes 2 window ++ leBytes 2 eirp ++
  leBytes 4 (maxTx + 2 ^ 24) ++ leBytes 4 cond

/-- A channel of a preset as its 8 bytes: TX and RX are set. -/
def presetChan (centre sub rate : Nat) (beacon airlink : Bool) : List Byte :=
  leBytes 4 centre ++ leBytes 4 (sub + 8 * rate + 64 + 128 * b2n beacon + 256 + 512 * b2n airlink)

/-- The header of a preset as its 64 bytes. -/
def presetHeader (region winCentre nSub nChan access dwellMs dwellWin preMax : Nat) : List Byte :=
  leBytes 4 (0x5250 + 2 ^ 24 * region) ++ leBytes 4 winCentre ++
  leBytes 4 (nSub + 2 ^ 8 * nChan + 2 ^ 16 * access + 2 ^ 24 * 10) ++ leBytes 4 (dwellMs + 2 ^ 16 * dwellWin) ++
  leBytes 8 0 ++ leBytes 4 (20 + 2 ^ 8 * 8 + 2 ^ 16 * preMax) ++ leBytes 36 0

/-- The image of a preset, without the zeros that end it. -/
def presetImage : Nat → List Byte
  | 1 =>
    presetHeader 1 866500 4 21 0 0 0 1050 ++ presetSub 865000 868000 36000 3600 161 270 1200 ++
    presetSub 868000 868600 36000 3600 161 270 1200 ++ presetSub 868700 869200 3600 3600 161 270 1200 ++
    presetSub 869400 869650 360000 3600 291 270 1200 ++ leBytes (4 * 24) 0 ++
    (List.range 15).flatMap (fun c => presetChan (865100 + 200 * c) 0 1 (c = 2 || c = 7 || c = 12) false) ++
    (List.range 3).flatMap (fun c => presetChan (868100 + 200 * c) 1 1 false false) ++
    (List.range 2).flatMap (fun c => presetChan (868800 + 200 * c) 2 1 false false) ++ presetChan 869525 3 1 false true
  | 2 =>
    presetHeader 2 914200 1 25 1 400 10 380 ++ presetSub 902000 928000 10000 10 300 240 400 ++ leBytes (7 * 24) 0 ++
    (List.range 25).flatMap (fun c => presetChan (909400 + 400 * c) 0 2 true false)
  | 3 =>
    presetHeader 3 866000 1 10 0 0 0 1050 ++ presetSub 865000 867000 3600000 3600 360 300 1200 ++ leBytes (7 * 24) 0 ++
    (List.range 10).flatMap (fun c => presetChan (865100 + 200 * c) 0 1 (c = 2 || c = 7) false)
  | _ => []

/-! ### Channels and listening (R131 to R135) -/

/-- B: the beacon channels in rising order. -/
def Bank.beaconChans (b : Bank) : List Nat := b.chans.filter (fun c => (b.chan c).beacon)

/-- An element of B; 0 where B is empty. -/
def Bank.bAt (b : Bank) (i : Nat) : Nat := b.beaconChans.getD (i % b.beaconChans.length) 0

/-- BEACON_S of a bank. -/
def Bank.beaconS (b : Bank) : Nat := b.sget (LINK.BEACON_S .a)

/-- c(j) of the second of an instant (R131). DESIGN CHOICE (log entry 65). -/
def Bank.hop (b : Bank) (t : Nat) : Nat :=
  let j := t / 32768
  let k := j / b.beaconS
  let step := if b.beaconChans.length % 7 = 0 then 11 else 7
  (k + (j - k * b.beaconS) * step) % b.beaconChans.length

/-- The common channel of the second of an instant (R131). -/
def Bank.commonChan (b : Bank) (t : Nat) : Nat := b.bAt (b.hop t)

/-- EFF_PERIOD_MS (R133). -/
def Bank.effPeriod (b : Bank) : Nat :=
  max 250 (min (b.sget (LINK.SAMPLE_PERIOD_MS .a)) (b.preMax - 50) / 10 * 10)

/-- P: the effective sample period in ticks (R133). -/
def Bank.periodTicks (b : Bank) : Nat := b.effPeriod * 32768 / 1000

/-- P in µs: the period the preamble formulas use (R148). -/
def Bank.periodUs (b : Bank) : Nat := b.effPeriod * 1000

/-- Whether the segment runs without dozing (R134). -/
def Bank.dozeOff (b : Bank) : Bool := decide (b.preMax < 300)

/-- The sample channel of a HOME at an instant (R133). -/
def Bank.sampleChan (b : Bank) (home t : Nat) : Nat :=
  if b.access then b.bAt (b.hop t + home) else home

/-- Whether the link engine may run on a profile (R135). -/
def Bank.usable (b : Bank) : Bool :=
  b.profFilled && b.profileOk && b.beaconChans.all (fun c => (b.chan c).rx)

/-- E of R188: the channels with TX and RX set in a TX_ALLOWED sub-band. -/
def Bank.homeChans (b : Bank) : List Nat :=
  b.chans.filter (fun c => (b.chan c).tx && (b.chan c).rx && (b.sub (b.chan c).sub).txAllowed)

/-- Whether the registry holds HOME and PHASE inside R133 for a profile; without one the limits of R186 hold. -/
def Bank.homeOk (b : Bank) (home phase : Nat) : Bool :=
  if b.profFilled then
    decide (home < (if b.access then b.beaconChans.length else b.nChan) ∧ phase < b.periodTicks)
  else decide (home ≤ 63 ∧ phase < 32768)

end Sys2Proof.Machine
end

