-- ==== Sys2Proof/Machine/Radio.lean ====
section
/-! DEFINITION. The radio receivers, the preset load, the duty ledger and the sequence allocator, and the octets of a frame (R19, R20, R100 to R130, R136 to R139). -/

namespace Sys2Proof.Machine

/-! ### Keys and frames (R136 to R139, R341, R393) -/

/-- The key of a vault slot; empty where the slot holds none. -/
def State.slotKey (s : State) (n : Nat) : List Byte :=
  match s.keys.get? n with
  | some k => k.key
  | none => []

/-- The segment key of an epoch (R393). -/
def State.segKey (s : State) (epoch : Nat) : List Byte := s.slotKey (2 + epoch % 2)

/-- The key that protects a frame the module sends (R138, R341). DEDUCED (log entry 52). -/
def State.frameKey (s : State) (f : OutFrame) : List Byte :=
  if f.ty = 0xF then s.slotKey 1
  else if f.keySel = 2 then f.joinKey
  else s.segKey (s.get VAULT.SEG_EPOCH + f.keySel)

/-- The octets of a frame's PSDU (R136). -/
def OutFrame.psduLen (f : OutFrame) : Nat := 19 + (if f.keySel = 2 then 8 else 0) + f.payload.length + 12

/-- The nonce of a frame (R138). -/
def frameNonce (seg src fcnt txw : Nat) (node : Option Nat) : List Byte :=
  leBytes 2 seg ++ leBytes 2 src ++ leBytes 4 fcnt ++ leBytes 1 txw ++
  leBytes 4 (match node with | some n => n | none => 0)

/-- The frame control field of a frame a wick sends (R136). -/
def OutFrame.fc (f : OutFrame) (w : Wick) : Nat :=
  f.ty + 16 * b2n f.ackReq + 32 * w.idx + 64 * b2n f.copy + 128 * (f.retry % 8) + 1024 * f.keySel

/-- The PSDU of a frame a wick sends, with its frame counter and the segment time of its SFD (R136, R138, R341). -/
def State.psdu (s : State) (w : Wick) (f : OutFrame) (fcnt sfd : Nat) : List Byte :=
  let seg := s.get (FABRIC.SEG_ID w)
  let src := if f.ty = 0xF then s.get (FABRIC.FAB_ADDR w) else 0
  let node := if f.keySel = 2 then leBytes 8 f.nodeId else []
  let head := leBytes 2 (f.fc w) ++ leBytes 2 seg ++ leBytes 2 f.dest ++ leBytes 2 src ++ leBytes 2 f.seq
  let aad := head ++ leBytes 4 fcnt ++ node
  let nonce := frameNonce seg src fcnt w.idx (if f.keySel = 2 then some f.nodeId else none)
  let body := head ++ leBytes 1 (16 * f.ttl) ++ leBytes 4 sfd ++ leBytes 4 fcnt ++ node ++
    ccmSeal (s.frameKey f) nonce aad f.payload
  body ++ leBytes 4 (fcs body)

/-- The PHR of a frame the module sends: mode switch 0, a 4-octet FCS, whitened, with the length of the PSDU (R108). -/
def sentPhr (psdu : List Byte) : SentPhr := { modeSwitch := false, fcs4 := true, whitened := true, length := psdu.length }

/-- A counter with its ceiling takes its next value: before it passes the ceiling, a new one is saved (R19, R139, R340).
DEDUCED (log entry 66). -/
def nextCeiling (value ceiling step : Nat) : Nat := if value = ceiling then ceiling + step else ceiling

/-- The frame counter of a wick takes its next value (R139). -/
def State.takeFcnt (s : State) (w : Wick) : State :=
  let v := s.link.fcnt.getD w.idx 0
  { s with link := { s.link with fcnt := s.link.fcnt.put w.idx (v + 1)
                                 fcntCeiling := s.link.fcntCeiling.put w.idx (nextCeiling v (s.link.fcntCeiling.getD w.idx 0) 65536) } }

/-- The fabric counter of a wick takes its next value (R340). -/
def State.takeFabCnt (s : State) (w : Wick) : State :=
  let v := s.link.fabCnt.getD w.idx 0
  { s with link := { s.link with fabCnt := s.link.fabCnt.put w.idx (v + 1)
                                 fabCeiling := s.link.fabCeiling.put w.idx (nextCeiling v (s.link.fabCeiling.getD w.idx 0) 65536) } }

/-- Whether a wick's frame counter is exhausted (R139). -/
def State.exhausted (s : State) (w : Wick) : Bool := decide (0xFFFFFFFF ≤ s.link.fcnt.getD w.idx 0)

/-! ### The sequence allocator (R19) -/

/-- The allocator issues a number to a wick that holds AUTHOR or SNOWDROP, or counts a refusal. A stopped wick asks for none (R14), and
none is issued past a ceiling that cannot be written while a final save runs (R23). -/
def State.takeSeq (s : State) (w : Wick) : Option Nat × State :=
  if s.stopped w ∨ (s.saving = true ∧ s.link.seqNext = s.link.seqCeiling) then (none, s)
  else if s.isController w then
    let v := s.link.seqNext
    (some v, { s with link := { s.link with seqNext := (v + 1) % 0x10000
                                            seqCeiling := nextCeiling v s.link.seqCeiling 1024 % 0x10000 } })
  else (none, { s with link := { s.link with seqRefused := s.link.seqRefused + 1 } })

/-- A wick asks the allocator for a number. DESIGN CHOICE (log entry 67). -/
def doSeqAllocate (w : Wick) (s : State) : State :=
  match s.takeSeq w with
  | (some v, t) => { t with busData := BitVec.ofNat 32 v }
  | (none, t) => t

/-- SEQ_ALLOCATE. -/
def execSeqAllocate (w : Wick) (s : State) : Host.Outcome State Fault Refusal := .next (doSeqAllocate w s)

/-! ### The duty ledger: buckets (R117, R124) -/

/-- The window sum of an account: the open bucket and n closed ones. -/
def windowSum (l : List Nat) (n : Nat) : Nat := (l.take (n + 1)).sum

/-- An account's buckets, the open one first. DESIGN CHOICE (log entry 63). -/
def Ledger.account (l : Ledger) (i : Nat) : List Nat := l.accounts.getD i []

/-- A channel's dwell buckets, the open one first. -/
def Ledger.dwell (l : Ledger) (c : Nat) : List Nat := l.dwells.getD c []

/-- A µs charge added to the open bucket of a list of buckets. -/
def chargeOpen (l : List Nat) (us : Nat) : List Nat :=
  match l with
  | [] => [us]
  | x :: t => (x + us) :: t

/-- The open bucket closes and a new one opens. -/
def slide (l : List Nat) : List Nat := (0 :: l).take 3601

/-- The sub-bands of the active profile: none while it is empty. -/
def State.subs (s : State) : List Nat := if s.active.profFilled then List.range s.active.nSub else []

/-- The second and minute records that wait are written to their rings (R124), the oldest first, unless a final save runs: it refuses every
other writer until it has finished (R23). A final save's open bucket is in the second record from here on (R126). -/
def State.writeLedger (s : State) : State :=
  if s.saving ∨ s.ledger.unwritten = [] then s
  else
    let l := s.ledger
    { s with ledger :=
      { l with
        secondRing := (l.unwritten.foldl (fun r x => x.1 :: r) l.secondRing).take 64
        minuteRing := (l.unwritten.foldl (fun r x => match x.2 with | some m => m :: r | none => r) l.minuteRing).take 64
        savedOpen := l.savedOpen.map (fun _ => [])
        unwritten := []
        snapTime := s.now
        snapTrusted := s.on TIME.TRUSTED
        snapValid := true } }

/-- One bucket boundary: every bucket slides, and the second record is written, at every 60th the minute record (R117, R124). -/
def State.bucketBoundary (s : State) : State :=
  let l := s.ledger
  let second := s.subs.map (fun i => (l.account i).headD 0)
  let n := l.boundaries + 1
  let minute := s.subs.map (fun i => ((l.account i).take 60).sum)
  State.writeLedger { s with ledger :=
    { l with
      accounts := l.accounts.map (fun a => (a.1, slide a.2))
      dwells := l.dwells.map (fun a => (a.1, slide a.2))
      boundaries := n
      unwritten := l.unwritten ++ [(second, if n % 60 = 0 then some minute else none)] } }

/-- Boundaries repeated. -/
def State.bucketBoundaries (s : State) : Nat → State
  | 0 => s
  | n + 1 => State.bucketBoundaries s.bucketBoundary n

/-- Every bucket boundary that has been reached on the base. DEDUCED (log entry 62). -/
def State.closeBuckets (s : State) : State := s.bucketBoundaries (s.base / 32768 - s.ledger.boundaries)

/-- BUCKET_BOUNDARY: the boundaries the base has reached are carried out. -/
def execBucketBoundary (s : State) : Host.Outcome State Fault Refusal := .next s.closeBuckets

/-! ### Presumptions (R125, R127) -/

/-- Whether a sub-band is presumed full. -/
def State.presumedSub (s : State) (i : Nat) : Bool :=
  match s.ledger.presumed.get? i with
  | some e => decide (s.base < e)
  | none => false

/-- Whether the ledger as a whole is presumed full: no profile is active and 3,600 s have not passed since the start. -/
def State.presumedWhole (s : State) : Bool :=
  !s.active.profFilled &&
  (match s.ledger.presumedAll with
   | some b => decide (s.base < b + secs 3600)
   | none => false)

/-- Whether anything is presumed full. -/
def State.presuming (s : State) : Bool := s.presumedWhole || s.subs.any s.presumedSub

/-- NORMAL is raised when the last presumption ends. -/
def State.endPresumptions (s : State) (l : Ledger) : State :=
  let t := { s with ledger := l }
  if (s.ledger.presumed ≠ [] ∨ s.ledger.presumedAll ≠ none) ∧ l.presumed = [] ∧ l.presumedAll = none then t.raise 0xC 16 else t

/-- Presumptions whose period has run out end. -/
def doPresumptionEnd (s : State) : State :=
  s.endPresumptions
    { s.ledger with
      presumed := s.ledger.presumed.filter (fun p => decide (s.base < p.2))
      presumedAll := match s.ledger.presumedAll with
        | some b => if s.base < b + secs 3600 then some b else none
        | none => none }

/-- PRESUMPTION_END. -/
def execPresumptionEnd (s : State) : Host.Outcome State Fault Refusal := .next (doPresumptionEnd s)

/-- A write of QUIET_ASSERT (R127). -/
def doQuietAssert (m : Master) (s : State) : State :=
  s.write m 0xC 0x008 (if m = .hostS ∧ s.presuming = true then [] else [0x1]) (fun s =>
    let t := (s.endPresumptions { s.ledger with presumed := [], presumedAll := none }).set DUTY.ASSERTED 1
    t.event srcPilot 0x0302 [s.get HOSTLINK.SESSION_ID])

/-- QUIET_ASSERT. -/
def execQuietAssert (m : Master) (s : State) : Host.Outcome State Fault Refusal := .next (doQuietAssert m s)

/-! ### Requests (R118 to R122) -/

/-- The request a wick makes: channel, class (0 BEACON, 1 CONTROL, 2 BULK, 3 COPY), PSDU octets, preamble in symbols, whether
it is an air-link frame (R118). -/
structure Req where
  channel : Nat
  cls : Nat
  psdu : Nat
  wake : Nat
  air : Bool
deriving DecidableEq, Repr

/-- The class limit of a sub-band in ms (R120). -/
def Bank.classLimit (b : Bank) (sb : SubBand) (cls : Nat) (presumed : Bool) : Nat :=
  let reserve := sb.budget * b.reservePct / 100
  let headroom := sb.budget * b.bulkPct / 100
  if cls = 0 then (if presumed then reserve else sb.budget)
  else if cls = 1 then sb.budget - reserve
  else sb.budget - reserve - headroom

/-- Whether a role may ask the ledger (R19). -/
def Role.maySend : Role → Bool
  | .author => true
  | .mirror => true
  | .snowdrop => true
  | _ => false

/-- The ledger's answer to a request: 0 granted, or the code of the first check that fails (R119). -/
def State.ledgerCode (s : State) (w : Wick) (r : Req) : Nat :=
  let b := s.active
  let ch := b.chan r.channel
  let sb := b.sub ch.sub
  let toa := b.toaUs r.channel r.psdu r.wake
  if s.on (HDR.ENABLE 0xC) = false then 1
  else if (s.role w).maySend = false then 2
  else if s.saving then 3
  else if b.profFilled = false then 4
  else if b.nChan ≤ r.channel ∨ (if r.air then ch.airlink else ch.tx) = false ∨ sb.txAllowed = false then 5
  else if sb.maxTx * 1000 < toa then 6
  else if s.presumedSub ch.sub = true ∧ r.cls ≠ 0 then 7
  else if b.access = true ∧ b.dwellMs * 1000 < windowSum (s.ledger.dwell r.channel) b.dwellWin + toa then 8
  else if b.classLimit sb r.cls (s.presumedSub ch.sub) * 1000 < windowSum (s.ledger.account ch.sub) sb.window + toa then 9
  else 0

/-- The ledger charges a granted request. -/
def State.charge (s : State) (r : Req) : State :=
  let b := s.active
  let i := (b.chan r.channel).sub
  let toa := b.toaUs r.channel r.psdu r.wake
  { s with ledger :=
    { s.ledger with
      accounts := s.ledger.accounts.put i (chargeOpen (s.ledger.account i) toa)
      dwells := if b.access then s.ledger.dwells.put r.channel (chargeOpen (s.ledger.dwell r.channel) toa) else s.ledger.dwells
      savedOpen := none } }

/-- A refusal is recorded and counted (R19, R122, R129, R130). A request on a channel the profile does not have names no
sub-band, and LR_SUBBAND is then open. -/
def State.refuse (s : State) (w : Wick) (r : Req) (code : Nat) : State :=
  let known := s.active.profFilled && decide (r.channel < s.active.nChan)
  let (x, t) := if known then ((s.active.chan r.channel).sub, s) else s.draw
  let t := t.setAll [(DUTY.LR_CODE, code), (DUTY.LR_SUBBAND, x), (DUTY.LR_CHANNEL, r.channel), (DUTY.LR_CLASS, r.cls),
                     (DUTY.LR_MASTER, w.master.id)]
  let t := if known then (t.bump (DUTY.REFUSE_CNT x) 1).raise 0xC (8 + x) else t
  let t := t.bump (match w with | .a => DUTY.REFUSE_A | .b => DUTY.REFUSE_B) 1
  let t := if code = 2 then (t.bump DUTY.ROLE_REFUSE 1).raise 0xC 18 else t
  let t := if r.cls = 0 then t.bump DUTY.BEACON_REFUSE 1 else t
  (t.bump (RADIO.TX_REFUSED w) 1).raise (w.page 1) 1

/-- A wick asks the ledger for a transmission: it is charged and granted (0), or refused under a code. A stopped wick asks nothing
(R14). DESIGN CHOICE (log entry 60). -/
def State.askLedger (s : State) (w : Wick) (r : Req) : Nat × State :=
  if s.stopped w then (2, s)
  else
    let s := s.closeBuckets
    let code := s.ledgerCode w r
    if code = 0 then (0, s.charge r) else (code, s.refuse w r code)

/-- The grant of a request that the ledger granted now. -/
def State.grantOf (s : State) (r : Req) (f : Option OutFrame) (u : Use) (common : Bool) : Grant :=
  { frame := f, use := u, channel := r.channel, wake := r.wake, toa := s.active.toaUs r.channel r.psdu r.wake
    common := common, since := s.base, start := s.now, count := 1, cut := false }

/-- A wick holds a grant until its frame is keyed or the grant lapses (R121). -/
def State.holdGrant (s : State) (w : Wick) (g : Grant) : State :=
  { s with link := { s.link with grants := s.link.grants.put w.idx g } }

/-- A request by itself. A wick whose PLL has lost lock makes none (R105), nor does one that is stopped (R14); the ledger answers in
every other case. A frame that the wick holds a grant for keeps it. DESIGN CHOICE (log entry 60). -/
def doLedgerRequest (w : Wick) (r : Req) (s : State) : State :=
  if s.on (RADIO.PLL_LOCK w) then
    let (code, t) := s.askLedger w r
    if code = 0 ∧ t.link.grants.has w.idx = false then t.holdGrant w (t.grantOf r none .bare false) else t
  else s

/-- The request that a request of the table of operations makes. -/
def reqOf (x : LedgerReq) : Req :=
  { channel := x.channel.val, cls := x.cls.val, psdu := x.psdu.toNat, wake := x.wake.toNat, air := x.air }

/-- LEDGER_REQUEST; `rival` is the request of the other wick in the same cycle. Wick A's is served first, and charged before Wick B's
is judged (R20). DESIGN CHOICE (log entry 6). -/
def execLedgerRequest (w : Wick) (channel : Fin 64) (cls : Fin 4) (psdu : BitVec 16) (wake : Word) (air : Bool) (s : State)
    (rival : Option LedgerReq := none) : Host.Outcome State Fault Refusal :=
  let x : LedgerReq := { channel, cls, psdu, wake, air }
  .next (match rival with
    | none => doLedgerRequest w (reqOf x) s
    | some y =>
      match w with
      | .a => doLedgerRequest .b (reqOf y) (doLedgerRequest .a (reqOf x) s)
      | .b => doLedgerRequest .b (reqOf x) (doLedgerRequest .a (reqOf y) s))

/-! ### Ledger sums that registers show (R130) -/

/-- The sum of an account in its window, in ms rounded up. DESIGN CHOICE (log entry 63). -/
def State.usedMs (s : State) (i : Nat) : Nat :=
  (windowSum (s.ledger.account i) (s.active.sub i).window + 999) / 1000

/-- USED_PCT: open where the budget is 0. DESIGN CHOICE (log entry 11). -/
def State.usedPct (s : State) (i : Nat) : Nat :=
  let b := (s.active.sub i).budget
  if b = 0 then Config.overZero (s.usedMs i) else s.usedMs i * 100 / b

/-- The length of the longest prefix of a window whose sum stays within a limit. -/
def prefixWithin (limit acc : Nat) : List Nat → Nat → Nat
  | [], n => n
  | _, 0 => 0
  | x :: t, n + 1 => if acc + x ≤ limit then prefixWithin limit (acc + x) t n + 1 else 0

/-- NEXT_FREE_S: the seconds until a CONTROL request of 10 ms would pass BUDGET; 0xFFFF never. -/
def State.nextFree (s : State) (i : Nat) : Nat :=
  let sb := s.active.sub i
  let limit := s.active.classLimit sb 1 false * 1000
  if limit < 10000 then 0xFFFF
  else sb.window + 1 - prefixWithin (limit - 10000) 0 (s.ledger.account i) (sb.window + 1)

/-- Whole seconds still to go until a base cycle, a part of one counted whole. DEDUCED (log entry 180). -/
def State.secsLeft (s : State) (e : Nat) : Nat := (e - s.base + 32767) / 32768

/-! ### Receivers (R101 to R108) -/

/-- The timer of a demodulator that waits for an SFD. -/
def tmSfd (w : Wick) (d : Nat) : Nat := 100 + 8 * w.idx + d

/-- Whether a wick's receiver is blanked: it transmits, or ended 50 µs ago at most (R101). -/
def State.blanked (s : State) (w : Wick) : Bool :=
  s.link.onAir.has w.idx || decide (s.base < s.link.blankEnd.getD w.idx 0)

/-- Whether a wick's receiver runs: its radio is on and locked, its role is WARMING, MIRROR, AUTHOR or SNOWDROP, ENABLE is 1, a
profile is active (R105, R106). DESIGN CHOICE (log entry 192). -/
def State.receiving (s : State) (w : Wick) : Bool :=
  s.pdOn (radioPd w) && s.on (RADIO.PLL_LOCK w) && s.on (HDR.ENABLE (w.page 1)) && s.active.profFilled &&
  ((s.role w).maySend || s.role w = .warming)

/-- The demodulators of a wick that are attached, and those that are free. -/
def State.busyDemods (s : State) (w : Wick) : List Nat := (List.range 8).filter (fun d => s.on (RADIO.DEMOD_BUSY w d))
/-- The free demodulators of a wick. DESIGN CHOICE (log entry 44). -/
def State.freeDemods (s : State) (w : Wick) : List Nat := (List.range 8).filter (fun d => !s.on (RADIO.DEMOD_BUSY w d))

/-- A demodulator is released (R103). -/
def State.releaseDemod (s : State) (w : Wick) (d : Nat) : State :=
  (s.set (RADIO.DEMOD_BUSY w d) 0).disarm (tmSfd w d)

/-- Every demodulator of a wick is released. -/
def State.releaseDemods (s : State) (w : Wick) : State := (s.busyDemods w).foldl (fun t d => t.releaseDemod w d) s

/-- One detection: a channel of the profile with RX set that no demodulator serves gets a free one, or NO_DEMOD is counted.
Which free demodulator, and the input where both receive equally, are open (R102 to R104). DESIGN CHOICE (log entries 44, 45). -/
def State.attach (s : State) (w : Wick) (x : Detect) : State :=
  if (decide (x.chan < s.active.nChan) && (s.active.chan x.chan).rx &&
      !((s.busyDemods w).any (fun d => s.get (RADIO.CHANNEL w d) = x.chan))) = false then s
  else
    let free := s.freeDemods w
    if free = [] then (s.bump (RADIO.RX_NO_DEMOD w) 1).raise (w.page 1) 2
    else
      let (n, t) := s.draw
      let (c, t) := t.draw
      let d := free.getD (n % free.length) 0
      let input := if t.on (RADIO.SINGLE_INPUT w) then 0
        else if x.divNeg < x.mainNeg then 1 else if x.mainNeg < x.divNeg then 0 else c % 2
      let t := t.setAll [(RADIO.CHANNEL w d, x.chan), (RADIO.DEMOD_BUSY w d, 1), (RADIO.INPUT w d, input)]
      t.arm (tmSfd w d) (millis (s.active.preMax + 1))

/-- The detections of one cycle, the lower channel indices first (R102). DESIGN CHOICE (log entry 44). -/
def doPreambleDetect (w : Wick) (l : List Detect) (s : State) : State :=
  if s.receiving w && !s.blanked w then
    (sortOn Detect.chan l).foldl (fun t x => t.attach w x) s
  else s

/-- PREAMBLE_DETECT. -/
def execPreambleDetect (w : Wick) (l : List Detect) (s : State) : Host.Outcome State Fault Refusal :=
  .next (doPreambleDetect w l s)

/-- DEMOD_SFD_TIMEOUT: no SFD came within PRE_MAX_MS + 1 ms of attachment. -/
def execDemodSfdTimeout (w : Wick) (d : Fin 8) (s : State) : Host.Outcome State Fault Refusal :=
  .next (if s.due (tmSfd w d.val) then s.releaseDemod w d.val else s)

/-- Whether a received PHR is accepted (R108). -/
def phrOk (p : Phr) : Bool := p.decoded && !p.modeSwitch && p.fcs4 && decide (5 ≤ p.length ∧ p.length ≤ 511)

/-- A PHR arrives at an attached demodulator: the SFD has come, and a bad PHR releases it and is counted. -/
def doPhrCheck (w : Wick) (d : Nat) (p : Phr) (s : State) : State :=
  if s.on (RADIO.DEMOD_BUSY w d) then
    if phrOk p then s.disarm (tmSfd w d) else (s.releaseDemod w d).bump (RADIO.RX_PHR_ERR w) 1
  else s

/-- PHR_CHECK. -/
def execPhrCheck (w : Wick) (d : Fin 8) (p : Phr) (s : State) : Host.Outcome State Fault Refusal := .next (doPhrCheck w d.val p s)

/-- PLL_RELOCK: the radio PLL of a powered radio domain regains lock. -/
def execPllRelock (w : Wick) (s : State) : Host.Outcome State Fault Refusal :=
  .next (if s.pdOn (radioPd w) then s.set (RADIO.PLL_LOCK w) 1 else s)

/-! ### LOAD_PRESET (R110) -/

/-- The reason LOAD_PRESET shows for a refusal code of R42. -/
def presetReason (code : Nat) : Nat := if code = 3 then 2 else if code = 6 then 3 else if code = 5 then 4 else 0

/-- A write of LOAD_PRESET. -/
def doLoadPreset (m : Master) (w : Wick) (p : Nat) (s : State) : State :=
  let page := w.page 1
  s.write m page 0x040 [] (fun s =>
    if s.cfg.preset.isSome then s.countErr page m page 0x040 ((minimum? (s.shadowCodes m w)).getD 8)
    else match minimum? (s.shadowCodes m w) with
      | some c => ((s.countErr page m page 0x040 c).set (RADIO.CMD_STATUS w) 2).set (RADIO.CMD_REASON w) (presetReason c)
      | none =>
        if 1 ≤ p ∧ p ≤ 3 then
          let t := ((s.set (RADIO.CMD_STATUS w) 1).set (RADIO.CMD_REASON w) 0).jotAs .bank
          { t with cfg := { t.cfg with preset := some p } }
        else (s.set (RADIO.CMD_STATUS w) 2).set (RADIO.CMD_REASON w) 1)

/-- LOAD_PRESET. -/
def execLoadPreset (m : Master) (w : Wick) (p : Fin 8) (s : State) : Host.Outcome State Fault Refusal :=
  .next (doLoadPreset m w p.val s)

/-- The running preset load ends: the shadow profile holds the preset. A stopped wick, and any while a final save runs, writes nothing to
MRAM (R14, R23). -/
def doPresetLoadDone (s : State) : State :=
  match s.cfg.preset, s.author with
  | some p, some w =>
    if s.stopped w ∨ s.saving then s else
    let a := tabProfile.base
    let b := s.shadow.touchTable tabProfile
    let t := s.writeShadow { b with mem := (b.mem.clear a 768).write a (presetImage p) }
    ({ t with cfg := { t.cfg with preset := none } } : State).settleBanks.set (RADIO.CMD_STATUS w) 0
  | _, _ => s

/-- PRESET_LOAD_DONE. -/
def execPresetLoadDone (s : State) : Host.Outcome State Fault Refusal := .next (doPresetLoadDone s)

/-! ### Whole seconds (R131) -/

/-- SECOND_BOUNDARY: the link is on the common channel of the present second. DESIGN CHOICE (log entry 65). -/
def execSecondBoundary (s : State) : Host.Outcome State Fault Refusal :=
  .next { s with link := { s.link with second := s.now / 32768 } }

end Sys2Proof.Machine
end

