-- ==== Sys2Proof/Machine/TxnBase.lean ====
section
/-! DEFINITION. Transaction slots: their tags, how a transaction takes one, who may submit (R164 to R167, R178, R180). -/

namespace Sys2Proof.Machine

/-- The wick whose pages carry the controller's registers: the one that holds AUTHOR or SNOWDROP, otherwise Wick A. -/
def State.cw (s : State) : Wick := s.controller.getD .a

/-- The controller as an event source: its wick's master ID (R424). -/
def State.srcCtl (s : State) : Nat := s.cw.master.id

/-- An empty descriptor. -/
def Desc.empty : Desc :=
  { master := 0, purpose := .host, ty := 0, dest := 0, opcode := 0, args := [], ackReq := false, respWin := 0, maxAtt := 0
    notBefore := 0, notAfter := 0, nodeId := 0, joinKey := [] }

/-- A slot that has never been used: FREE, epoch 0 (R165). -/
def Slot.empty : Slot :=
  { state := 0, epoch := 0, desc := Desc.empty, attempts := 0, seq := none, submitted := 0, order := 0, timer := 0, span := 0
    planned := none, keyed := false, expected := [], responses := [], freeSince := 0 }

/-- A slot of the engine. -/
def State.slot (s : State) (n : Nat) : Slot := s.txn.slots.getD n Slot.empty

/-- A slot takes a value, journalled (R179). DESIGN CHOICE (log entry 18). -/
def State.setSlot (s : State) (n : Nat) (x : Slot) : State :=
  { s with txn := { s.txn with slots := s.txn.slots.put n x } }.jot

/-- The tag of a slot (R165). -/
def State.tag (s : State) (n : Nat) : Nat := n + 64 * (s.slot n).epoch

/-- Whether an address is a lantern's, a group's or the broadcast address (R6). -/
def isLantern (a : Nat) : Bool := decide (1 ≤ a ∧ a ≤ 0x1000)
/-- Whether an address names several lanterns. -/
def isMulti (a : Nat) : Bool := decide (0x8000 ≤ a ∧ a ≤ 0x80FF) || a = 0xFFFF

/-- Whether a transaction asks for an answer (R172 to R174). -/
def Desc.asks (d : Desc) : Bool := d.ackReq && (d.ty = 1 || (d.ty = 2 && d.respWin != 0))

/-- The slots that are FREE. -/
def State.freeSlots (s : State) : List Nat := (List.range 64).filter (fun n => (s.slot n).state = 0)

/-- The slot a new transaction takes: the one FREE the longest, then the lowest (R165). -/
def State.nextSlot? (s : State) : Option Nat := leastOn? (fun n => (s.slot n).freeSince) s.freeSlots

/-- Whether a slot's transaction has not closed. -/
def Slot.live (x : Slot) : Bool := decide (1 ≤ x.state ∧ x.state ≤ 4)

/-- HOST_HELD: the slots in flight that the host submitted (R164). -/
def State.hostHeld (s : State) : Nat := ((List.range 64).filter (fun n => (s.slot n).live && (s.slot n).desc.purpose = .host)).length

/-- A descriptor takes a slot: its epoch advances and it is QUEUED (R165, R167). -/
def State.takeSlot (s : State) (n : Nat) (d : Desc) (since : Nat) : State :=
  let t := s.setSlot n
    { Slot.empty with state := 1, epoch := ((s.slot n).epoch + 1) % 4, desc := d, submitted := since, order := s.txn.submissions }
  { t with txn := { t.txn with submissions := t.txn.submissions + 1 } }

/-- Whether the engine takes an internal submission: TXN ENABLE is 1, and a SNOWDROP wick takes only the schedule service's
unanswered step broadcasts (R178, R180). -/
def State.takesInternal (s : State) (d : Desc) : Bool :=
  s.on (HDR.ENABLE (s.cw.page 3)) &&
  (match s.controller with
   | none => false
   | some w => !s.stopped w && (s.isAuthor w || (d.purpose = .step && !d.asks)))

/-- An internal submission takes a slot, or waits for one (R164). -/
def State.submit (s : State) (d : Desc) : State :=
  if s.takesInternal d then
    match s.nextSlot? with
    | some n => s.takeSlot n d s.now
    | none => { s with txn := { s.txn with waiting := s.txn.waiting ++ [(d, s.now)] } }.jot
  else s

/-- A slot becomes FREE, and an internal submission that waits for a slot takes one (R164, R176). -/
def State.freeSlot (s : State) (n : Nat) : State :=
  let t := s.setSlot n { s.slot n with state := 0, freeSince := s.base }
  match t.txn.waiting, t.nextSlot? with
  | (d, since) :: l, some k => State.takeSlot { t with txn := { t.txn with waiting := l } } k d since
  | _, _ => t

/-- The grant a wick holds, if any. -/
def State.grant? (s : State) (w : Wick) : Option Grant := s.link.grants.get? w.idx

/-- A wick's grant is given up; its charge stands (R121). -/
def State.dropGrant (s : State) (w : Wick) : State := { s with link := { s.link with grants := s.link.grants.del w.idx } }

/-- A slot's attempt that is granted and not yet keyed is not sent: only a keyed one is completed on the air (R175, R177). The grant's
charge stands (R121). -/
def State.ungrant (s : State) (n : Nat) : State :=
  match s.grant? s.cw with
  | some g => if g.use = Use.slot n ∨ g.use = Use.rendezvous n then s.dropGrant s.cw else s
  | none => s

/-- A slot's attempt that is SENDING and not keyed gives up its grant and its taper trains. -/
def State.unsend (s : State) (n : Nat) : State :=
  let t := s.ungrant n
  if t.link.taper.any (fun p => p.slot = n) then { t with link := { t.link with taper := none } } else t

/-- The slots of some purposes that are SENDING with nothing of their frame on the air yet. -/
def State.unkeyed (s : State) (is : Purpose → Bool) : List Nat :=
  (List.range 64).filter (fun n => (s.slot n).state = 2 && !(s.slot n).keyed && is (s.slot n).desc.purpose)

/-- The transactions of some purposes that have not yet been sent, or wait for a repetition, are given up; a frame on the air is completed, and not
repeated. -/
def State.dropQueued (s : State) (is : Purpose → Bool) : State :=
  let mine := fun (n : Nat) => is (s.slot n).desc.purpose
  let t : State := { s with txn := { s.txn with waiting := s.txn.waiting.filter (fun d => !is d.1.purpose) } }
  let t := ((List.range 64).filter (fun n => (s.slot n).state = 2 && (s.slot n).keyed && mine n)).foldl (fun (t : State) n =>
    let x := t.slot n
    t.setSlot n { x with desc := { x.desc with maxAtt := x.attempts } }) t
  ((List.range 64).filter (fun n => ((s.slot n).state = 1 || (s.slot n).state = 4) && mine n) ++ s.unkeyed is).foldl
    (fun (t : State) n => (t.unsend n).freeSlot n) t

/-- The transactions of some purposes whose frame is still to be keyed wait QUEUED again. -/
def State.recall (s : State) (is : Purpose → Bool) : State :=
  (s.unkeyed is).foldl (fun (t : State) n => (t.unsend n).setSlot n { t.slot n with state := 1, timer := 0, planned := none }) s

/-- A group command of a module engine, without answers. -/
def groupCommand (p : Purpose) (dest opcode : Nat) (args : List Byte) (maxAtt notBefore notAfter : Nat) : Desc :=
  { Desc.empty with purpose := p, ty := 2, dest := dest, opcode := opcode, args := args, maxAtt := maxAtt
                    notBefore := notBefore, notAfter := notAfter }

/-- A unicast command of a module engine that asks for an answer at the default attempt count (R193). -/
def pushCommand (p : Purpose) (dest opcode : Nat) (args : List Byte) : Desc :=
  { Desc.empty with purpose := p, ty := 1, dest := dest, opcode := opcode, args := args, ackReq := true }

/-- INTERNAL_SUBMIT: a module engine submits a transaction. -/
def execInternalSubmit (p : Purpose) (ty dest opcode : Nat) (args : List Byte) (ack : Bool) (win att nb na : Nat) (s : State) :
    Host.Outcome State Fault Refusal :=
  .next (if p = .host then s else s.submit
    { Desc.empty with purpose := p, ty := ty, dest := dest, opcode := opcode, args := args, ackReq := ack, respWin := win
                      maxAtt := att, notBefore := nb, notAfter := na })

end Sys2Proof.Machine
end

