-- ==== Sys2Proof/Machine/RegOps.lean ====
section
/-! DEFINITION. The lantern registry: its entries, the link model of a lantern, notices, pushes, faults, life ledger, groups (R140, R144, R148, R184 to R197, R207 to R209). -/

namespace Sys2Proof.Machine

/-! ### Entries (R184, R185) -/

/-- A number in the entry of a lantern address: n bytes at an offset. -/
def State.rget (s : State) (a off n : Nat) : Nat := s.reg.mem.field tabRegistry (a - 1) off n

/-- A number of the entry of a lantern address takes a value, journalled (R210); GEN of the table goes up where that changes it (R55).
DESIGN CHOICE (log entry 18). -/
def State.rset (s : State) (a off n v : Nat) : State :=
  { s with reg := { s.reg with mem := s.reg.mem.setNum (tabRegistry.at (a - 1) + off) n v
                               gen := if s.rget a off n = v % 256 ^ n then s.reg.gen else (s.reg.gen + 1) % 2 ^ 32 } }.jot

/-- NODE_ID. -/
def State.nodeId (s : State) (a : Nat) : Nat := s.rget a 0x00 8
/-- JOIN_KEY. -/
def State.joinKey (s : State) (a : Nat) : List Byte := s.reg.mem.read (tabRegistry.at (a - 1) + 0x08) 16
/-- STATE. -/
def State.entryState (s : State) (a : Nat) : Nat := s.rget a 0x18 1
/-- A flag of FLAGS: 0 ROAM, 1 PIN, 2 FORCE_LEAF, 3 FORCE_ROUTER. -/
def State.entryFlag (s : State) (a n : Nat) : Bool := bit (s.rget a 0x19 1) n
/-- HOME. -/
def State.home (s : State) (a : Nat) : Nat := s.rget a 0x1A 1
/-- PHASE. -/
def State.samplePhase (s : State) (a : Nat) : Nat := s.rget a 0x1C 2
/-- PARENT. -/
def State.parent (s : State) (a : Nat) : Nat := s.rget a 0x1E 2
/-- LEVEL. DEDUCED (log entry 80). -/
def State.level (s : State) (a : Nat) : Nat := s.rget a 0x6C 2
/-- A PENDING bit: 0 PARAMS, 1 GROUPS, 2 SCHED, 3 CLO, 4 CHANPLAN, 5 NOT_HEARD. -/
def State.pendingBit (s : State) (a n : Nat) : Bool := bit (s.rget a 0x70 2) n

/-- A PENDING bit takes a value. -/
def State.setPending (s : State) (a n : Nat) (v : Bool) : State := s.rset a 0x70 2 (setBits (s.rget a 0x70 2) n 1 (b2n v))

/-- The addresses whose entries hold anything. -/
def State.entries (s : State) : List Nat := (s.reg.mem.used tabRegistry).map (· + 1)

/-- Whether a lantern is registered: its entry is JOINED or GUEST (R185). -/
def State.registered (s : State) (a : Nat) : Bool := isLantern a && (s.entryState a = 2 || s.entryState a = 6)

/-- The registered lanterns, in rising order of their addresses. -/
def State.registeredList (s : State) : List Nat := s.entries.filter s.registered

/-- A lantern no longer waits for KEY_NEXT; PUSH_DONE is raised when none does (R393, R405). -/
def State.keyDone (s : State) (a : Nat) : State :=
  let t := { s with keyLeft := s.keyLeft.filter (· ≠ a) }
  if s.keyLeft ≠ [] ∧ t.keyLeft = [] then t.raise 9 2 else t

/-- Whether a bank's group map names a lantern in group n (R197). -/
def Bank.inGroup (b : Bank) (a n : Nat) : Bool := bit (b.mem.num (tabGroups.at (a - 1) + n / 8) 1) (n % 8)

/-- Whether an address is among those a multicast destination names under a bank. -/
def Bank.names (b : Bank) (dest a : Nat) : Bool := dest = 0xFFFF || (decide (0x8000 ≤ dest ∧ dest ≤ 0x80FF) && b.inGroup a (dest - 0x8000))

/-- The registered lanterns a destination reaches. -/
def State.membersOf (s : State) (dest : Nat) : List Nat :=
  if isLantern dest then (if s.registered dest then [dest] else [])
  else s.registeredList.filter (s.active.names dest)

/-- The entry that holds a node identity, EMPTY ones apart. -/
def State.findNode (s : State) (node : Nat) : Option Nat := s.entries.find? (fun a => s.entryState a ≠ 0 && s.nodeId a = node)

/-! ### The model of a lantern (R144, R148) -/

/-- A lantern of which nothing is known. -/
def Lantern.unknown : Lantern :=
  { tSync := 0, ackedSfd := 0, drift := none, offsetUs := 0, hops := none, mode := none, router := false, rssi := 0, lastFcnt := none
    prevFcnt := none, holdUntil := 0, heardBase := 0, neighbours := [], faultCounts := [], activeSince := [], inactiveSince := []
    detail := 0, lastTry := none, candidate := none, joinFcnt := none, hostCmd := none }

/-- What is known of a lantern. -/
def State.lantern (s : State) (a : Nat) : Lantern := s.reg.lanterns.getD a Lantern.unknown

/-- What is known of a lantern takes a value, journalled. DESIGN CHOICE (log entry 18). -/
def State.setLantern (s : State) (a : Nat) (x : Lantern) : State :=
  { s with reg := { s.reg with lanterns := s.reg.lanterns.put a x } }.jot

/-- A list of notices and the page's loss counter: a notice is queued, the oldest dropped when 64 wait (R211). PRESUMED (log entry 76). -/
def State.notice (s : State) (a kind : Nat) : State :=
  if 64 ≤ s.reg.notices.length then
    (({ s with reg := { s.reg with notices := s.reg.notices.drop 1 ++ [(a, kind)] } }.jot).bump (REGISTRY.NOTICE_LOST s.cw) 1).raise
      (s.cw.page 4) 2
  else { s with reg := { s.reg with notices := s.reg.notices ++ [(a, kind)] } }.jot

/-- Whether an awake hold of a lantern runs. -/
def State.held (s : State) (a : Nat) : Bool := decide (s.base < (s.lantern a).holdUntil)

/-- Whether the module treats a lantern as dozing (R134, R148). -/
def State.dozing (s : State) (a : Nat) : Bool :=
  let x := s.lantern a
  !s.active.dozeOff && !x.router && s.parent a = 0 && (x.mode = some 0 || s.level a = 0) && !s.held a

/-- M_HOPS as the timeouts use it: MAX_TTL for a lantern not yet heard (R171). -/
def State.hopsOf (s : State) (a : Nat) : Nat :=
  match (s.lantern a).hops with
  | some h => h
  | none => s.cfgGet (LINK.MAX_TTL .a)

/-- The next sample instant of a lantern at least 5 ms ahead (R133, R148). -/
def State.nextSample (s : State) (a : Nat) : Nat :=
  let p := s.active.periodTicks
  let t := s.now + 164
  if p = 0 then t else t + (s.samplePhase a + p - t % p) % p

/-- span_us of a lantern: its drift times the time since its last synchronisation (R148). DEDUCED (log entry 81). -/
def State.spanUs (s : State) (a : Nat) : Option Rat :=
  match (s.lantern a).drift with
  | some d => some (d * (((s.nextSample a : Int) - ((s.lantern a).tSync : Int) : Int) : Rat) / 32768)
  | none => none

/-- The wake preamble of a unicast to a lantern treated as dozing: its need in µs, and the instant it starts; none for the
full-interval preamble, which starts as soon as the ledger grants (R148). DEDUCED (log entry 81). -/
def State.wakeNeed (s : State) (a : Nat) : Option (Rat × Nat) :=
  let win : Nat := 100 * s.cfgGet (LINK.SAMPLE_WIN .a)
  match s.spanUs a with
  | none => none
  | some span =>
    let need : Rat := 2 * span + 1000 + (win : Rat)
    if ((s.active.periodUs + win : Nat) : Rat) ≤ need then none
    else some (need, s.nextSample a - ((span + 500) * 32768 / 1000000).ceil.toNat)

/-- A preamble of some µs in symbols of a channel, rounded up (R148). DEDUCED (log entry 81). -/
def Bank.wakeSym (b : Bank) (c : Nat) (us : Rat) : Nat := (us * 3 / (symThirds (b.chan c).rate : Rat)).ceil.toNat

/-! ### HOME and PHASE, roles (R188, R193) -/

/-- The HOME the module assigns to an address; 0 where the profile has no channel for it. -/
def Bank.assignHome (b : Bank) (a : Nat) : Nat :=
  if b.access then (if b.beaconChans = [] then 0 else (a - 1) % b.beaconChans.length)
  else if b.homeChans = [] then 0 else b.homeChans.getD ((a - 1) % b.homeChans.length) 0

/-- The PHASE the module assigns to an address. -/
def Bank.assignPhase (b : Bank) (a : Nat) : Nat := (a - 1) * b.periodTicks / 4096

/-- HOME and PHASE of an unpinned entry are assigned. -/
def State.assignSample (s : State) (a : Nat) : State :=
  if s.entryFlag a 1 then s
  else (s.rset a 0x1A 1 (s.active.assignHome a)).rset a 0x1C 2 (s.active.assignPhase a)

/-- A push becomes pending for a lantern. -/
def State.raisePush (s : State) (a n : Nat) : State := if s.pendingBit a n then s else s.setPending a n true

/-- The args of SET_PARAMS of a lantern (R154). -/
def State.paramsArgs (s : State) (a : Nat) : List Byte :=
  leBytes 1 (s.home a) ++ leBytes 2 (s.samplePhase a) ++ leBytes 1 (b2n (s.lantern a).router) ++ leBytes 2 (s.parent a) ++
  leBytes 1 (b2n (s.entryFlag a 0))

/-- The args of SET_GROUPS of a lantern (R154). -/
def State.groupsArgs (s : State) (a : Nat) : List Byte := s.active.mem.entry tabGroups (a - 1)

/-- The args of SET_CHANPLAN (R154). -/
def Bank.chanplanArgs (b : Bank) : List Byte :=
  leBytes 1 b.nChan ++
  b.chans.flatMap (fun c =>
    let ch := b.chan c
    leBytes 1 c ++ leBytes 4 ch.centre ++ leBytes 1 (ch.rate + 4 * b2n ch.fec + 8 * b2n ch.beacon)) ++
  leBytes 1 (b2n b.access)

/-- The points in use of an entry's CLO curve, as their bytes. -/
def State.cloPoints (s : State) (a : Nat) : List (List Byte) :=
  ((List.range 8).map (fun i => s.reg.mem.read (tabRegistry.at (a - 1) + 0x44 + 4 * i) 4)).filter (fun p => p.any (· != 0))

/-- The args of ENGINE_CLO of a lantern (R203). -/
def State.cloArgs (s : State) (a : Nat) : List Byte :=
  leBytes 8 (s.rget a 0x28 8) ++ leBytes 1 (s.cloPoints a).length ++ (s.cloPoints a).flatten

/-- Whether a CLO field is valid: the points in use come first, their HOURS rise, their FACTORs lie between 500 and 1,500
(R209). -/
def cloOk (clo : List Byte) : Bool :=
  let w := toWords clo
  let used := w.takeWhile (· ≠ 0)
  (w.drop used.length).all (· = 0) && used.all (fun x => decide (500 ≤ x / 65536 ∧ x / 65536 ≤ 1500)) &&
  (used.zip used.tail).all (fun p => decide (p.1 % 65536 < p.2 % 65536))

/-! ### LEAVE, engines and life (R186, R207, R208) -/

/-- LEAVE is sent to a lantern, once, without an answer (R186). -/
def State.sendLeave (s : State) (a : Nat) : State :=
  s.submit { Desc.empty with purpose := .leave, ty := 1, dest := a, opcode := 0x09, maxAtt := 1 }

/-- BASE_N of a lantern returns to 0 (R287). DEDUCED (log entry 34). -/
def State.clearBase (s : State) (a : Nat) : State := ({ s with attr := { s.attr with bases := s.attr.bases.del a } } : State).jot

/-- An engine identity is reported, with counters where a report carries them: stored where none is known, an engine change
where it differs (R208). -/
def State.engineSeen (s : State) (a id : Nat) (counters : Option (Nat × Nat)) : State :=
  let old := s.rget a 0x28 8
  let takeLast := fun (t : State) => match counters with
    | some (wmin, min) => (t.rset a 0x3C 4 wmin).rset a 0x40 4 min
    | none => t
  if id = 0 ∨ id = old then s
  else if old = 0 then takeLast (s.rset a 0x28 8 id)
  else
    let hours := s.rget a 0x34 4 / 60
    let t := (s.clearBase a).event s.srcCtl 0x0603
      [a + 2 ^ 16 * (old % 256), old / 2 ^ 8, old / 2 ^ 32, old / 2 ^ 56 + 2 ^ 8 * min hours 0xFFFF]
    let t := t.notice a 5
    let t := ((((t.rset a 0x28 8 id).rset a 0x34 4 0).rset a 0x38 4 0).rset a 0x3C 4 0).rset a 0x40 4 0
    let t := takeLast (t.rset a 0x6F 1 0)
    let t := (t.rset a 0x6E 1 (min (t.rget a 0x6E 1 + 1) 0xFF)).bump (REGISTRY.ENGINE_SWAP_CNT t.cw) 1
    if t.cloPoints a = [] then t else t.raisePush a 3

end Sys2Proof.Machine
end

