-- ==== Sys2Proof/Machine/FabBase.lean ====
section
/-! DEFINITION. How the module's services hand messages to the fabric (R337, R338, R345, R346). -/

namespace Sys2Proof.Machine

/-- The address of the module that receives the messages for a segment: of the modules that advertise it, the one with the
lowest identity (R338). -/
def State.segModule (s : State) (seg : Nat) : Option Nat :=
  (leastOn? Lsa.uid (s.fab.lsas.filter (fun l => !l.withdrawn && l.seg = seg))).map Lsa.addr

/-- A message is queued for the fabric under this module's address. -/
def State.fabPost (s : State) (ltype odest : Nat) (body : List Byte) : State :=
  if s.on (HDR.ENABLE (s.cw.page 0xB)) then
    { s with fab := { s.fab with queue := s.fab.queue ++
        [{ ltype := ltype, odest := odest, osrc := s.get (FABRIC.FAB_ADDR s.cw), hops := 0, body := body, via := none }] } }
  else s

/-- A message is queued for the module that serves a segment; without one it has no route (R345, R346). -/
def State.fabPostSeg (s : State) (ltype seg : Nat) (body : List Byte) : State :=
  if s.on (HDR.ENABLE (s.cw.page 0xB)) then
    match s.segModule seg with
    | some a => s.fabPost ltype a body
    | none => s.bump (FABRIC.NO_ROUTE_CNT s.cw) 1
  else s

/-- A message of type 0x13 to 0x15 is queued and repeated every 10 s until it is acknowledged (R346). -/
def State.fabPostRepeated (s : State) (ltype seg node : Nat) (body : List Byte) : State :=
  let t := s.fabPostSeg ltype seg body
  { t with fab := { t.fab with repeats := t.fab.repeats ++
      [{ ltype := ltype, seg := seg, nodeId := node, body := body, count := 0, due := s.base + secs 10 }] } }

/-- FABRIC_REPEAT_TIMER: the messages whose 10 s have passed without an ACK are sent again, 30 times at most (R346). -/
def doFabricRepeatTimer (s : State) : State :=
  let (go, stay) := s.fab.repeats.partition (fun r => decide (r.due ≤ s.base))
  let t := go.foldl (fun (t : State) r => t.fabPostSeg r.ltype r.seg r.body) s
  { t with fab := { t.fab with repeats := stay ++
      (go.map (fun r => { r with count := r.count + 1, due := s.base + secs 10 })).filter (fun r => decide (r.count < 30)) } }

/-- FABRIC_REPEAT_TIMER. -/
def execFabricRepeatTimer (s : State) : Host.Outcome State Fault Refusal := .next (doFabricRepeatTimer s)

/-- FABRIC_ACK_RECEIVED: an ACK stops the repeats of the message it names (R346). -/
def doFabricAckReceived (ltype node : Nat) (s : State) : State :=
  { s with fab := { s.fab with repeats := s.fab.repeats.filter (fun r => !(r.ltype = ltype && r.nodeId = node)) } }

/-- FABRIC_ACK_RECEIVED. -/
def execFabricAckReceived (ltype : Byte) (node : BitVec 64) (s : State) : Host.Outcome State Fault Refusal :=
  .next (doFabricAckReceived ltype.toNat node.toNat s)

/-- A received message of type 0x13 to 0x15 is acknowledged to its sender (R346). -/
def State.fabAck (s : State) (osrc ltype node : Nat) : State :=
  s.fabPost 0x16 osrc (leBytes 1 ltype ++ leBytes 8 node)

/-- The timer of a link's next hello. -/
def tmHello (link : Nat) : Nat := 142 + link

/-- The request for a neighbour's database on a link. -/
def dbRequest (src link addr : Nat) : FabMsg := { ltype := 3, odest := 0xFFFF, osrc := src, hops := 0, body := [], via := some (link, addr) }

/-- A new controller rebuilds its neighbours and LSAs: it sends hellos and DB_REQUEST on every link at once (R356). -/
def State.fabTakeover (s : State) : State :=
  let t := [0, 1, 2].foldl (fun (t : State) l => t.disarm (tmHello l)) s
  { t with fab := { s.fab with
    neighbours := [], lsas := [], small := [], big := [], heard := [], conflicts := [], rpa := none
    queue := s.fab.queue ++ [0, 1, 2].map (fun l => dbRequest (s.get (FABRIC.FAB_ADDR s.cw)) l 0xFFFF) } }

end Sys2Proof.Machine
end

