-- ==== Sys2Proof/Machine/Registry.lean ====
section
/-! DEFINITION. Frames as they arrive, joining, guests, roles and parents, lantern faults, silence and notices (R136, R141, R186 to R196, R211). -/

namespace Sys2Proof.Machine

/-! ### A frame as it arrives (R136, R138) -/

/-- The fields of a received PSDU, its payload with MIC still sealed. -/
structure RxFrame where
  fc : Nat
  seg : Nat
  dest : Nat
  src : Nat
  seq : Nat
  ttlHop : Nat
  timeLo : Nat
  fcnt : Nat
  nodeId : Nat
  aad : List Byte
  sealed : List Byte
  psdu : List Byte
deriving DecidableEq, Repr

/-- TYPE. -/
def RxFrame.ty (f : RxFrame) : Nat := bits f.fc 0 4
/-- ACK_REQ. -/
def RxFrame.ackReq (f : RxFrame) : Bool := bit f.fc 4
/-- TXW. -/
def RxFrame.txw (f : RxFrame) : Nat := bits f.fc 5 1
/-- COPY. -/
def RxFrame.copy (f : RxFrame) : Bool := bit f.fc 6
/-- KEY_SEL. -/
def RxFrame.keySel (f : RxFrame) : Nat := bits f.fc 10 2
/-- Hop count. -/
def RxFrame.hop (f : RxFrame) : Nat := f.ttlHop % 16

/-- A PSDU taken apart; none where it is too short to hold the fields of its layout. DEDUCED (log entry 47). -/
def parseFrame (p : List Byte) : Option RxFrame :=
  let fc := leNat (p.take 2)
  let extra := if bits fc 10 2 = 2 then 8 else 0
  if p.length < 19 + extra + 12 then none
  else
    let at_ := fun o n => (p.drop o).take n
    some { fc := fc, seg := leNat (at_ 2 2), dest := leNat (at_ 4 2), src := leNat (at_ 6 2), seq := leNat (at_ 8 2)
           ttlHop := leNat (at_ 10 1), timeLo := leNat (at_ 11 4), fcnt := leNat (at_ 15 4), nodeId := leNat (at_ 19 extra)
           aad := at_ 0 10 ++ at_ 15 (4 + extra), sealed := at_ (19 + extra) (p.length - 23 - extra), psdu := p }

/-- The payload of a frame under a key, or none where its MIC is wrong. -/
def RxFrame.openWith (f : RxFrame) (key : List Byte) : Option (List Byte) :=
  if key = [] then none
  else ccmOpen key (frameNonce f.seg f.src f.fcnt f.txw (if f.keySel = 2 then some f.nodeId else none)) f.aad f.sealed

/-! ### A lantern is heard (R144, R184, R191, R196) -/

/-- A frame from a lantern passes step 4: LAST_HEARD, hop count and RSSI; an AWAY entry becomes JOINED; the end of silence. -/
def State.heard (s : State) (a hop rssi : Nat) : State :=
  let x := s.lantern a
  let t := (s.setLantern a { x with hops := some hop, rssi := rssi, heardBase := s.base }).rset a 0x68 4 (s.now / 65536)
  let t := if t.entryState a = 5 then (t.rset a 0x18 1 2).rset a 0x22 2 0xFFFF else t
  if t.pendingBit a 5 then (t.setPending a 5 false).notice a 4 else t

/-! ### Joining (R188, R189) -/

/-- The descriptor of a JOIN_ACCEPT. -/
def State.acceptDesc (s : State) (node : Nat) (key payload : List Byte) : Desc :=
  { Desc.empty with purpose := .joinAccept, ty := 9, dest := 0xFFFF, args := payload, nodeId := node, joinKey := key
                    maxAtt := 1, notAfter := s.now + 32768 }

/-- A JOIN_ACCEPT is submitted and kept for a repeat of its request. -/
def State.sendAccept (s : State) (node seq : Nat) (d : Desc) : State :=
  let t := s.submit d
  { t with reg := { t.reg with accepts :=
      { nodeId := node, seq := seq, desc := d, due := s.base + secs 4 } :: t.reg.accepts.filter (fun k => k.nodeId ≠ node) } }

/-- A JOIN_ACCEPT that refuses: zeros after RESULT (R160). -/
def State.refuseJoin (s : State) (node seq result : Nat) (key : List Byte) : State :=
  (s.sendAccept node seq (s.acceptDesc node key (leBytes 27 result))).bump (REGISTRY.JOIN_REFUSED_CNT s.cw) 1

/-- The payload of the JOIN_ACCEPT that accepts a lantern (R160). -/
def State.acceptPayload (s : State) (a : Nat) : List Byte :=
  let e := s.get VAULT.SEG_EPOCH
  leBytes 1 0 ++ leBytes 2 a ++ leBytes 1 e ++ (s.segKey e ++ leBytes 16 0).take 16 ++ leBytes 1 (s.home a) ++
  leBytes 2 (s.samplePhase a) ++ leBytes 1 (b2n (s.lantern a).router) ++ leBytes 2 (s.parent a) ++
  leBytes 1 (b2n (s.entryFlag a 0))

/-- A lantern is accepted: its state, what its request reports, its sample parameters, its role and parent, its pushes; then it
is answered (R188, R189, R193, R393). -/
def State.acceptJoin (s : State) (a node seq hop : Nat) (payload : List Byte) : State :=
  let t := if s.entryState a = 6 then s else s.rset a 0x18 1 2
  let t := (t.rset a 0x24 4 (leNat (payload.take 4))).rset a 0x20 2 (leNat ((payload.drop 12).take 2))
  let t := t.engineSeen a (leNat ((payload.drop 4).take 8)) none
  let t := t.assignSample a
  let x := t.lantern a
  let t := t.setLantern a { x with router := t.entryFlag a 3, lastTry := none, candidate := none }
  let t := (t.rset a 0x1E 2 (if hop = 0 then 0 else 0xFFFF)).rset a 0x72 1 0
  let t := ((t.raisePush a 1).raisePush a 2).raisePush a 4
  let t := if t.on VAULT.NEXT_READY then { t with keyLeft := a :: t.keyLeft.filter (· ≠ a) } else t
  let t := (t.notice a 7).raise (t.cw.page 4) 1
  let t := { t with reg := { t.reg with roleDue := some t.base } }
  t.sendAccept node seq (t.acceptDesc node (t.joinKey a) (t.acceptPayload a))

/-- Whether the registry's services run: ENABLE is 1 and a wick holds AUTHOR (R210, R211). -/
def State.registryRuns (s : State) : Bool := s.authorRuns && s.on (HDR.ENABLE (s.cw.page 4))

/-- The lowest EMPTY entry a guest may take (R190). -/
def State.guestEntry (s : State) : Option Nat :=
  let b := s.get (REGISTRY.ROAM_BASE s.cw)
  ((List.range (0x1001 - b)).map (· + b)).find? (fun a => decide (1 ≤ a) && s.entryState a = 0)

/-- A guest is admitted under what its home module lent: its request must pass its MIC under the lent key (R190).
DESIGN CHOICE (log entry 75); PRESUMED (log entry 76). -/
def State.admitGuest (s : State) (f : RxFrame) (rssi : Nat) (lent : List Byte) : State :=
  let key := lent.take 16
  match f.openWith key with
  | none => (s.bump (LINK.MIC_ERR s.cw) 1).raise (s.cw.page 2) 2
  | some payload =>
    let roamFrom := leNat ((payload.drop 15).take 2)
    match s.guestEntry with
    | none => s.refuseJoin f.nodeId f.seq 2 key
    | some a =>
      let at_ := fun o n => leNat ((lent.drop o).take n)
      let base := tabRegistry.at (a - 1)
      let t := State.jot { s with reg := { s.reg with
        mem := ((s.reg.mem.clear base 128).write (base + 0x08) key).write (base + 0x44) ((lent.drop 28).take 32)
        lanterns := s.reg.lanterns.del a } }
      let t := ((((t.rset a 0x00 8 f.nodeId).rset a 0x18 1 6).rset a 0x22 2 roamFrom).rset a 0x28 8 (at_ 16 8)).rset a 0x30 4 (at_ 24 4)
      let t := (t.rset a 0x3C 4 (at_ 60 4)).rset a 0x40 4 (at_ 64 4)
      let t := t.setLantern a { t.lantern a with joinFcnt := some f.fcnt }
      let t := (t.heard a f.hop rssi).notice a 8
      let t := t.acceptJoin a f.nodeId f.seq f.hop payload
      t.fabPostRepeated 0x13 roamFrom f.nodeId (leBytes 8 f.nodeId ++ leBytes 2 (t.get (FABRIC.SEG_ID t.cw)))

/-- The accept kept for a repeat of a request: the same NODE_ID and SEQ within 4 s (R189). -/
def State.keptAccept (s : State) (f : RxFrame) : Option KeptAccept :=
  s.reg.accepts.find? (fun k => k.nodeId = f.nodeId && k.seq = f.seq && decide (s.base ≤ k.due))

/-- A kept accept is sent again, and nothing changes (R189). -/
def State.repeatAccept (s : State) (k : KeptAccept) : State := s.submit { k.desc with notAfter := s.now + 32768 }

/-- A JOIN_REQUEST of an unknown node: a repeat of one that was refused is answered with the same accept; another is discarded, answered
from a kept answer, or looked up (R188 to R190). DESIGN CHOICE (log entry 75). -/
def State.joinUnknown (s : State) (f : RxFrame) (rssi : Nat) : State :=
  let roam := Config.roamFrom f.psdu
  if let some k := (s.keptAccept f).filter (fun k => (f.openWith k.desc.joinKey).isSome) then s.repeatAccept k
  else if roam % 65536 = 0xFFFF ∨ s.on (REGISTRY.ROAM_ACCEPT s.cw) = false then s.bump (REGISTRY.JOIN_UNKNOWN_CNT s.cw) 1
  else
    match s.reg.answers.find? (fun x => x.nodeId = f.nodeId && decide (s.base < x.due)) with
    | some x =>
      (match x.lent with
       | some l => s.admitGuest f rssi l
       | none => s.bump (REGISTRY.JOIN_UNKNOWN_CNT s.cw) 1)
    | none =>
      let t := { s with reg := { s.reg with lookups := s.reg.lookups ++
        [({ nodeId := f.nodeId, seq := f.seq, rssi := rssi, frame := f.psdu, roamFrom := roam % 65536, due := s.base + secs 3 } : JoinReq)] } }
      t.fabPostSeg 0x11 (roam % 65536) (leBytes 8 f.nodeId ++ leBytes 2 (t.get (FABRIC.SEG_ID t.cw)))

/-- A JOIN_REQUEST that has passed steps 1 and 2 is judged (R188, R189, R141). DESIGN CHOICE (log entry 75). -/
def State.joinRequest (s : State) (f : RxFrame) (rssi : Nat) : State :=
  if s.registryRuns = false then s
  else
    match s.findNode f.nodeId with
    | none => s.joinUnknown f rssi
    | some a =>
      match f.openWith (s.joinKey a) with
      | none => (s.bump (LINK.MIC_ERR s.cw) 1).raise (s.cw.page 2) 2
      | some payload =>
        let last := (s.lantern a).joinFcnt
        if last = some f.fcnt then s.bump (LINK.DUP_CNT s.cw) 1
        else if (match last with | some v => decide (f.fcnt < v) | none => false) then
          (s.bump (LINK.REPLAY_CNT s.cw) 1).raise (s.cw.page 2) 3
        else
          let s := s.setLantern a { s.lantern a with joinFcnt := some f.fcnt }
          match s.keptAccept f with
          | some k => s.repeatAccept k
          | none =>
            let st := s.entryState a
            let t := s.heard a f.hop rssi
            if st = 3 then t.refuseJoin f.nodeId f.seq 3 (t.joinKey a)
            else if st = 4 then t.refuseJoin f.nodeId f.seq 1 (t.joinKey a)
            else t.acceptJoin a f.nodeId f.seq f.hop payload

/-! ### Lookups between modules (R190, R191) -/

/-- GUEST_LOOKUP_TIMEOUT: the requests whose 3 s have passed without a positive answer are discarded. DESIGN CHOICE (log entry 77). -/
def doGuestLookupTimeout (s : State) : State :=
  let (go, stay) := s.reg.lookups.partition (fun r => decide (r.due ≤ s.base))
  { s with reg := { s.reg with lookups := stay } }.bump (REGISTRY.JOIN_UNKNOWN_CNT s.cw) go.length

/-- GUEST_LOOKUP_TIMEOUT. -/
def execGuestLookupTimeout (s : State) : Host.Outcome State Fault Refusal := .next (doGuestLookupTimeout s)

/-- REG_QUERY_RECEIVED: a positive answer lends the entry, a negative one says only that, and so
does a SNOWDROP wick's (R190, R346, R356). DESIGN CHOICE (log entry 212). -/
def doRegQueryReceived (node fromSeg : Nat) (s : State) : State :=
  match s.findNode node with
  | some a =>
    if s.authorRuns && (s.entryState a = 1 || s.entryState a = 2 || s.entryState a = 5) && s.entryFlag a 0 then
      s.fabPostSeg 0x12 fromSeg (leBytes 8 node ++ leBytes 1 0 ++ s.joinKey a ++ leBytes 8 (s.rget a 0x28 8) ++
        leBytes 4 (s.rget a 0x30 4) ++ s.reg.mem.read (tabRegistry.at (a - 1) + 0x44) 32 ++ leBytes 4 (s.rget a 0x3C 4) ++
        leBytes 4 (s.rget a 0x40 4))
    else s.fabPostSeg 0x12 fromSeg (leBytes 8 node ++ leBytes 1 1)
  | none => s.fabPostSeg 0x12 fromSeg (leBytes 8 node ++ leBytes 1 1)

/-- REG_QUERY_RECEIVED. -/
def execRegQueryReceived (node : BitVec 64) (fromSeg : BitVec 16) (s : State) : Host.Outcome State Fault Refusal :=
  .next (doRegQueryReceived node.toNat fromSeg.toNat s)

/-- REG_ANSWER_RECEIVED: the answer is kept for 600 s; a positive one admits the guest whose request waits (R190).
DESIGN CHOICE (log entries 77, 212). -/
def doRegAnswerReceived (node : Nat) (lent : Option (List Byte)) (s : State) : State :=
  let t := { s with reg := { s.reg with answers :=
    { nodeId := node, lent := lent, due := s.base + secs 600 } :: s.reg.answers.filter (fun x => x.nodeId ≠ node) } }
  match lent, s.reg.lookups.find? (fun r => s.registryRuns && r.nodeId = node && decide (s.base < r.due)) with
  | some l, some r =>
    let t := { t with reg := { t.reg with lookups := t.reg.lookups.filter (fun r => r.nodeId ≠ node) } }
    (match parseFrame r.frame with
     | some f => t.admitGuest f r.rssi l
     | none => t)
  | _, _ => t

/-- REG_ANSWER_RECEIVED; `lent` holds what a positive answer carries after RESULT. -/
def execRegAnswerReceived (node : BitVec 64) (lent : Option (List Byte)) (s : State) : Host.Outcome State Fault Refusal :=
  .next (doRegAnswerReceived node.toNat lent s)

/-- REG_ANSWER_EXPIRY: the kept answers whose 600 s have passed are dropped (R190). -/
def execRegAnswerExpiry (s : State) : Host.Outcome State Fault Refusal :=
  .next { s with reg := { s.reg with answers := s.reg.answers.filter (fun x => decide (s.base < x.due)) } }

/-- GUEST_IN_RECEIVED: the home entry becomes AWAY, and its lantern counts as NOT_HEARD no longer; the message is acknowledged, a repeat
changes nothing (R190, R346). DESIGN CHOICE (log entry 212). -/
def doGuestInReceived (osrc node seg : Nat) (s : State) : State :=
  let t := match s.findNode node with
    | some a =>
      if s.entryState a = 1 ∨ s.entryState a = 2 ∨ s.entryState a = 5 then ((s.rset a 0x18 1 5).rset a 0x22 2 seg).setPending a 5 false else s
    | none => s
  t.fabAck osrc 0x13 node

/-- GUEST_IN_RECEIVED. -/
def execGuestInReceived (osrc : BitVec 16) (node : BitVec 64) (seg : BitVec 16) (s : State) : Host.Outcome State Fault Refusal :=
  .next (doGuestInReceived osrc.toNat node.toNat seg.toNat s)

/-- RETURN_REQUEST_DUE: the module has held AUTHOR for RETURN_S and asks for an AWAY lantern back (R191). -/
def doReturnRequestDue (a : Nat) (s : State) : State :=
  let r := s.get (REGISTRY.RETURN_S s.cw)
  match s.authorSince with
  | some since =>
    if s.entryState a = 5 ∧ s.rget a 0x22 2 ≠ 0xFFFF ∧ r ≠ 0 ∧ since + secs r ≤ s.base ∧
        s.fab.repeats.any (fun x => x.ltype = 0x14 && x.nodeId = s.nodeId a) = false then
      s.fabPostRepeated 0x14 (s.rget a 0x22 2) (s.nodeId a) (leBytes 8 (s.nodeId a))
    else s
  | none => s

/-- RETURN_REQUEST_DUE. -/
def execReturnRequestDue (a : BitVec 16) (s : State) : Host.Outcome State Fault Refusal := .next (doReturnRequestDue a.toNat s)

/-- An entry is erased; a LEAVE that is still to be sent goes out from a retained copy (R186). -/
def State.eraseEntry (s : State) (a : Nat) (retain : Bool) : State :=
  let kept := (s.reg.mem.entry tabRegistry (a - 1), s.lantern a)
  let t := s.keyDone a
  { t with reg := { t.reg with
      mem := t.reg.mem.clear (tabRegistry.at (a - 1)) 128
      gen := (t.reg.gen + 1) % 2 ^ 32
      lanterns := t.reg.lanterns.del a
      retained := if retain then t.reg.retained.put a kept else t.reg.retained }
           attr := { t.attr with bases := t.attr.bases.del a } }.jot

/-- RETURN_REQ_RECEIVED: the guest is sent LEAVE, its entry is erased, the release is confirmed (R191). PRESUMED (log entry 76). -/
def doReturnReqReceived (osrc node : Nat) (s : State) : State :=
  let t := match s.findNode node with
    | some a =>
      if s.entryState a = 6 then
        let seg := s.rget a 0x22 2
        let t := ((s.sendLeave a).eraseEntry a true).notice a 9
        t.fabPostRepeated 0x15 seg node (leBytes 8 node)
      else s
    | none => s
  t.fabAck osrc 0x14 node

/-- RETURN_REQ_RECEIVED. -/
def execReturnReqReceived (osrc : BitVec 16) (node : BitVec 64) (s : State) : Host.Outcome State Fault Refusal :=
  .next (doReturnReqReceived osrc.toNat node.toNat s)

/-- RETURN_CONF_RECEIVED: the guest stay has ended; the entry stays AWAY until its lantern is heard (R191). -/
def doReturnConfReceived (osrc node : Nat) (s : State) : State :=
  let t := match s.findNode node with
    | some a => if s.entryState a = 5 then s.rset a 0x22 2 0xFFFF else s
    | none => s
  t.fabAck osrc 0x15 node

/-- RETURN_CONF_RECEIVED. -/
def execReturnConfReceived (osrc : BitVec 16) (node : BitVec 64) (s : State) : Host.Outcome State Fault Refusal :=
  .next (doReturnConfReceived osrc.toNat node.toNat s)

/-! ### Roles and parents (R193) -/

/-- Whether a lantern is heard directly and strongly enough. -/
def State.direct (s : State) (a : Nat) : Bool := (s.lantern a).hops = some 0 && decide ((s.lantern a).rssi ≤ 95)

/-- The candidates a lantern may take as its parent at a depth: neighbour and RSSI. -/
def State.parentCands (s : State) (known : Map (Nat × Nat)) (a d : Nat) : List (Nat × Nat) :=
  (s.lantern a).neighbours.filter (fun n =>
    s.registered n.1 && bit (s.rget n.1 0x20 2) 1 && decide (n.2 ≤ 95) && !s.entryFlag n.1 2 &&
    (match known.get? n.1 with | some x => x.1 = d | none => false))

/-- One depth of the computation over the lanterns in address order: depth and parent of those found. DEDUCED (log entry 181). -/
def State.parentsAt (s : State) (d : Nat) (known : Map (Nat × Nat)) : Map (Nat × Nat) :=
  s.registeredList.foldl (fun k a =>
    if k.has a then k
    else match leastOn? (fun n => n.2 * 65536 + n.1) (s.parentCands known a d) with
      | some n => k.put a (d + 1, n.1)
      | none => k) known

/-- The depths and parents the algorithm finds: the lanterns heard directly stand at depth 0 before the first round.
DEDUCED (log entry 181). -/
def State.parents (s : State) : Map (Nat × Nat) :=
  (List.range (s.cfgGet (LINK.MAX_TTL .a) - 1)).foldl (fun k d => s.parentsAt d k)
    ((s.registeredList.filter s.direct).map (fun a => (a, 0, 0)))

/-- A lantern's new role and parent: applied and pushed when the previous round found the same (R193). -/
def State.applyRole (s : State) (a : Nat) (r : Bool × Nat) : State :=
  let x := s.lantern a
  if (x.router, s.parent a) = r then s.setLantern a { x with candidate := none }
  else if x.candidate = some r then
    ((s.setLantern a { x with candidate := none, router := r.1 }).rset a 0x1E 2 r.2).raisePush a 0
  else s.setLantern a { x with candidate := some r }

/-- ROLE_RECOMPUTE. -/
def doRoleRecompute (s : State) : State :=
  if s.registryRuns && s.on (REGISTRY.AUTO_ROLE s.cw) &&
      (match s.reg.roleDue with | some d => decide (d ≤ s.base) | none => true) then
    let k := s.parents
    let parentOf := fun a => match k.get? a with | some x => x.2 | none => 0xFFFF
    let l := s.registeredList
    let t := l.foldl (fun t a =>
      t.applyRole a (s.entryFlag a 3 || (l.any (fun x => parentOf x = a) && !s.entryFlag a 2), parentOf a)) s
    { t with reg := { t.reg with roleDue := some (t.base + secs 900) } }
  else s

/-- ROLE_RECOMPUTE. -/
def execRoleRecompute (s : State) : Host.Outcome State Fault Refusal := .next (doRoleRecompute s)

/-! ### Faults (R194, R195) -/

/-- The raises of a bit in the window. -/
def Lantern.raises (x : Lantern) (n : Nat) : Nat := (x.faultCounts.getD n []).sum

/-- Bits become lasting: one notice and one event (R195). -/
def State.faultLasting (s : State) (a word : Nat) : State :=
  if word = 0 then s
  else
    ((s.rset a 0x66 2 (s.rget a 0x66 2 ||| word)).notice a 1).event s.srcCtl 0x0601 [a, word, (s.lantern a).detail]

/-- FAULT_LAST_S_EXPIRY: a bit that has been active for LAST_S becomes lasting. -/
def doFaultLastSExpiry (a n : Nat) (s : State) : State :=
  match (s.lantern a).activeSince.get? n with
  | some since =>
    if s.registryRuns = true ∧ since + secs (s.get (REGISTRY.LAST_S s.cw)) ≤ s.base ∧ bit (s.rget a 0x66 2) n = false then
      s.faultLasting a (2 ^ n)
    else s
  | none => s

/-- FAULT_LAST_S_EXPIRY. -/
def execFaultLastSExpiry (a : BitVec 16) (n : Fin 16) (s : State) : Host.Outcome State Fault Refusal :=
  .next (doFaultLastSExpiry a.toNat n.val s)

/-- A lantern's buckets rotate, and its lasting bits that have been inactive for 24 h below the threshold clear. -/
def State.rotateFaults (s : State) (a : Nat) : State :=
  let x := s.lantern a
  let x := { x with faultCounts := x.faultCounts.map (fun c => (c.1, (0 :: c.2).take 4)) }
  let thresh := s.get (REGISTRY.FAULT_THRESH s.cw)
  let clear := (List.range 16).foldl (fun n i =>
    if bit (s.rget a 0x66 2) i && decide (x.raises i < thresh) &&
        (match x.inactiveSince.get? i with | some b => decide (b + secs 86400 ≤ s.base) | none => false) then n + 2 ^ i else n) 0
  let t := s.setLantern a x
  if clear = 0 then t else (t.rset a 0x66 2 (t.rget a 0x66 2 - clear)).notice a 2

/-- FAULT_BUCKET_ROTATE: 6 h of the base have passed since the last rotation. -/
def doFaultBucketRotate (s : State) : State :=
  if s.reg.rotated + secs 21600 ≤ s.base then
    s.reg.lanterns.keys.foldl (fun t a => t.rotateFaults a) { s with reg := { s.reg with rotated := s.reg.rotated + secs 21600 } }
  else s

/-- FAULT_BUCKET_ROTATE. -/
def execFaultBucketRotate (s : State) : Host.Outcome State Fault Refusal := .next (doFaultBucketRotate s)

/-- A write of FAULT_ACK: the lasting bits and window counts of a lantern clear. -/
def doFaultAck (m : Master) (w : Wick) (a : Nat) (s : State) : State :=
  s.write m (w.page 4) 0x064 (s.controlCode w) (fun s =>
    if isLantern a && s.entryState a != 0 then
      (s.rset a 0x66 2 0).setLantern a { s.lantern a with faultCounts := [] }
    else s)

/-- FAULT_ACK. -/
def execFaultAck (m : Master) (w : Wick) (a : BitVec 16) (s : State) : Host.Outcome State Fault Refusal :=
  .next (doFaultAck m w a.toNat s)

/-- A FAULTS word reported by a lantern: activity of each bit (R195). -/
def State.faultWord (s : State) (a word : Nat) : State :=
  let x := s.lantern a
  let x := (List.range 16).foldl (fun x n =>
    if bit word n then
      { x with activeSince := if x.activeSince.has n then x.activeSince else x.activeSince.put n s.base
               inactiveSince := x.inactiveSince.del n }
    else
      { x with activeSince := x.activeSince.del n
               inactiveSince := if x.inactiveSince.has n then x.inactiveSince else x.inactiveSince.put n s.base }) x
  (s.setLantern a x).rset a 0x64 2 word

/-- A FAULT report: the active bits, the raises counted in the open bucket, the bits that reach the threshold (R195). -/
def State.faultReport (s : State) (a word raised detail : Nat) : State :=
  let t := s.faultWord a word
  let x := t.lantern a
  let x := { x with detail := detail }
  let x := (List.range 16).foldl (fun x n =>
    if bit raised n then
      { x with faultCounts := x.faultCounts.put n (match x.faultCounts.getD n [] with
          | [] => [1]
          | c :: r => min (c + 1) 15 :: r) }
    else x) x
  let t := t.setLantern a x
  let thresh := t.get (REGISTRY.FAULT_THRESH t.cw)
  let new := (List.range 16).foldl (fun k n =>
    if bit raised n && decide (thresh ≤ x.raises n) && !bit (t.rget a 0x66 2) n then k + 2 ^ n else k) 0
  t.faultLasting a new

/-! ### Silence and notices (R196, R211) -/

/-- NOT_HEARD_EXPIRY: no frame of a JOINED lantern has passed for SILENT_S. -/
def doNotHeardExpiry (a : Nat) (s : State) : State :=
  if s.registryRuns = true ∧ isLantern a = true ∧ s.entryState a = 2 ∧ s.pendingBit a 5 = false ∧
      (s.lantern a).heardBase + secs (s.get (REGISTRY.SILENT_S s.cw)) ≤ s.base then
    (s.setPending a 5 true).notice a 3
  else s

/-- NOT_HEARD_EXPIRY. -/
def execNotHeardExpiry (a : BitVec 16) (s : State) : Host.Outcome State Fault Refusal := .next (doNotHeardExpiry a.toNat s)

/-- A write of NOTICE_POP: the oldest notice is removed. -/
def doNoticePop (m : Master) (w : Wick) (s : State) : State :=
  s.write m (w.page 4) 0x064 (s.controlCode w) (fun s =>
    { s with reg := { s.reg with notices := s.reg.notices.drop 1 } }.jot)

/-- NOTICE_POP. -/
def execNoticePop (m : Master) (w : Wick) (s : State) : Host.Outcome State Fault Refusal := .next (doNoticePop m w s)

end Sys2Proof.Machine
end

