-- ==== Sys2Proof/Machine/Calendar.lean ====
section
/-! DEFINITION. Dates, local time and the sun: the formulas of R199 and R200, in whole numbers. -/

namespace Sys2Proof.Machine

/-! ### Dates -/

/-- The civil year, month and day of a day counted from 1970-01-01. -/
def civil (z : Int) : Int × Nat × Nat :=
  let z := z + 719468
  let era := z / 146097
  let doe := z - era * 146097
  let yoe := (doe - doe / 1460 + doe / 36524 - doe / 146096) / 365
  let doy := doe - (365 * yoe + yoe / 4 - yoe / 100)
  let mp := (5 * doy + 2) / 153
  let d := doy - (153 * mp + 2) / 5 + 1
  let m := if mp < 10 then mp + 3 else mp - 9
  (yoe + era * 400 + (if m ≤ 2 then 1 else 0), m.toNat, d.toNat)

/-- The day, counted from 1970-01-01, of a civil date. -/
def dayOf (y : Int) (m d : Nat) : Int :=
  let y := if m ≤ 2 then y - 1 else y
  let era := y / 400
  let yoe := y - era * 400
  let mp : Int := if 2 < m then (m : Int) - 3 else (m : Int) + 9
  let doy := (153 * mp + 2) / 5 + (d : Int) - 1
  era * 146097 + (yoe * 365 + yoe / 4 - yoe / 100 + doy) - 719468

/-- The weekday of a day: 0 Monday to 6 Sunday. -/
def weekday (z : Int) : Nat := ((z + 3) % 7).toNat

/-- The day of the n-th given weekday of a month; n of 5 means the last (R199). -/
def nthWeekday (y : Int) (m n wd : Nat) : Int :=
  let first := dayOf y m 1
  let next := if m = 12 then dayOf (y + 1) 1 1 else dayOf y (m + 1) 1
  let d := first + (((wd + 7 - weekday first) % 7 : Nat) : Int)
  if n = 5 then
    let last := next - 1
    last - (((weekday last + 7 - wd) % 7 : Nat) : Int)
  else d + 7 * ((n : Int) - 1)

/-! ### Local time (R199); minutes count from 1970-01-01 00:00 UTC -/

/-- UTC_OFF_MIN. -/
def Bank.utcOff (b : Bank) : Int := toSigned 16 (b.sget (SCHED.UTC_OFF_MIN .a))
/-- DST_MIN. -/
def Bank.dstMin (b : Bank) : Int := (b.sget (SCHED.DST_MIN .a) : Int)

/-- Whether the bank holds a daylight-saving rule: DST_MIN is not 0 and both months name a month. -/
def Bank.dstRule (b : Bank) : Bool :=
  b.dstMin != 0 && [0, 1].all (fun e => decide (1 ≤ b.sget (SCHED.DST_MONTH .a e) ∧ b.sget (SCHED.DST_MONTH .a e) ≤ 12))

/-- The UTC minute of DST_START (0) or DST_END (1) of a year. -/
def Bank.dstEdge (b : Bank) (y : Int) (e : Nat) : Int :=
  nthWeekday y (b.sget (SCHED.DST_MONTH .a e)) (b.sget (SCHED.DST_WEEK .a e)) (b.sget (SCHED.DST_WEEKDAY .a e)) * 1440 +
    (b.sget (SCHED.DST_MINUTE .a e) : Int) - b.utcOff - (if e = 1 then b.dstMin else 0)

/-- Whether daylight saving is in force at a UTC minute. -/
def Bank.dstOn (b : Bank) (u : Int) : Bool :=
  b.dstRule &&
  (let y := (civil ((u + b.utcOff) / 1440)).1
   let start := b.dstEdge y 0
   let stop := b.dstEdge y 1
   if start ≤ stop then decide (start ≤ u ∧ u < stop) else decide (start ≤ u ∨ u < stop))

/-- The offset of local time from UTC at a UTC minute. -/
def Bank.localOff (b : Bank) (u : Int) : Int := b.utcOff + (if b.dstOn u then b.dstMin else 0)

/-- The UTC minute of a local minute of a local day: a minute that does not occur runs at the change, one that occurs twice
at its first occurrence (R199). -/
def Bank.utcOf (b : Bank) (day t : Int) : Int :=
  let std := day * 1440 + t - b.utcOff
  let dst := std - b.dstMin
  if b.dstOn dst then dst
  else if b.dstOn std then b.dstEdge (civil day).1 0
  else std

/-- UTC in seconds since 1970 (R350). -/
def State.utcS (s : State) : Int :=
  (s.get2 TIME.EPOCH_S_LO TIME.EPOCH_S_HI : Int) + (s.now / 32768 : Nat) - (s.get TIME.UTC_OFF_S : Int)

/-- The segment time of a UTC minute (R350). -/
def State.segOf (s : State) (u : Int) : Nat :=
  ((u * 60 + (s.get TIME.UTC_OFF_S : Int) - (s.get2 TIME.EPOCH_S_LO TIME.EPOCH_S_HI : Int)) * 32768).toNat % 2 ^ 48

/-- The present UTC minute. -/
def State.utcMin (s : State) : Int := s.utcS / 60

/-- The present local minute, counted as UTC minutes are. -/
def State.localMin (s : State) : Int := s.utcMin + s.active.localOff s.utcMin

/-- The present local day. -/
def State.localDay (s : State) : Int := s.localMin / 1440

/-! ### Trigonometry in units of 10^-12 (DEDUCED: exact to far less than the rounding to a minute) -/

/-- One. -/
def fx : Int := 1000000000000

/-- π. -/
def fxPi : Int := 3141592653590

/-- The terms of the sine series after one. -/
def sinTerms (x2 : Int) : Nat → Int → Int → Int
  | 0, _, _ => 0
  | n + 1, k, term => term + sinTerms x2 n (k + 2) (-(term * x2 / fx) / ((k + 1) * (k + 2)))

/-- The sine of an angle in degrees. DEDUCED (log entry 82). -/
def sinDeg (a : Int) : Int :=
  let a := (a + 180 * fx) % (360 * fx) - 180 * fx
  let x := a * fxPi / (180 * fx)
  sinTerms (x * x / fx) 16 1 x

/-- The cosine of an angle in degrees. DEDUCED (log entry 82). -/
def cosDeg (a : Int) : Int := sinDeg (a + 90 * fx)

/-- Bisection of an interval: the lower half is kept while a test fails at the middle. -/
def bisect (above : Int → Bool) : Nat → Int → Int → Int
  | 0, lo, _ => lo
  | n + 1, lo, hi =>
    let mid := (lo + hi) / 2
    if above mid then bisect above n lo mid else bisect above n mid hi

/-- The angle in degrees, from -90 to 90, of a sine. DEDUCED (log entry 82). -/
def asinDeg (v : Int) : Int := bisect (fun a => decide (v < sinDeg a)) 50 (-90 * fx) (90 * fx)

/-- The angle in degrees, from 0 to 180, of a cosine. DEDUCED (log entry 82). -/
def acosDeg (v : Int) : Int := bisect (fun a => decide (cosDeg a < v)) 50 0 (180 * fx)

/-- The angle in degrees of a point. DEDUCED (log entry 82). -/
def atan2Deg (y x : Int) : Int :=
  let lo : Int := if 0 ≤ x then (if 0 ≤ y then 0 else -90) else (if 0 ≤ y then 90 else -180)
  bisect (fun a => decide (y * cosDeg a - x * sinDeg a < 0)) 50 (lo * fx) ((lo + 90) * fx)

/-- An angle in the interval (-180, 180]. -/
def wrap180 (a : Int) : Int :=
  let r := a % (360 * fx)
  if 180 * fx < r then r - 360 * fx else r

/-! ### The sun (R200) -/

/-- An event of a local day in local minutes from its start; none where it is absent. `z` is in thousandths of a degree.
DEDUCED (log entries 82, 83). -/
def Bank.sunEvent (b : Bank) (day : Int) (rise : Bool) (z : Int) : Option Int :=
  let lat := toSigned 32 (b.sget (SCHED.LAT_UDEG .a)) * 1000000
  let lon := toSigned 32 (b.sget (SCHED.LON_UDEG .a)) * 1000000
  let d := (b.utcOf day 720 - 15778800) * fx / 1440
  let g := 357528 * fx / 1000 + 9856003 * d / 10000000
  let q := 280459 * fx / 1000 + 98564736 * d / 100000000
  let lam := q + 1915 * sinDeg g / 1000 + 20 * sinDeg (2 * g) / 1000
  let eps := 23439 * fx / 1000 - 36 * d / 100000000
  let dec := asinDeg (sinDeg eps * sinDeg lam / fx)
  let ra := atan2Deg (cosDeg eps * sinDeg lam / fx) (cosDeg lam)
  let noon := 720 * fx - 4 * lon - 4 * wrap180 (q - ra)
  let num := cosDeg (z * fx / 1000) - sinDeg lat * sinDeg dec / fx
  let den := cosDeg lat * cosDeg dec / fx
  if den = 0 ∨ den.natAbs < num.natAbs then none
  else
    let h := acosDeg (num * fx / den)
    let m := ((if rise then noon - 4 * h else noon + 4 * h) + fx / 2) / fx
    some (m + b.localOff (day * 1440 + m))

/-- An event by its BASE code: 1 SUNSET, 2 SUNRISE, 3 CIVIL_DUSK, 4 CIVIL_DAWN (R198, R200). -/
def Bank.event (b : Bank) (day : Int) (base : Nat) : Option Int :=
  if base = 1 then b.sunEvent day false 90833
  else if base = 2 then b.sunEvent day true 90833
  else if base = 3 then b.sunEvent day false 96000
  else b.sunEvent day true 96000

end Sys2Proof.Machine
end

