-- ==== Sys2Proof/Machine/Sched.lean ====
section
/-! DEFINITION. The schedule service: its tables, validation, the resolution of a day, step broadcasts, contactor steps, refreshes, and the pushes to single lanterns (R193, R197 to R204, R210, R373 to R375). -/

namespace Sys2Proof.Machine

/-! ### Contactor outputs (R374, R375) -/

/-- KO_OUT takes a value. -/
def State.setKo (s : State) (v : Nat) : State :=
  let t := s.set CABINET_IO.KO_OUT v
  t.armKf (Nat.xor s.koState t.koState)

/-! ### The tables (R198) -/

/-- A number in a program entry. -/
def Bank.prog (b : Bank) (p off n : Nat) : Nat := b.mem.field tabPrograms p off n
/-- Whether a program is enabled. -/
def Bank.progOn (b : Bank) (p : Nat) : Bool := bit (b.prog p 0 1) 0
/-- TARGET of a program. -/
def Bank.progTarget (b : Bank) (p : Nat) : Nat := b.prog p 2 2
/-- FADE of a program. -/
def Bank.progFade (b : Bank) (p : Nat) : Nat := b.prog p 8 2
/-- The step indices of a program. -/
def Bank.progSteps (b : Bank) (p : Nat) : List Nat := (List.range (b.prog p 6 1)).map (· + b.prog p 4 2)
/-- The enabled programs, in rising order. -/
def Bank.programs (b : Bank) : List Nat := (List.range 64).filter b.progOn

/-- A number in a step entry. -/
def Bank.step (b : Bank) (i off n : Nat) : Nat := b.mem.field tabSteps i off n
/-- A number in an exception entry. -/
def Bank.exc (b : Bank) (i off n : Nat) : Nat := b.mem.field tabExceptions i off n

/-- Whether a program entry's fields lie in their ranges. -/
def Bank.progOk (b : Bank) (p : Nat) : Bool :=
  b.mem.entryEmpty tabPrograms p ||
  (bits (b.prog p 0 1) 2 6 = 0 && b.prog p 1 1 = 0 && isMulti (b.progTarget p) && decide (b.prog p 4 2 ≤ 511) &&
   decide (1 ≤ b.prog p 6 1 ∧ b.prog p 6 1 ≤ 8) && b.prog p 7 1 = 0 && decide (b.progFade p ≤ 6000) && b.prog p 10 6 = 0 &&
   (!b.progOn p || decide (b.prog p 4 2 + b.prog p 6 1 ≤ 512)))

/-- Whether a step entry's fields lie in their ranges. -/
def Bank.stepOk (b : Bank) (i : Nat) : Bool :=
  let base := b.step i 0 1
  let off := toSigned 16 (b.step i 2 2)
  decide (base ≤ 4) && decide (1 ≤ b.step i 1 1 ∧ b.step i 1 1 < 128) &&
  (if base = 0 then decide (0 ≤ off ∧ off ≤ 1439) else decide (-720 ≤ off ∧ off ≤ 720)) &&
  (decide (b.step i 4 2 ≤ 1000) || b.step i 4 2 = 0xFFFF) && b.step i 7 1 = 0

/-- Whether an exception entry is sound: an unused one is. -/
def Bank.excOk (b : Bank) (i : Nat) : Bool :=
  let act := b.exc i 5 1
  let arg := b.exc i 6 1
  act = 0 ||
  (decide (act ≤ 3) && (b.exc i 0 2 = 0 || decide (2000 ≤ b.exc i 0 2 ∧ b.exc i 0 2 ≤ 2199)) &&
   decide (1 ≤ b.exc i 2 1 ∧ b.exc i 2 1 ≤ 12) && decide (1 ≤ b.exc i 3 1 ∧ b.exc i 3 1 ≤ 31) && b.exc i 7 1 = 0 &&
   (b.exc i 4 1 = 0xFF || (decide (b.exc i 4 1 < 64) && !b.mem.entryEmpty tabPrograms (b.exc i 4 1))) &&
   (if act = 1 then decide (arg < 64) && b.prog arg 6 1 != 0
    else if act = 2 then decide (-100 ≤ toSigned 8 arg ∧ toSigned 8 arg ≤ 100) else true))

/-- The lantern addresses a target names under a bank's group map. -/
def Bank.targetSet (b : Bank) (target : Nat) : List Nat :=
  if target = 0xFFFF then (List.range 4096).map (· + 1)
  else ((b.mem.used tabGroups).map (· + 1)).filter (b.names target)

/-- Whether the targets of two enabled programs share a lantern. -/
def Bank.targetsClash (b : Bank) : Bool :=
  b.programs.any (fun p => b.programs.any (fun q =>
    decide (p < q) &&
    (let tp := b.progTarget p
     let tq := b.progTarget q
     if tp = 0xFFFF then b.targetSet tq != []
     else if tq = 0xFFFF then b.targetSet tp != []
     else (b.targetSet tp).any (b.names tq))))

/-- Whether the register fields of the local time lie in their ranges; those of a daylight saving that is disabled are not judged (R198,
R212). DEDUCED (log entry 200). -/
def Bank.localOk (b : Bank) : Bool :=
  let lon := toSigned 32 (b.sget (SCHED.LON_UDEG .a))
  decide (-180000000 ≤ lon ∧ lon ≤ 180000000) && decide (-840 ≤ b.utcOff ∧ b.utcOff ≤ 840) && decide (b.dstMin ≤ 120) &&
  (b.dstMin == 0 || [0, 1].all (fun e =>
    decide (1 ≤ b.sget (SCHED.DST_MONTH .a e) ∧ b.sget (SCHED.DST_MONTH .a e) ≤ 12) &&
    decide (1 ≤ b.sget (SCHED.DST_WEEK .a e) ∧ b.sget (SCHED.DST_WEEK .a e) ≤ 5) &&
    decide (b.sget (SCHED.DST_WEEKDAY .a e) ≤ 6) && decide (b.sget (SCHED.DST_MINUTE .a e) ≤ 1439)))

/-- Validation of content type 0 (R198). -/
def Bank.schedOk (b : Bank) : Bool :=
  (List.range 64).all b.progOk && (b.mem.used tabSteps).all b.stepOk &&
  b.programs.all (fun p => (b.progSteps p).all b.stepOk) && (b.mem.used tabExceptions).all b.excOk && !b.targetsClash &&
  decide (-72000000 ≤ toSigned 32 (b.sget (SCHED.LAT_UDEG .a)) ∧ toSigned 32 (b.sget (SCHED.LAT_UDEG .a)) ≤ 72000000) && b.localOk

/-! ### A day's steps (R199) -/

/-- The exception of a program on a day. -/
def Bank.excOf (b : Bank) (p : Nat) (day : Int) : Option Nat :=
  let (y, m, d) := civil day
  (b.mem.used tabExceptions).find? (fun i =>
    b.exc i 5 1 != 0 && (b.exc i 0 2 = 0 || decide ((b.exc i 0 2 : Int) = y)) && b.exc i 2 1 = m && b.exc i 3 1 = d &&
    (b.exc i 4 1 = p || b.exc i 4 1 = 0xFF))

/-- What becomes of one step on a day: its local minute, absent, outside the day, or not for this weekday. -/
inductive Placed where
  | at_ (t : Int)
  | absent
  | clipped
  | skipped
deriving DecidableEq, Repr

/-- Where a step falls on a day. -/
def Bank.place (b : Bank) (day : Int) (replace : Bool) (i : Nat) : Placed :=
  let base := b.step i 0 1
  let off := toSigned 16 (b.step i 2 2)
  if !replace && !bit (b.step i 1 1) (weekday day) then .skipped
  else
    let t := if base = 0 then some off else (b.event day base).map (· + off)
    match t with
    | none => .absent
    | some t => if t < 0 ∨ 1440 ≤ t then .clipped else .at_ t

/-- The steps a program has on a day: their indices, whether they stand for it under REPLACE, the level change of OFFSET. -/
def Bank.dayPlan (b : Bank) (p : Nat) (day : Int) : List Nat × Bool × Int :=
  match b.excOf p day with
  | none => (b.progSteps p, false, 0)
  | some i =>
    if b.exc i 5 1 = 1 then (b.progSteps (b.exc i 6 1), true, 0)
    else if b.exc i 5 1 = 2 then (b.progSteps p, false, 10 * toSigned 8 (b.exc i 6 1))
    else ([], false, 0)

/-- The level of a step under an OFFSET. -/
def offsetLevel (level : Nat) (off : Int) : Nat :=
  if level = 0xFFFF then level else (max 0 (min 1000 ((level : Int) + off))).toNat

/-- The resolved steps of a program on a day, in order of time; of two at the same minute the higher index is kept. -/
def State.resolve1 (s : State) (b : Bank) (p : Nat) (day : Int) : List DayStep :=
  let (l, rep, off) := b.dayPlan p day
  let placed := l.filterMap (fun i =>
    match b.place day rep i with
    | .at_ t => some ({ program := p, step := i, minute := t.toNat, at_ := s.segOf (b.utcOf day t)
                        level := offsetLevel (b.step i 4 2) off, ko := b.step i 6 1, sent := false, done := false } : DayStep)
    | _ => none)
  sortOn DayStep.minute (placed.filter (fun x => !placed.any (fun y => y.minute = x.minute && decide (x.step < y.step))))

/-- The number of a program's steps that a day leaves out for a reason. -/
def Bank.leftOut (b : Bank) (p : Nat) (day : Int) (why : Placed) : Nat :=
  let (l, rep, _) := b.dayPlan p day
  (l.filter (fun i => b.place day rep i = why)).length

/-- UTC_OK. DEDUCED (log entry 84). -/
def State.utcOk (s : State) : Bool := s.on TIME.TRUSTED

/-- Whether the schedule service runs: a controller, ENABLE 1 (R201, R210). -/
def State.schedRuns (s : State) : Bool := s.controllerRuns && s.on (HDR.ENABLE (s.cw.page 5))

/-- The minute a register shows for an event: 0x7FF where it is absent. -/
def eventMin (e : Option Int) : Nat :=
  match e with
  | some m => ofSigned 11 m
  | none => 0x7FF

/-- The steps of the day after a day whose broadcast falls due before that day begins, or whose instant is its beginning (R201).
DEDUCED (log entry 84). -/
def State.earlySteps (s : State) (b : Bank) (day : Int) : List DayStep :=
  let start := s.segOf (b.utcOf (day + 1) 0)
  (b.programs.flatMap (fun p => s.resolve1 b p (day + 1))).filter (fun x => decide (x.at_ ≤ start + 32768 * b.sget (SCHED.LEAD_S .a)))

/-- A newly resolved step: what a step of the same instant has done stays done; one whose instant has passed is not run again.
DEDUCED (log entry 84). -/
def State.carryStep (s : State) (x : DayStep) : DayStep :=
  match s.reg.daySteps.find? (fun y => y.program = x.program && y.step = x.step && y.at_ = x.at_) with
  | some y => { x with sent := y.sent, done := y.done }
  | none => if x.at_ < s.now then { x with sent := true, done := true } else x

/-- DAILY_RESOLUTION: the events and every enabled program's steps of the present local day, with those of the next that begin before it
is resolved (R199 to R201). DEDUCED (log entry 84). -/
def doDailyResolution (s : State) : State :=
  let day := s.localDay
  if s.schedRuns && s.utcOk && (s.reg.day != some day) then
    let w := s.cw
    let b := s.active
    let steps := b.programs.flatMap (fun p => s.resolve1 b p day)
    let steps := (steps ++ s.earlySteps b day).map s.carryStep
    let events := [1, 2, 3, 4].map (b.event day)
    let absent := events.any (·.isNone)
    let t := State.jot { s with reg := { s.reg with daySteps := steps, day := some day, sun := events.map eventMin ++ [b2n absent] } }
    let t := t.bump (SCHED.ABSENT_CNT w) ((b.programs.map (fun p => b.leftOut p day .absent)).sum)
    let t := t.bump (SCHED.CLIPPED_CNT w) ((b.programs.map (fun p => b.leftOut p day .clipped)).sum)
    if absent then t.raise (w.page 5) 2 else t
  else s

/-- DAILY_RESOLUTION. -/
def execDailyResolution (s : State) : Host.Outcome State Fault Refusal := .next (doDailyResolution s)

/-- ASTRO_OK: the controller has computed the events of the present day (R210, R212). -/
def State.astroOk (s : State) (w : Wick) : Bool := s.isController w && decide (s.reg.day = some s.localDay)

/-! ### Running the steps (R201) -/

/-- Whether resolved steps are run: the service runs, UTC is known, and the steps are those of the active bank (R201). -/
def State.stepsRun (s : State) : Bool := s.schedRuns && s.utcOk && s.reg.day.isSome

/-- STEP_BROADCAST: the steps whose lead has come are submitted, unless their NOT_AFTER has passed (R201, R210). -/
def doStepBroadcast (s : State) : State :=
  if s.stepsRun then
    let lead := 32768 * s.cfgGet (SCHED.LEAD_S .a)
    let dueNow := fun (x : DayStep) => !x.sent && x.level != 0xFFFF && decide (x.at_ ≤ s.now + lead)
    let t := (s.reg.daySteps.filter (fun x => dueNow x && decide (s.now + 32768 ≤ x.at_))).foldl (fun t x =>
      t.submit (groupCommand .step (t.active.progTarget x.program) 0x02
        (leBytes 2 x.level ++ leBytes 2 (t.active.progFade x.program) ++ leBytes 4 x.at_) 2 0 (x.at_ - 32768))) s
    { t with reg := { t.reg with daySteps := t.reg.daySteps.map (fun x => if dueNow x then { x with sent := true } else x) } }
  else s

/-- STEP_BROADCAST. -/
def execStepBroadcast (s : State) : Host.Outcome State Fault Refusal := .next (doStepBroadcast s)

/-- STEP_INSTANT: the steps whose instant has come raise STEP and set their contactors; the higher program number wins. -/
def doStepInstant (s : State) : State :=
  let dueNow := fun (x : DayStep) => !x.done && decide (x.at_ ≤ s.now)
  if s.stepsRun && s.reg.daySteps.any dueNow then
    let ko := (sortOn (fun x => x.at_ * 64 + x.program) (s.reg.daySteps.filter dueNow)).foldl (fun v x =>
      (List.range 4).foldl (fun v n =>
        if bit x.ko n && !bit (s.get CABINET_IO.KO_HOST_MASK) n then setBits v n 1 (bits x.ko (4 + n) 1) else v) v)
      (s.get CABINET_IO.KO_OUT)
    let t := State.jot { s with reg := { s.reg with
      daySteps := s.reg.daySteps.map (fun x => if dueNow x then { x with done := true } else x) } }
    let t := if s.on (SCHED.KO_EN s.cw) then t.setKo ko else t
    t.raise (s.cw.page 5) 0
  else s

/-- STEP_INSTANT. -/
def execStepInstant (s : State) : Host.Outcome State Fault Refusal := .next (doStepInstant s)

/-! ### Plans on the lanterns (R203, R204) -/

/-- The args of SCHED_DAYS of a program: six days from the present one. -/
def State.schedDays (s : State) (p : Nat) : List Byte :=
  let b := s.active
  let day := s.localDay
  let start := s.segOf (b.utcOf day 0)
  leBytes 1 p ++ leBytes 4 start ++ leBytes 2 (b.progFade p) ++ leBytes 1 (bits (b.prog p 0 1) 1 1) ++ leBytes 1 6 ++
  (List.range 6).flatMap (fun n =>
    let steps := (s.resolve1 b p (day + (n : Int))).filter (fun x => x.level != 0xFFFF)
    let from_ := (start : Int) + (n : Int) * 2831155200
    leBytes 1 steps.length ++
    steps.flatMap (fun x => leBytes 2 (ofSigned 16 (((x.at_ : Int) - from_) / 1966080)) ++ leBytes 2 x.level))

/-- SCHED_REFRESH: at REFRESH_MIN of the local day every enabled program's plan is sent to its target. DEDUCED (log entry 85). -/
def doSchedRefresh (s : State) : State :=
  if s.schedRuns && s.authorRuns && s.utcOk && (s.reg.refreshed != some s.localDay) &&
      decide ((s.cfgGet (SCHED.REFRESH_MIN .a) : Int) ≤ s.localMin - 1440 * s.localDay) then
    let t := s.active.programs.foldl (fun t p =>
      t.submit (groupCommand (.refresh p) (t.active.progTarget p) 0x40 (s.schedDays p) 2 0 0)) s
    ({ t with reg := { t.reg with refreshed := some s.localDay } } : State).jot.raise (s.cw.page 5) 3
  else s

/-- SCHED_REFRESH. -/
def execSchedRefresh (s : State) : Host.Outcome State Fault Refusal := .next (doSchedRefresh s)

/-- After a swap that changes its plan, a program's target is sent it as a group transaction with answers (R204). DEDUCED (log entry 85). -/
def State.sendPlan (s : State) (p : Nat) : State :=
  s.submit { groupCommand (.refresh p) (s.active.progTarget p) 0x40 (s.schedDays p) 0 0 0 with ackReq := true, respWin := 50 }

/-- The enabled program that covers a lantern. -/
def Bank.programFor (b : Bank) (a : Nat) : Option Nat := b.programs.find? (fun p => b.names (b.progTarget p) a)

/-! ### Pushes (R193) -/

/-- The command that delivers a pending push: bits as PENDING numbers them, 6 for KEY_NEXT (R393). -/
def State.pushDesc (s : State) (a n : Nat) : Option Desc :=
  if n = 6 then
    let e := (s.get VAULT.SEG_EPOCH + 1) % 256
    if a ∈ s.keyLeft ∧ s.keys.has (2 + e % 2) = true then some (pushCommand (.keyPush a) a 0x08 (leBytes 1 e ++ s.segKey e)) else none
  else if s.pendingBit a n = false then none
  else if n = 0 then some (pushCommand (.push a 0) a 0x06 (s.paramsArgs a))
  else if n = 1 then some (pushCommand (.push a 1) a 0x05 (s.groupsArgs a))
  else if n = 2 then
    match s.active.programFor a with
    | some p => if s.utcOk then some (pushCommand (.push a 2) a 0x40 (s.schedDays p)) else none
    | none => some (pushCommand (.push a 2) a 0x41 [])
  else if n = 3 then some (pushCommand (.push a 3) a 0x49 (s.cloArgs a))
  else if n = 4 then some (pushCommand (.push a 4) a 0x07 s.active.chanplanArgs)
  else none

/-- Whether a push to a lantern is on its way. -/
def State.pushing (s : State) (a : Nat) : Bool :=
  let is := fun (p : Purpose) => match p with
    | .push b _ => b = a
    | .keyPush b => b = a
    | _ => false
  (List.range 64).any (fun n => (s.slot n).live && is (s.slot n).desc.purpose) || s.txn.waiting.any (fun d => is d.1.purpose)

/-- Whether a lantern may be tried: fewer than 8 failures, and after a failure only once it has been heard 900 s or more after
the previous try. -/
def State.mayPush (s : State) (a : Nat) : Bool :=
  decide (s.rget a 0x72 1 < 8) &&
  (match (s.lantern a).lastTry with
   | none => true
   | some b => decide (b + secs 900 ≤ (s.lantern a).heardBase))

/-- PUSH_SEND: a pending push of a lantern is submitted. -/
def doPushSend (a n : Nat) (s : State) : State :=
  if s.registryRuns && s.registered a && s.mayPush a && !s.pushing a then
    match s.pushDesc a n with
    | some d => s.submit d
    | none => s
  else s

/-- PUSH_SEND. -/
def execPushSend (a : BitVec 16) (n : Fin 7) (s : State) : Host.Outcome State Fault Refusal := .next (doPushSend a.toNat n.val s)

/-- The close of a push: OK clears its bit, a TIMEOUT counts a failure, the eighth of which is noticed (R193). An answer other
than OK leaves the bit set. DEDUCED (log entry 85). -/
def State.pushClosed (s : State) (a n outcome lresult : Nat) : State :=
  if outcome = 0 ∧ lresult = 0 then
    let t := if n = 6 then s.keyDone a else s.setPending a n false
    (t.rset a 0x72 1 0).setLantern a { t.lantern a with lastTry := none }
  else
    let t := s.setLantern a { s.lantern a with lastTry := some s.base }
    if outcome = 2 then
      let k := min (t.rget a 0x72 1 + 1) 0xFF
      let t := t.rset a 0x72 1 k
      if k = 8 then t.notice a 10 else t
    else t

end Sys2Proof.Machine
end

