-- ==== Sys2Proof/Machine/Wave.lean ====
section
/-! DEFINITION. The wave engine: the street graph and wave programs with their validation, detections, tracks, plans, waves, hand-offs between segments, traffic profiles and pre-brightening (R213 to R241). -/

namespace Sys2Proof.Machine

/-! ### The street graph (R213, R214) -/

/-- N_NODES. -/
def Bank.nNodes (b : Bank) : Nat := b.sget (WAVE.N_NODES .a)
/-- N_EDGES. -/
def Bank.nEdges (b : Bank) : Nat := b.sget (WAVE.N_EDGES .a)
/-- A number in a node entry. -/
def Bank.node (b : Bank) (n off sz : Nat) : Nat := b.mem.field tabNodes n off sz
/-- A number in an edge entry. -/
def Bank.edge (b : Bank) (e off sz : Nat) : Nat := b.mem.field tabEdges e off sz
/-- LANTERN of a node. -/
def Bank.nodeLantern (b : Bank) (n : Nat) : Nat := b.node n 0 2
/-- BOUNDARY of a node. -/
def Bank.nodeBoundary (b : Bank) (n : Nat) : Bool := bit (b.node n 2 1) 0
/-- NO_START of a node. -/
def Bank.nodeNoStart (b : Bank) (n : Nat) : Bool := bit (b.node n 2 1) 1
/-- The edges that leave a node. -/
def Bank.outEdges (b : Bank) (n : Nat) : List Nat := (List.range (b.node n 3 1)).map (· + b.node n 4 2)
/-- TO of an edge. -/
def Bank.edgeTo (b : Bank) (e : Nat) : Nat := b.edge e 2 2

/-- Whether the ordinary fields of a node lie in their ranges (R213, R214). -/
def Bank.nodeOk (b : Bank) (ownSeg n : Nat) : Bool :=
  decide (b.nodeLantern n ≤ 0x1000) && bits (b.node n 2 1) 2 6 = 0 && decide (b.node n 3 1 ≤ 8) && b.node n 12 4 = 0 &&
  decide (b.node n 4 2 + b.node n 3 1 ≤ b.nEdges) && (b.outEdges n).all (fun e => b.edge e 0 2 = n) &&
  (if b.nodeBoundary n then
     b.node n 6 2 != ownSeg && b.node n 6 2 != 0xFFFF && decide (1 ≤ b.node n 10 2 ∧ b.node n 10 2 ≤ 2000)
   else b.node n 6 2 = 0xFFFF && b.node n 8 2 = 0xFFFF && b.node n 10 2 = 0)

/-- Whether the fields of an edge lie in their ranges (R213, R214). -/
def Bank.edgeOk (b : Bank) (e : Nat) : Bool :=
  decide (b.edge e 0 2 < b.nNodes) && decide (b.edgeTo e < b.nNodes) && b.edgeTo e != b.edge e 0 2 &&
  decide (1 ≤ b.edge e 4 2 ∧ b.edge e 4 2 ≤ 2000) && decide (b.edge e 6 1 ≤ 179) &&
  decide (1 ≤ b.edge e 7 1 ∧ b.edge e 7 1 ≤ 7)

/-- Whether a list of numbers has no repeats. -/
def noRepeats (l : List Nat) : Bool := l.dedup.length = l.length

/-- Validation of content type 2: every edge leaves the one node whose range holds it (R214). -/
def Bank.graphOk (b : Bank) (ownSeg : Nat) : Bool :=
  let nodes := List.range b.nNodes
  let edges := List.range b.nEdges
  decide (b.nNodes ≤ 4096) && decide (b.nEdges ≤ 12288) &&
  (b.mem.used tabNodes).all (· < b.nNodes) && (b.mem.used tabEdges).all (· < b.nEdges) &&
  nodes.all (b.nodeOk ownSeg) && edges.all b.edgeOk &&
  noRepeats (nodes.flatMap b.outEdges) && ((nodes.flatMap b.outEdges).length = b.nEdges) &&
  noRepeats (edges.map (fun e => b.edge e 0 2 * 65536 + b.edgeTo e)) &&
  noRepeats ((nodes.map b.nodeLantern).filter (· ≠ 0))

/-! ### Wave programs (R221, R222) -/

/-- A number in a wave program. -/
def Bank.wprog (b : Bank) (p off sz : Nat) : Nat := b.mem.field tabWavePrograms p off sz
/-- A flag of a wave program: 0 ENABLE, 1 HANDOFF_OUT, 2 HANDOFF_IN, 3 PROFILE, 4 KEEP_AWAKE. -/
def Bank.wflag (b : Bank) (p n : Nat) : Bool := bit (b.wprog p 0 1) n
/-- TARGET of a wave program. -/
def Bank.wtarget (b : Bank) (p : Nat) : Nat := b.wprog p 2 2
/-- LEVEL of a wave program. -/
def Bank.wlevel (b : Bank) (p : Nat) : Nat := b.wprog p 4 2
/-- AHEAD_M of a wave program. -/
def Bank.wahead (b : Bank) (p : Nat) : Nat := b.wprog p 6 2
/-- FADE of a wave program. -/
def Bank.wfade (b : Bank) (p : Nat) : Nat := b.wprog p 10 2
/-- HOLD_S of a wave program. -/
def Bank.whold (b : Bank) (p : Nat) : Nat := b.wprog p 12 2

/-- Whether the fields that an enabled program needs lie in their ranges. -/
def Bank.wprogRanges (b : Bank) (p : Nat) : Bool :=
  b.wprog p 1 1 != 0 && decide (1 ≤ b.wlevel p ∧ b.wlevel p ≤ 1000) && decide (10 ≤ b.wahead p ∧ b.wahead p ≤ 2000) &&
  decide (b.wprog p 8 2 ≤ 10000) && decide (b.wfade p ≤ 500) && decide (1 ≤ b.whold p ∧ b.whold p ≤ 600) &&
  decide (b.wprog p 14 2 ≤ 1439) && decide (b.wprog p 16 2 ≤ 1439) && b.wprog p 18 1 != 0 &&
  (!b.wflag p 3 || (decide (b.wprog p 20 2 ≤ 1000) && b.wprog p 22 1 != 0))

/-- Validation of content type 3: an empty program passes (R221). -/
def Bank.wavesOk (b : Bank) : Bool :=
  (b.mem.used tabWavePrograms).all (fun p =>
    b.mem.entryEmpty tabWavePrograms p ||
    (bits (b.wprog p 0 1) 5 3 = 0 && bits (b.wprog p 1 1) 4 4 = 0 && b.wprog p 19 1 = 0 && b.wprog p 23 9 = 0 &&
     isMulti (b.wtarget p) && (!b.wflag p 0 || b.wprogRanges p)))

/-- Whether a local minute of the day lies in a program's window (R221). -/
def Bank.inWindow (b : Bank) (p m : Nat) : Bool :=
  let f := b.wprog p 14 2
  let t := b.wprog p 16 2
  if f = t then true else if f < t then decide (f ≤ m ∧ m < t) else decide (f ≤ m ∨ m < t)

/-- Whether a program's window is open now: without UTC only an all-day window is known to be (R222). DEDUCED (log entry 89). -/
def State.windowOpen (s : State) (p : Nat) : Bool :=
  s.active.wprog p 14 2 = s.active.wprog p 16 2 || (s.utcOk && s.active.inWindow p (s.localMin % 1440).toNat)

/-- The program of a track of a kind at a node: the lowest that fits (R222). DEDUCED (log entry 89). -/
def State.chooseProgram (s : State) (kind node : Nat) : Option Nat :=
  let b := s.active
  let l := b.nodeLantern node
  (List.range 64).find? (fun p =>
    b.wflag p 0 && bit (b.wprog p 1 1) kind && (if l = 0 then b.wtarget p = 0xFFFF else b.names (b.wtarget p) l) && s.windowOpen p)

/-! ### Walks (R218, R223) -/

/-- A node that a walk reaches: its distance in metres and the node before it. -/
structure Reached where
  node : Nat
  dist : Nat
  pred : Nat
deriving DecidableEq, Repr

/-- The entry of a node among the reached. -/
def reachedAt (l : List Reached) (n : Nat) : Option Reached := l.find? (fun r => r.node = n)

/-- Whether a kind may travel an edge: presence travels every edge. -/
def Bank.mayTravel (b : Bank) (kind e : Nat) : Bool := kind = 0 || bit (b.edge e 7 1) (kind - 1)

/-- One edge of a search: its end is reached, or reached by a shorter walk; of two equally short ones which counts as the node
before is open. DESIGN CHOICE (log entry 87). -/
def Bank.relax (b : Bank) (limit : Nat) (from_ : Reached) (st : List Reached × List Nat) (e : Nat) : List Reached × List Nat :=
  let d := from_.dist + b.edge e 4 2
  let dst := b.edgeTo e
  let put := fun (l : List Reached) (p : Nat) => { node := dst, dist := d, pred := p : Reached } :: l.filter (fun r => r.node ≠ dst)
  if limit < d then st
  else match reachedAt st.1 dst with
    | none => (put st.1 from_.node, dst :: st.2)
    | some r =>
      if d < r.dist then (put st.1 from_.node, if dst ∈ st.2 then st.2 else dst :: st.2)
      else if d = r.dist ∧ r.pred ≠ dst ∧ dst ≠ from_.pred then
        (put st.1 (if Config.walkTie r.pred from_.node then r.pred else from_.node), st.2)
      else st

/-- The search from a frontier. -/
def Bank.search (b : Bank) (kind limit start : Nat) (first : Nat → Bool) : Nat → List Reached → List Nat → List Reached
  | 0, l, _ => l
  | n + 1, l, frontier =>
    match leastOn? Reached.dist (l.filter (fun r => r.node ∈ frontier)) with
    | none => l
    | some r =>
      let edges := (b.outEdges r.node).filter (fun e => b.mayTravel kind e && (r.node != start || first e))
      let st := edges.foldl (b.relax limit r) (l, frontier.filter (· ≠ r.node))
      Bank.search b kind limit start first n st.1 st.2

/-- The nodes within some metres of a node, by walks of a kind whose first edge is allowed. -/
def Bank.walks (b : Bank) (kind limit start : Nat) (first : Nat → Bool) : List Reached :=
  b.search kind limit start first (b.nNodes + 1) [{ node := start, dist := 0, pred := start }] [start]

/-- The first edges of the walks from a track's node that do not lead back. -/
def Bank.onward (b : Bank) (k : Track) (e : Nat) : Bool :=
  match k.prev with
  | some p => b.edgeTo e != p
  | none => true

/-- The first edges a track's plan may take (R220, R223). -/
def Bank.allowedFirst (b : Bank) (k : Track) (e : Nat) : Bool :=
  b.onward k e && (match k.first with
    | some l => l.contains e
    | none => true)

/-! ### The state of the engine -/

/-- The wave engine takes a value, journalled (R237). -/
def State.setWave (s : State) (x : Wave) : State := ({ s with wave := x } : State).jot

/-- A track takes a value. -/
def State.setTrack (s : State) (n : Nat) (k : Track) : State := s.setWave { s.wave with tracks := s.wave.tracks.put n k }

/-- Whether the wave engine runs: ENABLE is 1 on the wick that holds AUTHOR (R239, R240). -/
def State.waveRuns (s : State) : Bool := s.authorRuns && s.on (HDR.ENABLE (s.cw.page 6))

/-- WAVE_ID of a wave slot (R229). -/
def State.waveId (s : State) (slot : Nat) : Nat := slot + 32 * (s.wave.gens.getD slot 0 % 4)

/-- Whether a number of ticks is less than a number of milliseconds. -/
def underMs (ticks ms : Nat) : Bool := decide (1000 * ticks < 32768 * ms)

/-- Ticks of a number of milliseconds, rounded down. -/
def msTicks (ms : Nat) : Nat := ms * 32768 / 1000

/-- Ticks to cover a distance at a speed, added to an instant, rounded down. -/
def arrival (t : Nat) (metres : Nat) (v : Rat) : Nat := t + ((metres : Rat) * 32768 / v).floor.toNat

/-- A full segment time rebuilt from its low 32 bits: the nearest to the present (R5); where two are equally near, the one with the present's
upper bits. DESIGN CHOICE (log entry 190). -/
def State.rebuild (s : State) (lo : Nat) : Nat :=
  let base := s.now / 2 ^ 32 * 2 ^ 32 + lo % 2 ^ 32
  let far := fun (x : Nat) => min ((x + 2 ^ 48 - s.now) % 2 ^ 48) ((s.now + 2 ^ 48 - x) % 2 ^ 48)
  let cands := [base % 2 ^ 48, (base + 2 ^ 32) % 2 ^ 48, (base + 2 ^ 48 - 2 ^ 32) % 2 ^ 48]
  (leastOn? far cands).getD base

/-! ### The level a lantern is expected to hold (R202, R223) -/

/-- The last level step of a lantern's program at or before an instant. -/
def State.lastStep (s : State) (a tt : Nat) : Option DayStep :=
  match s.active.programFor a with
  | none => none
  | some p =>
    let steps := (List.range 9).flatMap (fun (n : Nat) => s.resolve1 s.active p (s.localDay + 1 - (n : Int)))
    (sortOn DayStep.at_ (steps.filter (fun x => x.level != 0xFFFF && decide (x.at_ ≤ tt)))).getLast?

/-- predicted_level of a lantern: open where neither a step nor a host has set it. DEDUCED (log entry 90). -/
def State.predicted (s : State) (a tt : Nat) : Nat :=
  let step := if s.utcOk then s.lastStep a tt else none
  match step, (s.lantern a).hostCmd with
  | some x, some (level, t) => if t ≤ tt ∧ x.at_ ≤ t then level else x.level
  | some x, none => x.level
  | none, some (level, t) => if t ≤ tt then level else Config.idleLevel a tt
  | none, none => Config.idleLevel a tt

/-! ### Entries and their frames (R224, R225) -/

/-- A wave entry: lantern, target time, level. -/
structure Entry where
  addr : Nat
  tt : Nat
  level : Nat
deriving DecidableEq, Repr

/-- The last entry the engine has sent a lantern: the newest in a frame that is not yet keyed, otherwise the last keyed one (R225).
DEDUCED (log entry 90). -/
def State.lastEntry (s : State) (a : Nat) : Option LastEntry :=
  match (s.wave.queued.filter (fun c => c.1 = a)).getLast? with
  | some c => some c.2
  | none => s.wave.last.get? a

/-- Whether the last entry of a lantern stands against a new one of a wave (R225). DEDUCED (log entry 90). -/
def State.keep (s : State) (id level hold : Nat) (a tt : Nat) : Bool :=
  match s.lastEntry a with
  | none => false
  | some x =>
    if x.wave ≠ id then decide (x.wave < 0x80) && decide (level ≤ x.level) && decide (tt + secs hold < x.until_)
    else if s.now < x.tt then underMs (max tt x.tt - min tt x.tt) (s.get (WAVE.REPLAN_MS s.cw))
    else decide (2 * s.now + secs hold < 2 * x.until_)

/-- The payload of a WAVE frame (R157). -/
def wavePayload (id fade hold base : Nat) (l : List Entry) : List Byte :=
  leBytes 1 id ++ leBytes 1 l.length ++ leBytes 4 base ++ leBytes 2 fade ++ leBytes 2 hold ++
  l.flatMap (fun x => leBytes 2 x.addr ++ leBytes 2 ((x.tt - base) * 1000 / 32768) ++ leBytes 2 x.level)

/-- A list cut into parts of 32. -/
def chunks32 {α : Type} : Nat → List α → List (List α)
  | 0, _ => []
  | _, [] => []
  | n + 1, l => l.take 32 :: chunks32 n (l.drop 32)

/-- Entries are sent in WAVE frames, earliest first (R224, R225). What the transaction engine does not take is lost. -/
def State.sendEntries (s : State) (id program hold : Nat) (deadline : Bool) (l : List Entry) : State :=
  let b := s.active
  (chunks32 (l.length + 1) (sortOn Entry.tt l)).foldl (fun (t : State) c =>
    let base := (c.headD ⟨0, 0, 0⟩).tt
    let d : Desc := { Desc.empty with
      purpose := .wave id, ty := 5, dest := b.wtarget program, args := wavePayload id (b.wfade program) hold base c
      maxAtt := t.get (WAVE.WAVE_REPEATS t.cw), notAfter := if deadline then base else 0 }
    if t.takesInternal d then
      (t.submit d).setWave { t.wave with queued := t.wave.queued ++ c.map (fun x => (x.addr, ⟨id, program, x.level, x.tt, x.tt + secs hold⟩)) }
    else t.bump (WAVE.LATE_ENTRY_CNT t.cw) c.length) s

/-- The number of entries of a WAVE payload. -/
def waveCount (args : List Byte) : Nat := leNat ((args.drop 1).take 1)

/-- Whether a queued entry stands in a WAVE payload of an identifier. -/
def inWaveFrame (id : Nat) (args : List Byte) (c : Nat × LastEntry) : Bool :=
  let base := leNat ((args.drop 2).take 4)
  let mine := leBytes 2 c.1 ++ leBytes 2 ((c.2.tt + 2 ^ 32 - base) % 2 ^ 32 * 1000 / 32768) ++ leBytes 2 c.2.level
  c.2.wave = id && (List.range (waveCount args)).any (fun i => (args.drop (10 + 6 * i)).take 6 = mine)

/-- The first keying of a WAVE frame: its entries are the last of their lanterns, and count as sent by its wave (R225, R229). -/
def State.waveKeyed (s : State) (id : Nat) (args : List Byte) : State :=
  let (sent, rest) := s.wave.queued.partition (inWaveFrame id args)
  let last := sent.foldl (fun (m : Map LastEntry) c => m.put c.1 c.2) s.wave.last
  let waves := match s.wave.waves.find? (fun c => s.waveId c.1 = id) with
    | some (w, x) => s.wave.waves.put w { x with entries := x.entries + waveCount args }
    | none => s.wave.waves
  s.setWave { s.wave with queued := rest, last := last, waves := waves }

/-- The close of a WAVE frame that was never keyed: its entries are forgotten, so the next plan enters them afresh; those of one NOT_SENT
count as late (R224). -/
def State.waveUnsent (s : State) (id : Nat) (args : List Byte) (notSent : Bool) : State :=
  let t := s.setWave { s.wave with queued := s.wave.queued.filter (fun c => !inWaveFrame id args c) }
  if notSent then t.bump (WAVE.LATE_ENTRY_CNT s.cw) (waveCount args) else t

/-! ### Waves and the ends of tracks (R220, R228 to R230, R232) -/

/-- A hand-off message is sent, and counted where it leaves (R232). DESIGN CHOICE (log entry 86). -/
def State.sendHandoff (s : State) (k : Track) (node flags tArr : Nat) (v : Rat) : State :=
  let b := s.active
  let (id, t) := match k.wave with
    | some x => (s.waveId x, s)
    | none => s.draw
  let body := leBytes 2 (s.get (FABRIC.SEG_ID s.cw)) ++ leBytes 1 id ++ leBytes 1 flags ++ leBytes 2 (b.node node 8 2) ++
    leBytes 1 k.kind ++ leBytes 1 0 ++ leBytes 2 (v * 100).floor.toNat ++ leBytes 6 tArr
  let u := t.fabPostSeg 0x10 (b.node node 6 2) body
  if u.fab.queue = t.fab.queue then u else u.bump (WAVE.HANDOFF_OUT_CNT s.cw) 1

/-- The planning speed of a track under a program (R223). -/
def Bank.planSpeed (b : Bank) (k : Track) (p : Nat) : Rat := max k.speed ((b.wprog p 18 1 : Rat) / 2)

/-- A track and its wave end: the wave's end is raised and logged, and hand-offs not yet due are cancelled unless nothing may be
sent. -/
def State.endTrack (s : State) (n : Nat) (cancels : Bool) : State :=
  match s.wave.tracks.get? n with
  | none => s
  | some k =>
    let t := match k.wave with
      | none => s
      | some w =>
        let x := s.wave.waves.getD w ⟨n, k.kind, k.program.getD 0xFF, 0⟩
        let t := s.event s.srcCtl 0x0703 [s.waveId w, k.kind, k.program.getD 0xFF, x.entries]
        (t.raise (t.cw.page 6) 1).setWave { t.wave with waves := t.wave.waves.del w }
    let t := if cancels && t.on TIME.TRUSTED then
        (k.handed.filter (fun h => decide (s.now < h.2))).foldl (fun (t : State) h =>
          t.sendHandoff k h.1 2 h.2 (match k.program with | some p => t.active.planSpeed k p | none => k.speed)) t
      else t
    t.setWave { t.wave with tracks := t.wave.tracks.del n }

/-- Every track and wave ends. -/
def State.endTracks (s : State) (cancels : Bool) : State := s.wave.tracks.keys.foldl (fun t n => t.endTrack n cancels) s

/-- The slot a track's wave takes (R228). -/
def State.waveSlotFor (s : State) (n : Nat) : Option Nat :=
  if s.wave.waves.has (n % 32) then (List.range 32).find? (fun w => !s.wave.waves.has w) else some (n % 32)

/-- A track takes a wave slot, and its wave starts (R228, R229). -/
def State.startWave (s : State) (n slot p : Nat) (k : Track) : State :=
  let t := (s.setWave { s.wave with
      gens := s.wave.gens.put slot ((s.wave.gens.getD slot 0 + 1) % 4)
      waves := s.wave.waves.put slot { track := n, kind := k.kind, program := p, entries := 0 } }).setTrack n
        { k with wave := some slot }
  (t.event t.srcCtl 0x0702 [t.waveId slot, k.kind, p]).raise (t.cw.page 6) 0

/-! ### Planning (R223) -/

/-- The target time of a lantern's entry: its first term and the term it may not fall below. -/
def State.target (s : State) (k : Track) (p dist : Nat) : Int × Int :=
  let b := s.active
  ((arrival k.t dist (b.planSpeed k p) : Int) - (msTicks (b.wprog p 8 2) : Int), ((s.now + msTicks (10 * b.wfade p) : Nat) : Int))

/-- What a plan does with a reached node: an entry with whether it is late, a deferral, or nothing. -/
inductive Planned where
  | entry (x : Entry) (late : Bool)
  | defer
  | nothing
deriving DecidableEq, Repr

/-- The plan's decision for one reached node. -/
def State.planNode (s : State) (id p : Nat) (k : Track) (r : Reached) : Planned :=
  let b := s.active
  let a := b.nodeLantern r.node
  let (first, least) := s.target k p r.dist
  let tt := (max first least).toNat
  if !(s.registered a && b.names (b.wtarget p) a) then .nothing
  else if s.now + secs 60 < tt then .defer
  else if b.wlevel p ≤ s.predicted a tt then .nothing
  else if s.keep id (b.wlevel p) (b.whold p) a tt then .nothing
  else .entry { addr := a, tt := tt, level := b.wlevel p } (decide (first < least))

/-- The hand-offs of a plan of a LIVE track: a first message, or an update where T_ARR has moved by REPLAN_MS (R232); a PROVISIONAL track's wave
came from another segment and is not forwarded (R233). -/
def State.handOff (s : State) (n p : Nat) (l : List Reached) : State :=
  let b := s.active
  let live := match s.wave.tracks.get? n with
    | some k => k.state = 1
    | none => false
  if live && b.wflag p 1 && s.on TIME.TRUSTED then
    (l.filter (fun r => b.nodeBoundary r.node && decide (r.dist + b.node r.node 10 2 ≤ b.wahead p))).foldl (fun (t : State) r =>
      match t.wave.tracks.get? n with
      | none => t
      | some k =>
        let v := b.planSpeed k p
        let tArr := arrival k.t (r.dist + b.node r.node 10 2) v
        let put := fun (t : State) => t.setTrack n { k with handed := (r.node, tArr) :: k.handed.filter (fun h => h.1 ≠ r.node) }
        match k.handed.find? (fun h => h.1 = r.node) with
        | none => put (t.sendHandoff k r.node 0 tArr v)
        | some h =>
          if underMs (max tArr h.2 - min tArr h.2) (t.get (WAVE.REPLAN_MS t.cw)) then t else put (t.sendHandoff k r.node 1 tArr v)) s
  else s

/-- One plan of a track. DEDUCED (log entry 88). -/
def State.plan (s : State) (n : Nat) : State :=
  match s.wave.tracks.get? n with
  | none => s
  | some k =>
    let s := s.setTrack n { k with nextPlan := s.base + secs 10 }
    let b := s.active
    match k.program with
    | none => s
    | some p =>
      if s.waveRuns && b.nNodes != 0 then
        let l := b.walks k.kind (b.wahead p) k.node (b.allowedFirst k)
        let slot := match k.wave with | some w => some w | none => s.waveSlotFor n
        let id := match k.wave with | some w => s.waveId w | none => 0x100
        let out := (sortOn Reached.dist l).map (s.planNode id p k)
        let entries := out.filterMap (fun o => match o with | .entry x _ => some x | _ => none)
        let late := (out.filter (fun o => match o with | .entry _ true => true | _ => false)).length
        let k' := { k with
          nextPlan := s.base + secs 10
          latest := (l.map (fun r => arrival k.t r.dist (b.planSpeed k p))).foldl max 0
          deferred := (l.filter (fun r => s.planNode id p k r = .defer)).map Reached.node }
        if entries = [] then (s.setTrack n k').handOff n p l
        else match slot with
          | none => (s.bump (WAVE.WAVE_FULL_CNT s.cw) 1).raise (s.cw.page 6) 2
          | some w =>
            let t := if k.wave = none then s.startWave n w p k' else s.setTrack n k'
            let t := t.handOff n p l
            let t := t.bump (WAVE.LATE_ENTRY_CNT t.cw) late
            t.sendEntries (t.waveId w) p (b.whold p) true entries
      else s

/-! ### Detections (R217 to R220) -/

/-- The node of a detection. -/
def State.detNode (s : State) (d : Detection) : Option Nat :=
  match d.source with
  | .inl a => (List.range s.active.nNodes).find? (fun n => a != 0 && s.active.nodeLantern n = a)
  | .inr n => if n < s.active.nNodes then some n else none

/-- A passing is counted at a node in the quarter hour of local time that runs (R234). -/
def State.passing (s : State) (node : Nat) : State :=
  let key := node * 4 + (s.localMin % 60).toNat / 15
  s.setWave { s.wave with counts := s.wave.counts.put key (min (s.wave.counts.getD key 0 + 1) 255)
                          openHour := some (s.wave.openHour.getD (s.localMin / 60)) }

/-- A track counts once at a node. -/
def State.trackPassing (s : State) (n node : Nat) : State :=
  match s.wave.tracks.get? n with
  | some k => if k.counted.contains node then s else (s.setTrack n { k with counted := node :: k.counted }).passing node
  | none => s

/-- Whether the kinds of a track and a detection fit (R218). -/
def kindsFit (k : Track) (kind : Nat) : Bool := k.kind = kind || kind = 0 || k.kind = 0

/-- Seconds from one tick to another. -/
def tickSpan (a b : Nat) : Rat := (((b : Int) - (a : Int) : Int) : Rat) / 32768

/-- The walk from a track's node to another, at most 300 m. -/
def Bank.walkTo (b : Bank) (k : Track) (node : Nat) : Option Reached :=
  reachedAt (b.walks k.kind 300 k.node (b.onward k)) node

/-- The score of a detection against a track; none where it is no candidate (R218). A PROVISIONAL track of speed 0 predicts no
instant. -/
def State.score (s : State) (k : Track) (kind node t : Nat) : Option Rat :=
  if !kindsFit k kind then none
  else if k.state = 1 then
    if node = k.node then
      if (t : Int) - (k.t : Int) ≤ (secs (s.get (WAVE.TRACK_TTL_S s.cw)) : Int) then some 0 else none
    else match s.active.walkTo k node with
      | none => none
      | some r =>
        if t ≤ k.t then none
        else
          let v : Rat := (r.dist : Rat) / tickSpan k.t t
          if k.speed / 2 ≤ v ∧ v ≤ 2 * k.speed then some |v / k.speed - 1| else none
  else match s.active.walkTo k node with
    | none => none
    | some r =>
      if k.speed = 0 then none
      else
        let run : Rat := (r.dist : Rat) / k.speed
        let off := |tickSpan k.t t - run|
        if off ≤ max 2 (run / 2) then some off else none

/-- The track a detection joins: the least score, the lower number where scores are equal. -/
def State.associate (s : State) (kind node t : Nat) : Option Nat :=
  (s.wave.tracks.foldl (fun (best : Option (Nat × Rat)) c =>
    match s.score c.2 kind node t with
    | none => best
    | some x => match best with
      | none => some (c.1, x)
      | some y => if x < y.2 then some (c.1, x) else best) none).map Prod.fst

/-- The speed a detection measures on a track (R219). For a PROVISIONAL track detected at the very instant at which it was at the boundary the
spec states none. DESIGN CHOICE (log entry 86). -/
def State.measured (s : State) (k : Track) (r : Reached) (speed t : Nat) : Rat × State :=
  if speed ≠ 0xFF then ((speed : Rat) / 2, s)
  else
    let from_ := if k.state = 2 then k.tRef else k.t
    if t = from_ then
      let (x, u) := s.draw
      ((x : Rat), u)
    else ((r.dist : Rat) / tickSpan from_ t, s)

/-- A track's wave goes on under the track's kind and program (R218, R222, R229). -/
def State.boundWave (s : State) (k : Track) : State :=
  match k.wave with
  | none => s
  | some w =>
    let x := s.wave.waves.getD w ⟨0, k.kind, k.program.getD 0xFF, 0⟩
    s.setWave { s.wave with waves := s.wave.waves.put w { x with kind := k.kind, program := k.program.getD x.program } }

/-- A detection updates the track it joins, which is planned at once (R219, R222, R223). DEDUCED (log entry 88). -/
def State.updateTrack (s : State) (n : Nat) (k : Track) (d : Detection) (node t : Nat) : State :=
  let kind := if k.kind = 0 then d.kind else k.kind
  let (k', s') :=
    if node = k.node then (k, s)
    else match s.active.walkTo k node with
      | none => (k, s)
      | some r =>
        let (v, s') := s.measured k r d.speed t
        ({ k with speed := (k.speed + v) / 2, prev := some r.pred, node := node, first := none }, s')
  let keepsProgram := match k.program with
    | some p => bit (s.active.wprog p 1 1) kind
    | none => false
  let k' := { k' with t := t, dets := min (k.dets + 1) 0xFFFF, state := 1, kind := kind
                      program := if keepsProgram then k.program else s.chooseProgram kind node }
  ((((s'.setTrack n k').boundWave k')).trackPassing n node).plan n

/-- The default speed of a kind (R220). -/
def defaultSpeed (kind : Nat) : Rat := if kind = 1 then 14 else if kind = 2 then 5 else 3 / 2

/-- Whether an edge's bearing lies within 45° of a detection's; both are in 2° units, so 45° is 22 units. -/
def nearBearing (a b : Nat) : Bool :=
  let d := (a + 180 - b % 180) % 180
  decide (min d (180 - d) ≤ 22)

/-- A detection starts a track (R220). -/
def State.startTrack (s : State) (d : Detection) (node t : Nat) : State :=
  match (List.range 64).find? (fun n => !s.wave.tracks.has n) with
  | none => s.bump (WAVE.TRACK_FULL_CNT s.cw) 1
  | some n =>
    let near := (s.active.outEdges node).filter (fun e => nearBearing (s.active.edge e 6 1) d.bearing)
    let k : Track :=
      { state := 1, kind := d.kind, node := node, prev := none
        speed := if d.speed = 0xFF then defaultSpeed d.kind else (d.speed : Rat) / 2
        t := t, tRef := t, dets := 1, program := s.chooseProgram d.kind node, wave := none
        first := if d.bearing = 0xFF ∨ near = [] then none else some near
        latest := 0, src := none, counted := [], handed := [], deferred := [], nextPlan := s.base }
    (((s.setTrack n k).bump (WAVE.TRACK_NEW_CNT s.cw) 1).trackPassing n node).plan n

/-- A detection of a known time is taken in (R217). -/
def State.intakeAt (s : State) (d : Detection) (t : Nat) : State :=
  let s := s.bump (WAVE.DET_CNT s.cw) 1
  if s.waveRuns then
    match s.detNode d with
    | none => s.bump (WAVE.DET_NO_NODE_CNT s.cw) 1
    | some node =>
      if s.now < t ∨ 32768 * s.get (WAVE.DET_MAX_AGE_MS s.cw) < 1000 * (s.now - t) then
        (s.bump (WAVE.DET_STALE_CNT s.cw) 1).passing node
      else match s.associate d.kind node t with
        | some n => match s.wave.tracks.get? n with
          | some k => s.updateTrack n k d node t
          | none => s
        | none =>
          if s.active.nodeNoStart node ∨ d.conf < s.get (WAVE.MIN_CONF s.cw) then s.passing node
          else s.startTrack d node t
  else s

/-- A detection report is taken in, its time rebuilt under R5. -/
def State.intake (s : State) (d : Detection) : State := s.intakeAt d (s.rebuild d.time)

/-- A WARMING wick holds a detection, the oldest of 64 dropped first (R238). DEDUCED (log entry 94). -/
def State.holdDetection (s : State) (d : Detection) : State :=
  let l := if 64 ≤ s.wave.buffer.length then s.wave.buffer.drop 1 else s.wave.buffer
  { s with wave := { s.wave with buffer := l ++ [(d, s.rebuild d.time)] } }

/-- A new AUTHOR plans every restored LIVE track and takes in the detections it held, in order of time (R237, R238).
DEDUCED (log entry 94). -/
def State.waveTakeover (s : State) : State :=
  let live := (s.wave.tracks.filter (fun c => c.2.state = 1)).map Prod.fst
  let t := live.foldl (fun t n => t.plan n) s
  let held := sortOn (fun (x : Detection × Nat) => x.2 * 65536 + (match x.1.source with | .inl a => a | .inr n => n)) t.wave.buffer
  held.foldl (fun t x => t.intakeAt x.1 x.2) ({ t with wave := { t.wave with buffer := [] } } : State)

/-! ### The engine's times -/

/-- PERIODIC_REPLAN: every LIVE track whose 10 s since its last plan have passed is planned (R223). DEDUCED (log entry 88). -/
def doPeriodicReplan (s : State) : State :=
  if s.waveRuns then
    ((s.wave.tracks.filter (fun c => c.2.state = 1 && decide (c.2.nextPlan ≤ s.base))).map Prod.fst).foldl (fun t n => t.plan n) s
  else s

/-- PERIODIC_REPLAN. -/
def execPeriodicReplan (s : State) : Host.Outcome State Fault Refusal := .next (doPeriodicReplan s)

/-- The instant a track ends: the later of its TTL and its latest planned arrival (R220). -/
def State.trackEndAt (s : State) (k : Track) : Nat := max (k.t + secs (s.get (WAVE.TRACK_TTL_S s.cw))) k.latest

/-- TRACK_END: a track whose end has come ends. -/
def doTrackEnd (n : Nat) (s : State) : State :=
  match s.wave.tracks.get? n with
  | some k => if s.waveRuns && decide (s.trackEndAt k ≤ s.now) then s.endTrack n true else s
  | none => s

/-- TRACK_END. -/
def execTrackEnd (n : Fin 64) (s : State) : Host.Outcome State Fault Refusal := .next (doTrackEnd n.val s)

/-! ### WAVE_CMD (R230, R231) -/

/-- The lanterns to which the engine has sent an entry. -/
def State.wavedLanterns (s : State) : List Nat := (s.wave.last.keys ++ s.wave.queued.map Prod.fst).dedup

/-- The restoring entries of an ended wave, under the program whose entry each lantern holds (R230). DEDUCED (log entry 90). -/
def State.restore (s : State) (id : Nat) : State :=
  let held := s.wavedLanterns.filterMap (fun a =>
    match s.lastEntry a with
    | some x => if x.wave = id ∧ s.now < x.until_ then some (a, x.program) else none
    | none => none)
  ((held.map Prod.snd).dedup).foldl (fun (t : State) p =>
    let tt := t.now + msTicks (10 * t.active.wfade p)
    t.sendEntries 0x81 p 1 true ((held.filter (fun c => c.2 = p)).map (fun c => ⟨c.1, tt, t.predicted c.1 tt⟩))) s

/-- A wave is aborted: it ends with its track, and the lanterns it holds are restored on request. -/
def State.abortWave (s : State) (slot : Nat) (restore : Bool) : State :=
  match s.wave.waves.get? slot with
  | none => s
  | some x =>
    let id := s.waveId slot
    let t := s.endTrack x.track true
    if restore then t.restore id else t

/-- A write of WAVE_CMD through a wick's page: refused, or carried out with its status. -/
def State.waveCommand (s : State) (m : Master) (w : Wick) (k : State → State) : State :=
  let page := w.page 6
  s.write m page 0x058 [] (fun s =>
    if s.isController w then k s
    else (s.countErr page m page 0x058 5).set (WAVE.WAVE_CMD_STATUS w) 4)

/-- A write of ABORT. DESIGN CHOICE (log entry 6). -/
def doWaveAbort (m : Master) (w : Wick) (sel : Nat) (restore same : Bool) (s : State) : State :=
  s.waveCommand m w (fun s =>
    match s.wave.waves.get? sel with
    | none => s.set (WAVE.WAVE_CMD_STATUS w) 3
    | some x =>
      if same then (s.endTrack x.track true).set (WAVE.WAVE_CMD_STATUS w) 2
      else ((s.abortWave sel restore).set (WAVE.WAVE_CMD_STATUS w) 1).raise (w.page 6) 5)

/-- WAVE_ABORT: `same` says that the wave ends by itself in the same cycle. -/
def execWaveAbort (m : Master) (w : Wick) (sel : Fin 32) (restore same : Bool) (s : State) : Host.Outcome State Fault Refusal :=
  .next (doWaveAbort m w sel.val restore same s)

/-- A write of ABORT_ALL: every wave ends, the ones that end by themselves in the same cycle without restoring frames (R230). Where none is live
the status reads NOT_FOUND. DESIGN CHOICE (log entry 6). -/
def doWaveAbortAll (m : Master) (w : Wick) (restore : Bool) (same : List Nat) (s : State) : State :=
  s.waveCommand m w (fun s =>
    if s.wave.waves = [] then s.set (WAVE.WAVE_CMD_STATUS w) 3
    else
      let t := (s.wave.waves.filter (fun c => same.contains c.1)).foldl (fun (t : State) c => t.endTrack c.2.track true) s
      if t.wave.waves = [] then t.set (WAVE.WAVE_CMD_STATUS w) 2
      else ((t.wave.waves.keys.foldl (fun (t : State) x => t.abortWave x restore) t).set (WAVE.WAVE_CMD_STATUS w) 1).raise (w.page 6) 5)

/-- WAVE_ABORT_ALL: `same` are the slots of the waves that end by themselves in the same cycle. -/
def execWaveAbortAll (m : Master) (w : Wick) (restore : Bool) (s : State) (same : List (Fin 32) := []) : Host.Outcome State Fault Refusal :=
  .next (doWaveAbortAll m w restore (same.map Fin.val) s)

/-- A write of INJECT: the injection registers make a detection (R231). -/
def doInject (m : Master) (w : Wick) (s : State) : State :=
  s.waveCommand m w (fun s =>
    let node := s.get (WAVE.INJ_NODE w)
    if s.isAuthor w && s.waveRuns && decide (node < s.active.nNodes) then
      let d : Detection := { source := .inr node, kind := s.get (WAVE.INJ_KIND w), bearing := s.get (WAVE.INJ_BEARING w)
                             speed := s.get (WAVE.INJ_SPEED w), conf := s.get (WAVE.INJ_CONF w), time := 0 }
      (s.intakeAt d (s.get2 (WAVE.INJ_TIME_LO w) (WAVE.INJ_TIME_HI w))).set (WAVE.WAVE_CMD_STATUS w) 0
    else s.set (WAVE.WAVE_CMD_STATUS w) 4)

/-- INJECT. -/
def execInject (m : Master) (w : Wick) (s : State) : Host.Outcome State Fault Refusal := .next (doInject m w s)

/-! ### Hand-offs received (R233) -/

/-- Whether a hand-off message is refused. -/
def State.handoffRefused (s : State) (node kind : Nat) : Bool :=
  !s.on TIME.TRUSTED || !s.waveRuns || decide (s.active.nNodes ≤ node) || decide (64 ≤ s.wave.tracks.length) ||
  (match s.chooseProgram kind node with
   | some p => !s.active.wflag p 2
   | none => true)

/-- A hand-off message: its segment, WAVE_ID, flags, entry node, kind, speed in cm/s and T_ARR. DESIGN CHOICE (log entry 212). -/
def doWaveHandoff (seg id flags node kind cms tArr : Nat) (s : State) : State :=
  if s.handoffRefused node kind then (s.bump (WAVE.HANDOFF_REFUSED_CNT s.cw) 1).raise (s.cw.page 6) 4
  else
    let speed : Rat := (cms : Rat) / 100
    let tRef := if speed = 0 then tArr else tArr - ((s.active.node node 10 2 : Rat) * 32768 / speed).floor.toNat
    match s.wave.tracks.find? (fun c => c.2.src = some (seg, id)) with
    | some (n, k) =>
      if k.state ≠ 2 then s
      else if bit flags 1 then s.endTrack n true
      else if bit flags 0 then (s.setTrack n { k with t := tArr, speed := speed, tRef := tRef }).plan n
      else s
    | none =>
      if bit flags 1 then s
      else match (List.range 64).find? (fun n => !s.wave.tracks.has n) with
        | none => s
        | some n =>
          ((s.setTrack n
            { state := 2, kind := kind, node := node, prev := none, speed := speed, t := tArr, tRef := tRef, dets := 0
              program := s.chooseProgram kind node, wave := none, first := none, latest := 0, src := some (seg, id)
              counted := [], handed := [], deferred := [], nextPlan := s.base }).plan n).bump (WAVE.HANDOFF_IN_CNT s.cw) 1

/-- WAVE_HANDOFF_RECEIVED. -/
def execWaveHandoffReceived (seg : BitVec 16) (id flags : Byte) (node : BitVec 16) (kind : Byte) (cms : BitVec 16)
    (tArr : BitVec 48) (s : State) : Host.Outcome State Fault Refusal :=
  .next (doWaveHandoff seg.toNat id.toNat flags.toNat node.toNat kind.toNat cms.toNat tArr.toNat s)

/-! ### KEEP_AWAKE (R226) -/

/-- KEEP_AWAKE_HOLD: an open KEEP_AWAKE program whose last hold is 300 s old sends another. DEDUCED (log entry 91). -/
def doKeepAwakeHold (p : Nat) (s : State) : State :=
  let b := s.active
  let old := match s.wave.holds.get? p with
    | some t => decide (t + secs 300 ≤ s.base)
    | none => true
  if s.waveRuns && b.wflag p 0 && b.wflag p 4 && s.windowOpen p && old then
    (s.setWave { s.wave with holds := s.wave.holds.put p s.base }).submit
      (groupCommand .hold (b.wtarget p) 0x03 (leBytes 2 600) 2 0 0)
  else s

/-- KEEP_AWAKE_HOLD. -/
def execKeepAwakeHold (p : Fin 64) (s : State) : Host.Outcome State Fault Refusal := .next (doKeepAwakeHold p.val s)

/-! ### Traffic profiles (R17, R234, R235) -/

/-- A wick's history, the newest block first. -/
def State.history (s : State) (w : Wick) : List HourBlock := s.wave.history.getD w.idx []

/-- HIST_HOURS of a wick. -/
def State.histHours (s : State) (w : Wick) : Nat := ((s.history w).filter HourBlock.present).length

/-- The absent blocks between two hours, the newest first. DEDUCED (log entry 92). -/
def absentBlocks (open_ now : Int) : List HourBlock :=
  (List.range (min (now - open_ - 1).toNat 384)).map (fun (n : Nat) => { hour := now - 1 - (n : Int), present := false, counts := [] })

/-- PROFILE_HOUR_CLOSE: the open hour of local time has ended, and its block is written. DEDUCED (log entry 92). -/
def doProfileHourClose (s : State) : State :=
  let hour := s.localMin / 60
  let h := s.wave.openHour.getD (hour - 1)
  match s.author with
  | none => s
  | some w =>
    if h = hour then s
    else
      let present := s.wave.ran || s.waveRuns
      let block : HourBlock := { hour := h, present := present, counts := if present then s.wave.counts else [] }
      let hist := (absentBlocks h hour ++ block :: s.history w).take 384
      let t := s.setWave { s.wave with history := s.wave.history.put w.idx hist, profGen := (s.wave.profGen + 1) % 2 ^ 32, openHour := some hour, ran := s.waveRuns
                                       counts := [] }
      if !t.wave.ready && decide (168 ≤ t.histHours w) then
        (t.setWave { t.wave with ready := true }).raise (w.page 6) 3
      else t

/-- PROFILE_HOUR_CLOSE. -/
def execProfileHourClose (s : State) : Host.Outcome State Fault Refusal := .next (doProfileHourClose s)

/-- PROFILE_BLOCK_COPY: the MSS brings the standby's history to the AUTHOR's. DEDUCED (log entry 92). -/
def doProfileBlockCopy (s : State) : State :=
  match s.author with
  | some w => if s.pdOn 1 then { s with wave := { s.wave with history := s.wave.history.put w.other.idx (s.history w), profGen := (s.wave.profGen + 1) % 2 ^ 32 } } else s
  | none => s

/-- PROFILE_BLOCK_COPY. -/
def execProfileBlockCopy (s : State) : Host.Outcome State Fault Refusal := .next (doProfileBlockCopy s)

/-- The profile rate of a node in a slot of the day. -/
def State.profileRate (s : State) (w : Wick) (node slot : Nat) : Nat :=
  if s.wave.ready then
    let l := ((s.history w).filter (fun x => x.present && x.hour % 24 = ((slot / 4 : Nat) : Int))).take 7
    let sum := (l.map (fun x => x.counts.getD (node * 4 + slot % 4) 0)).sum
    if l = [] then 0 else (sum + l.length - 1) / l.length
  else 0

/-- The 96 profile rates of a node, as table 2 shows them. -/
def State.profileRates (s : State) (w : Wick) (node : Nat) : List Byte :=
  (List.range 96).map (fun n => BitVec.ofNat 8 (s.profileRate w node n))

/-- The profile history is cleared (R215). -/
def State.profileReset (s : State) : State :=
  (s.setWave { s.wave with history := [], counts := [], ready := false, preSet := [], profGen := (s.wave.profGen + 1) % 2 ^ 32 }).event s.srcCtl 0x0701 []

/-! ### Pre-brightening (R236) -/

/-- Whether pre-brightening may run. -/
def State.mayPreBrighten (s : State) : Bool :=
  s.waveRuns && s.wave.ready && s.on (WAVE.PROFILE_EN s.cw) && s.utcOk

/-- The present local second. -/
def State.localSec (s : State) : Int := s.utcS + 60 * s.active.localOff s.utcMin

/-- The segment time of a quarter hour of local time. -/
def State.quarterAt (s : State) (q : Int) : Nat := s.segOf (s.active.utcOf (q / 96) (q % 96 * 15))

/-- Whether a lantern's last entry belongs to a live wave that R225 still keeps. -/
def State.waveHolds (s : State) (a tt : Nat) : Bool :=
  match s.lastEntry a with
  | some x =>
    match s.wave.waves.find? (fun c => s.waveId c.1 = x.wave) with
    | some c => s.keep x.wave x.level (s.active.whold c.2.program) a tt
    | none => false
  | none => false

/-- The lanterns a program pre-brightens at a quarter hour. -/
def State.preLanterns (s : State) (w : Wick) (p slot tt : Nat) : List Nat :=
  let b := s.active
  let level := b.wprog p 20 2
  ((List.range b.nNodes).filter (fun n =>
    let a := b.nodeLantern n
    s.registered a && b.names (b.wtarget p) a && decide (b.wprog p 22 1 ≤ s.profileRate w n slot) &&
    decide (s.predicted a tt < level) && !s.waveHolds a tt)).map b.nodeLantern

/-- PRE_BRIGHTEN: PRE_LEAD_S before a quarter hour its entries are sent; a lantern takes the entry of its lowest program.
DEDUCED (log entry 93). -/
def doPreBrighten (s : State) : State :=
  let q := (s.localSec + (s.get (WAVE.PRE_LEAD_S s.cw) : Int)) / 900
  if s.mayPreBrighten && decide (s.localSec < 900 * q) && s.wave.preDone != some q then
    let b := s.active
    let tt := s.quarterAt q
    let slot := (q % 96).toNat
    let progs := (List.range 64).filter (fun p => b.wflag p 0 && b.wflag p 3 && b.inWindow p (slot * 15))
    let set_ := progs.foldl (fun (l : List (Nat × Nat × Nat)) p =>
      l ++ ((s.preLanterns s.cw p slot tt).filter (fun a => !l.any (fun x => x.1 = a))).map (fun a => (a, p, b.wprog p 20 2))) []
    let t := s.setWave { s.wave with preDone := some q, preSet := set_, preMinute := s.localMin }
    progs.foldl (fun (t : State) p =>
      t.sendEntries 0x80 p 900 true ((set_.filter (fun x => x.2.1 = p)).map (fun x => ⟨x.1, tt, x.2.2⟩))) t
  else s

/-- PRE_BRIGHTEN. -/
def execPreBrighten (s : State) : Host.Outcome State Fault Refusal := .next (doPreBrighten s)

/-- PRE_BRIGHTEN_RESEND: once a minute within the quarter hour, the lanterns whose wave entry has ended get theirs again.
DEDUCED (log entry 93). -/
def doPreBrightenResend (s : State) : State :=
  let q := s.localSec / 900
  if s.mayPreBrighten && s.wave.preDone = some q && s.wave.preMinute != s.localMin then
    let tt := s.quarterAt q
    let again := s.wave.preSet.filter (fun x =>
      match s.lastEntry x.1 with
      | some e => decide (e.wave < 0x80) && decide (e.until_ ≤ s.now)
      | none => false)
    let t := s.setWave { s.wave with preMinute := s.localMin }
    ((again.map (fun x => x.2.1)).dedup).foldl (fun (t : State) p =>
      t.sendEntries 0x80 p 900 false ((again.filter (fun x => x.2.1 = p)).map (fun x => ⟨x.1, tt, x.2.2⟩))) t
  else s

/-- PRE_BRIGHTEN_RESEND. -/
def execPreBrightenResend (s : State) : Host.Outcome State Fault Refusal := .next (doPreBrightenResend s)

/-! ### Clearing ENABLE (R240) -/

/-- A write that clears WAVE ENABLE. -/
def doWaveDisable (m : Master) (w : Wick) (s : State) : State :=
  s.write m (w.page 6) 0x008 (s.controlCode w) (fun s =>
    let s := if s.waveRuns then s.setWave { s.wave with ran := true } else s
    let t := (s.endTracks false).store (HDR.ENABLE (w.page 6)) 0
    t.setWave { t.wave with preSet := [] })

/-- WAVE_DISABLE. -/
def execWaveDisable (m : Master) (w : Wick) (s : State) : Host.Outcome State Fault Refusal := .next (doWaveDisable m w s)

end Sys2Proof.Machine
end

