-- ==== Sys2Proof/Machine/Chain.lean ====
section
/-! DEFINITION. The signal chain of a metering domain: converter samples, the filters, scaling to primary units, the per-wick trims, zero crossings (R242 to R244, R248 to R250, R252). -/

namespace Sys2Proof.Machine

/-! ### The domains -/

/-- A wick's metering domain. -/
def State.dom (s : State) : Wick → Dom
  | .a => s.meter.domA
  | .b => s.meter.domB

/-- A wick's metering domain takes a value. -/
def State.setDom (s : State) (w : Wick) (d : Dom) : State :=
  match w with
  | .a => { s with meter := { s.meter with domA := d } }
  | .b => { s with meter := { s.meter with domB := d } }

/-- Whether a domain runs: it is on, and not frozen by a save (R246, R270, R458). -/
def State.measures (s : State) (w : Wick) : Bool := s.on (HDR.RUNNING (w.page 7)) && !(s.dom w).frozen

/-- The METER settings are common: those of Wick A's page (R245). DEDUCED (log entry 101). -/
def State.common (s : State) (f : Wick → Field) : Nat := s.get (f .a)

/-- Whether the wiring is 1P2W. -/
def State.onePhase (s : State) : Bool := s.common METER.WIRING = 1

/-- The phases the wiring uses. -/
def State.phases (s : State) : List Nat := if s.onePhase then [0] else [0, 1, 2]

/-! ### Rounding: the spec states none where a value is shown in whole units -/

/-- A value shown as a whole number: itself where it is one, else one of its neighbours. DESIGN CHOICE (log entries 10, 168). -/
def quant (x : Rat) : Int := x.floor + (if x.den = 1 then 0 else b2n (Config.roundsUp x.num.natAbs x.den))

/-- A square root shown as a whole number. DEDUCED (log entry 96). -/
def rootOf (x : Rat) : Nat :=
  let r := Nat.sqrt x.floor.toNat
  if ((r * r : Nat) : Rat) = x then r else r + b2n (Config.roundsUp x.num.natAbs x.den)

/-! ### Channels (R243, R248, R249) -/

/-- Whether a current channel has no sensor. -/
def State.noSensor (s : State) (c : Nat) : Bool := s.common (METER.TYPE · c) = 0

/-- Whether a voltage channel is unused. -/
def State.unused (s : State) (v : Nat) : Bool := s.common (METER.V_DIV · v) = 0

/-- Whether a phase reads 0 by its wiring (R244). -/
def State.absent (s : State) (x : Nat) : Bool := s.onePhase && x != 0

/-- Full scale at the pads of a current channel, in V (R243). -/
def State.padPeak (s : State) (c : Nat) : Rat :=
  if s.common (METER.PGA · c) = 0 then 1 / 2 else if s.common (METER.PGA · c) = 1 then 1 / 8 else 1 / 32

/-- Volts at the pad per primary ampere of a current channel; none without a sensor (R248). -/
def State.perAmp (s : State) (c : Nat) : Option Rat :=
  let scale : Rat := s.common (METER.SCALE · c)
  let r : Rat :=
    if s.common (METER.TYPE · c) = 2 then
      (s.common (METER.BURDEN_UOHM · c) : Rat) / 1000000 * (if s.common (METER.CT_SEC · c) = 1 then 5 else 1) / scale
    else scale / 1000000000
  if s.noSensor c ∨ r = 0 then none else some r

/-- The square of the full-scale RMS current of a channel in mA: I_FS of R248; none where the channel has no sensor. -/
def State.ifsSq (s : State) (c : Nat) : Option Rat :=
  match s.perAmp c with
  | some r => some (s.padPeak c * s.padPeak c / 2 / (r * r) * 1000000)
  | none => none

/-- I_FS_MA of a channel; a channel without a sensor has no full scale, and reads 0. -/
def State.ifsMa (s : State) (c : Nat) : Nat :=
  match s.ifsSq c with
  | some x => rootOf x
  | none => 0

/-- The square of a channel's full-scale RMS value in µV or µA (R243, R248). -/
def State.fullScaleSq (s : State) (ch : Nat) : Rat :=
  if ch < 4 then
    let r : Rat := (s.common (METER.V_DIV · ch) : Rat) / 1000
    r * r * 600000 * 600000 / 2
  else match s.ifsSq (ch - 4) with
    | some x => x * 1000000
    | none => 0

/-! ### Filters, scaling and trims (R242, R249, R250) -/

/-- A converter's 24-bit sample. -/
def sample24 (code : Int) : Int := max (-2 ^ 23) (min (2 ^ 23 - 1) code)

/-- Step 4 and the gain trim for a channel: what a filtered sample stands for, in primary µV or µA. A channel without a sensor or a divider
reads 0; a sensor whose SCALE has never been written has no stated value. DESIGN CHOICE (log entry 99). -/
def State.primary (s : State) (w : Wick) (ch : Nat) (code : Int) : Int :=
  let part : Rat := (code : Rat) / 2 ^ 23
  if ch < 4 then
    if s.unused ch then 0
    else quant (part * 600000 * ((s.common (METER.V_DIV · ch) : Rat) / 1000) * ((s.get (METER.V_GAIN w ch) : Rat) / 2 ^ 22))
  else
    let c := ch - 4
    if s.noSensor c then 0
    else match s.perAmp c with
      | some r => quant (part * s.padPeak c / r * 1000000 * ((s.get (METER.I_GAIN w c) : Rat) / 2 ^ 22))
      | none => (Config.overZero code.natAbs : Int)

/-- The memory of a filter: of a stream of samples, of a channel in it, of a stage of the chain. -/
def filterKey (stream ch stage : Nat) : Nat := (stream * 8 + ch) * 4 + stage

/-- A filter takes a sample and keeps its memory. -/
def runFilter (f : Nat → Int → Int × Nat) (key : Nat) (m : Map Nat) (x : Int) : Int × Map Nat :=
  let (y, k) := f (m.getD key 0) x
  (y, m.put key k)

/-- The chain of R242 for one sample of a channel: high-pass, integrator, scaling and gain, phase trim. -/
def State.conditioned (s : State) (w : Wick) (stream ch : Nat) (m : Map Nat) (code : Int) : Int × Map Nat :=
  let sixty := s.common METER.F_NOM = 1
  let (a, m) := runFilter Config.highPass (filterKey stream ch 0) m (sample24 code)
  let (b, m) := if 4 ≤ ch ∧ s.common (METER.TYPE · (ch - 4)) = 3 then runFilter (Config.integrator sixty) (filterKey stream ch 1) m a else (a, m)
  let c := s.primary w ch b
  let shift := if ch < 4 then 0 else toSigned 16 (s.get (METER.I_PHASE w (ch - 4)))
  if shift = 0 then (c, m) else runFilter (Config.timeShift sixty shift) (filterKey stream ch 2) m c

/-- One instant of a phase in primary units: its voltage in µV, that voltage delayed by 90°, its current in µA. -/
structure Primary where
  v : Int
  v90 : Int
  i : Int
deriving DecidableEq, Repr

/-- The samples of a phase at one instant pass the chain: the voltage is that of VM_x less that of VM_N (R244). A phase that the wiring or its
divider leaves out reads 0 (R244, R248). -/
def State.phaseInstant (s : State) (w : Wick) (stream x : Nat) (m : Map Nat) (a : Sample) : Primary × Map Nat :=
  let (vx, m) := s.conditioned w stream x m a.v
  let (vn, m) := s.conditioned w stream 3 m a.n
  let (i, m) := s.conditioned w stream (4 + x) m a.i
  let v := if s.absent x ∨ s.unused x = true then 0 else vx - vn
  let (v90, m) := runFilter (Config.hilbert (s.common METER.F_NOM = 1)) (filterKey stream x 3) m v
  ({ v := v, v90 := if v = 0 ∧ (s.absent x ∨ s.unused x = true) then 0 else v90, i := if s.absent x then 0 else i }, m)

/-- The instants of a power sample: of a phase, or for x = 3 of the phases of the total. -/
def State.instants (s : State) (w : Wick) (x : Nat) (m : Map Nat) (l : List (List Sample)) : List (List Primary) × Map Nat :=
  l.foldl (fun (acc : List (List Primary) × Map Nat) row =>
    let row := if x = 3 then row.take 3 else row.take 1
    let (r, m) := (row.mapIdx (fun k a => (k, a))).foldl (fun (b : List Primary × Map Nat) c =>
      let (p, m) := if x = 3 then s.phaseInstant w (4 + c.1) c.1 b.2 c.2 else s.phaseInstant w x x b.2 c.2
      (b.1 ++ [p], m)) ([], acc.2)
    (acc.1 ++ [r], m)) ([], m)

/-- The samples of a block where no zero crossing divides (R252). -/
def State.blockLength (s : State) : Nat := if s.common METER.F_NOM = 1 then 273 else 328

/-- Whether a voltage rises through zero inside a list. -/
def crossesInside : List Int → Bool
  | a :: b :: l => (decide (a < 0) && decide (0 ≤ b)) || crossesInside (b :: l)
  | _ => false

/-- Whether samples are one power sample (R252): a fixed block while the phase carries NO_VOLTAGE, otherwise one cycle of its voltage, inside
which it does not rise through zero again; for the total, of the reference phase. -/
def State.dividesAt (s : State) (w : Wick) (x : Nat) (l : List (List Primary)) : Bool :=
  let lost := fun (p : Nat) => s.absent p || s.unused p || (s.dom w).noVolt.contains p
  let ref := if x = 3 then s.phases.find? (fun p => !lost p) else if lost x then none else some x
  match ref with
  | none => l.length = s.blockLength
  | some p => !crossesInside (l.map (fun r => (r.getD (if x = 3 then p else 0) ⟨0, 0, 0⟩).v))

/-- A Rogowski channel's integrator starts again with its memory cleared, and settles; a channel of another type has nothing to settle (R249). -/
def State.settle (s : State) (w : Wick) (c : Nat) : State :=
  let d := s.dom w
  let filt := d.filt.filter (fun k => !(decide (k.1 % 4 = 1) && decide (k.1 / 4 % 8 = 4 + c)))
  if s.common (METER.TYPE · c) = 3 then s.setDom w { d with filt := filt, settling := d.settling.put c (s.base + millis 1500) }
  else s.setDom w { d with filt := filt, settling := d.settling.del c }

end Sys2Proof.Machine
end

