-- ==== Sys2Proof/Machine/Meter.lean ====
section
/-! DEFINITION. Feeder metering: power samples, accumulators, the per-second series, interval records, checkpoints and saves, the METER page's commands (R242 to R272, R458). -/

namespace Sys2Proof.Machine

/-! ### Quality flags (R263) -/

/-- The quality flags of a phase of a wick now. -/
def State.phFlags (s : State) (w : Wick) (x : Nat) : Nat :=
  let d := s.dom w
  b2n (d.settling.has x) + 2 * b2n (d.clip.has x || d.clip.has (4 + x) || d.clip.has 3) +
  4 * b2n (s.absent x || s.unused x || d.noVolt.contains x) + 8 * b2n d.freqRange + 16 * b2n (!s.on (METER.FLL_LOCK w)) +
  32 * s.get (METER.FAULT w) + 64 * s.get (METER.CAL_DEFAULT w) + 2048 * s.get (METER.SEQ_REVERSED w) +
  4096 * s.get (METER.MISSING_NEUTRAL w) + 8192 * b2n (d.vEvents != [])

/-- The quality flags of a wick now, over every phase and the neutral current. -/
def State.allFlags (s : State) (w : Wick) : Nat :=
  s.phases.foldl (fun v x => v ||| s.phFlags w x) (b2n ((s.dom w).settling.has 3) + 2 * b2n ((s.dom w).clip.has 7))

/-- Flags fall into a domain's open second, open interval, open window (under the number 8) and open ten-minute value. -/
def State.noteFlags (s : State) (w : Wick) (v : Nat) : State :=
  let d := s.dom w
  s.setDom w { d with
    secFlags := d.secFlags ||| v, flags := d.flags ||| v, winPh := d.winPh.put 8 (d.winPh.getD 8 0 ||| v)
    acc10 := { d.acc10 with flags := d.acc10.flags ||| v } }

/-- Flags of a phase fall into its part of the open second and of the open window. -/
def State.notePhase (s : State) (w : Wick) (x v : Nat) : State :=
  let d := s.dom w
  s.setDom w { d with secPh := d.secPh.put x (d.secPh.getD x 0 ||| v), winPh := d.winPh.put x (d.winPh.getD x 0 ||| v) }

/-! ### Interval records (R264 to R266) -/

/-- The whole mWh or mvarh of an accumulator, g = 0 to 3 for L1, L2, L3 and the total, a = 0 to 5 for IMP, EXP, Q1 to Q4. -/
def Dom.acc64 (d : Dom) (g a : Nat) : Nat := d.acc.getD (6 * g + a) 0 / 2 ^ 32 % 2 ^ 64

/-- An accumulator takes energy in 2^-32 mWh. -/
def Dom.book (d : Dom) (g a n : Nat) : Dom :=
  { d with acc := d.acc.put (6 * g + a) ((d.acc.getD (6 * g + a) 0 + n) % 2 ^ 96) }

/-- The accumulators' whole values, as an interval's opening values. -/
def Dom.wholes (d : Dom) : Map Nat := d.acc.map (fun c => (c.1, c.2 / 2 ^ 32 % 2 ^ 64))

/-- Energy since the interval opened, in the four bytes of a record. -/
def Dom.energy (d : Dom) (g a : Nat) : Nat := (d.acc64 g a + 2 ^ 64 - d.opening.getD (6 * g + a) 0) % 2 ^ 32

/-- The index of the interval of a length in minutes at an instant. -/
def intervalIndex (t len : Nat) : Nat := t / (len * 1966080)

/-- The mean of values in thousandths, in tenths; open where nothing was averaged. DESIGN CHOICE (log entry 99). -/
def meanTenths (sum n : Nat) : Nat := if n = 0 then Config.overZero sum else (quant ((sum : Rat) / n / 100)).toNat

/-- The bytes of the record that closes a domain's open interval. -/
def Dom.recordBytes (d : Dom) (w : Wick) (index flags t : Nat) : List Byte :=
  let energies := fun (a : Nat) => [0, 1, 2, 3].flatMap (fun g => leBytes 4 (d.energy g a))
  let body := leBytes 4 index ++ leBytes 1 d.len ++ leBytes 1 w.idx ++ leBytes 2 flags ++ leBytes 6 t ++
    leBytes 2 (min d.covered 0xFFFF) ++ [0, 1, 2, 3, 4, 5].flatMap energies ++
    [0, 1, 2].flatMap (fun x => leBytes 2 (meanTenths (d.avgV.getD x 0) d.avgN)) ++
    [0, 1, 2, 3].flatMap (fun x => leBytes 2 (meanTenths (d.avgI.getD x 0) d.avgN))
  body ++ leBytes 2 (crc16 body)

/-- A domain's open interval closes with a record. -/
def State.closeRecord (s : State) (w : Wick) (extra : Nat) : State :=
  let d := s.dom w
  match d.index with
  | none => s
  | some i =>
    let flags := d.flags ||| extra ||| (if d.covered < 60 * d.len then 128 else 0)
    let rec_ := (i, d.recordBytes w i flags s.now)
    (s.setDom w { d with ring := (rec_ :: d.ring).take 2880, index := none }).raise (w.page 7) 0

/-- A domain's next interval opens. -/
def State.openInterval (s : State) (w : Wick) (flags : Nat) : State :=
  let d := s.dom w
  (s.setDom w { d with index := some (intervalIndex s.now s.meter.lenMin), len := s.meter.lenMin, opening := d.wholes, covered := 0
                       flags := flags, avgV := [], avgI := [], avgN := 0 }).set (METER.REV_PHASES w) 0

/-- Every accumulator and residue of both domains is cleared (R268). DEDUCED (log entry 182). -/
def State.clearAccs (s : State) : State :=
  let t := [Wick.a, Wick.b].foldl (fun (t : State) w =>
    (t.setDom w { t.dom w with acc := [] }).set (METER.ACC_CLEAR_PEND w) 0) s
  t.event (srcMeter t.cw) 0x050B [intervalIndex t.now t.meter.lenMin]

/-- The interval length to come takes effect where a boundary of both lengths has passed since the open interval began (R264). -/
def State.adoptLength (s : State) (began : Nat) : State :=
  match s.meter.lenPend with
  | none => s
  | some n =>
    let both := Nat.lcm s.meter.lenMin n * 1966080
    if began < s.now / both * both then { s with meter := { s.meter with lenMin := n, lenPend := none } } else s

/-- Whether the end of a domain's open interval has come. -/
def State.intervalOver (s : State) (w : Wick) : Bool :=
  s.measures w && (match (s.dom w).index with
    | some i => decide (i < intervalIndex s.now (s.dom w).len)
    | none => true)

/-- The intervals whose end has come close and the next open; a pending clear or length takes effect (R264, R266, R268).
DEDUCED (log entry 100). -/
def State.rollIntervals (s : State) (extra opening : Nat) : State :=
  let ended := [Wick.a, Wick.b].filter s.intervalOver
  if ended = [] then s
  else
    let began := ((ended.filterMap (fun w => (s.dom w).index.map (fun i => i * ((s.dom w).len * 1966080)))).foldl max 0)
    let t := ended.foldl (fun t w => t.closeRecord w extra) s
    let clears := t.on (METER.ACC_CLEAR_PEND .a)
    let t := if clears then t.clearAccs else t
    let t := t.adoptLength began
    ended.foldl (fun t w => t.openInterval w (opening ||| (if clears then 16384 else 0))) t

/-! ### The per-second series (R256, R257) -/

/-- Energy in mWh, rounded up, of a sum of products in pW over samples. -/
def milliWattHours (sum : Nat) : Nat := ((sum : Rat) / 58982400000000000).ceil.toNat

/-- Whether the level of some registered lantern on a phase stands above 0 (R256). -/
def State.lampsLit (s : State) (x : Nat) : Bool :=
  let l := s.registeredList
  let fed := l.filter (fun a => s.rget a 0x1B 1 = x + 1)
  (if fed = [] then l else fed).any (fun a => decide (0 < s.predicted a s.now))

/-- The CT-polarity hint of a phase after a second of the controller's series (R256). -/
def State.polarity (s : State) (x : Nat) (p : Int) : State :=
  let export_ := decide (p < 0) && decide (s.common METER.CREEP_MW < p.natAbs) && s.lampsLit x
  let e := if export_ then min (s.meter.exportRun.getD x 0 + 1) 60 else 0
  let i := if 0 < p then min (s.meter.importRun.getD x 0 + 1) 60 else 0
  let t := { s with meter := { s.meter with exportRun := s.meter.exportRun.put x e, importRun := s.meter.importRun.put x i } }
  let hint := bit (s.get (METER.POL_HINT s.cw)) x
  let setHint := fun (t : State) (v : Nat) => [Wick.a, Wick.b].foldl (fun (t : State) w =>
    t.set (METER.POL_HINT w) (setBits (t.get (METER.POL_HINT w)) x 1 v)) t
  if e = 60 ∧ hint = false then ((setHint t 1).event t.srcCtl 0x0505 [x + 1]).raise (t.cw.page 7) 2
  else if i = 60 ∧ hint = true then setHint t 0
  else t

/-- A second of the controller's series that does not follow on the one judged before breaks the runs of R256. -/
def State.polarityBreak (s : State) (second : Nat) : State :=
  let m := s.meter
  if m.runSecond = some (second - 1) ∧ second ≠ 0 then { s with meter := { m with runSecond := some second } }
  else { s with meter := { m with runSecond := some second, exportRun := [], importRun := [] } }

/-- The series of a domain's open second. -/
def State.formSeries (s : State) (w : Wick) : Series :=
  let d := s.dom w
  let milli := fun (m : Map Int) (g : Nat) => quant ((m.getD g 0 : Rat) / 16384000000000)
  let rms := fun (m : Map Nat) (x : Nat) => if d.secN.getD x 0 = 0 then 0 else rootOf ((m.getD x 0 : Rat) / d.secN.getD x 0 / 1000000)
  { second := d.second, p := [0, 1, 2, 3].map (milli d.secP), q := [0, 1, 2, 3].map (milli d.secQ)
    e := [0, 1, 2, 3].map (fun x => milliWattHours (d.secAbs.getD x 0)), v := [0, 1, 2].map (rms d.secV), i := [0, 1, 2].map (rms d.secI)
    flags := d.secFlags ||| s.allFlags w
    ph := [0, 1, 2].map (fun x => d.secPh.getD x 0 ||| s.phFlags w x), arrived := s.author }

/-- The open second of a domain closes: its series is formed, and counts as covered where the domain measured throughout. -/
def State.closeSecond (s : State) (w : Wick) : State :=
  let d := s.dom w
  let x := s.formSeries w
  let whole := decide (d.since ≤ d.second * 32768)
  let t := s.setDom w { d with
    second := s.now / 32768, secP := [], secQ := [], secAbs := [], secV := [], secI := [], secN := [], secFlags := 0, secPh := []
    series := (x :: d.series).take 120
    covered := if whole then min (d.covered + 1) 0xFFFF else d.covered, flags := d.flags ||| x.flags }
  let t := [0, 1, 2].foldl (fun (t : State) g =>
    (t.set (METER.P_1S_MW w g) (ofSigned 32 (x.p.getD g 0))).set (METER.E_1S_MWH w g) (x.e.getD g 0)) t
  let t := t.set (METER.SEC_LO w) (x.second % 2 ^ 32)
  if t.isController w then t.phases.foldl (fun t g => t.polarity g (x.p.getD g 0)) (t.polarityBreak x.second) else t

/-- The seconds and intervals that have ended close. -/
def State.rollMeter (s : State) : State :=
  let t := [Wick.a, Wick.b].foldl (fun (t : State) w =>
    if t.measures w && decide ((t.dom w).second < t.now / 32768) then t.closeSecond w else t) s
  t.rollIntervals 0 0

/-- PER_SECOND_CLOSE: a whole second has ended in a domain. -/
def execPerSecondClose (w : Wick) (s : State) : Host.Outcome State Fault Refusal :=
  .next (if s.measures w && decide ((s.dom w).second < s.now / 32768) then s.closeSecond w else s)

/-- INTERVAL_CLOSE: the boundary of an interval has come. -/
def execIntervalClose (s : State) : Host.Outcome State Fault Refusal := .next s.rollMeter

/-! ### Power samples (R252 to R255) -/

/-- Whether the voltage of a phase over a power sample lies below 10 % of NOMINAL_V. -/
def State.lowVoltage (s : State) (l : List Primary) : Bool :=
  decide ((l.map (fun x => x.v * x.v)).sum < ((s.common METER.NOMINAL_V * 10000 * (s.common METER.NOMINAL_V * 10000) * l.length : Nat) : Int))

/-- A reversal on a phase (R255). -/
def State.reversal (s : State) (w : Wick) (x : Nat) (exports : Bool) : State :=
  let t := ((s.bump (METER.REVERSE_CNT w) 1).noteFlags w 512).notePhase w x 512
  if bit (s.get (METER.REV_PHASES w)) x then t
  else
    let t := t.set (METER.REV_PHASES w) (setBits (s.get (METER.REV_PHASES w)) x 1 1)
    (t.event (srcMeter w) 0x0504 [x + 1, b2n exports, (t.dom w).index.getD 0]).raise (w.page 7) 1

/-- Energy in 2^-32 mWh of a sum of products in pW over samples. -/
def energyUnits (sum : Nat) : Nat := (quant ((sum : Rat) * 2 ^ 32 / 58982400000000000)).toNat

/-- A power sample of a phase or, for x = 3, of the total: each instant lists the phases' converter samples. They pass the chain; what is one cycle or
block is classified, counted against creep, booked, and judged for a reversal. DESIGN CHOICE (log entries 2, 95). -/
def doPowerSampleClose (w : Wick) (x : Nat) (l : List (List Sample)) (s : State) : State :=
  let s := if s.measures w then s.rollMeter else s
  let (rows, filt) := s.instants w x (s.dom w).filt l
  if s.measures w && s.dividesAt w x rows then
    let all : List Primary := rows.flatten
    let n := l.length
    let sumP : Int := (all.map (fun a => a.v * a.i)).sum
    let sumQ : Int := (all.map (fun a => a.v90 * a.i)).sum
    let creep := s.common METER.CREEP_MW * 1000000000 * n * (if x = 3 then s.phases.length else 1)
    let zeroP := decide (sumP.natAbs < creep)
    let zeroQ := decide (sumQ.natAbs < creep)
    let p := if zeroP then 0 else sumP
    let q := if zeroQ then 0 else sumQ
    let d := { s.dom w with filt := filt }
    let d := d.book x (if 0 ≤ p then 0 else 1) (energyUnits p.natAbs)
    let quadrant := if 0 ≤ p then (if 0 ≤ q then 2 else 5) else (if 0 ≤ q then 3 else 4)
    let d := d.book x quadrant (energyUnits q.natAbs)
    let addI := fun (m : Map Int) (v : Int) => m.put x (m.getD x 0 + v)
    let addN := fun (m : Map Nat) (v : Nat) => m.put x (m.getD x 0 + v)
    let d := { d with
      secP := addI d.secP p, secQ := addI d.secQ q, secAbs := addN d.secAbs sumP.natAbs, secN := addN d.secN n
      secV := addN d.secV (all.map (fun (a : Primary) => a.v * a.v)).sum.natAbs
      secI := addN d.secI (all.map (fun (a : Primary) => a.i * a.i)).sum.natAbs
      winP := addI d.winP p, winQ := addI d.winQ q, winN := addN d.winN n }
    let noVolt := if s.lowVoltage all then (if d.noVolt.contains x then d.noVolt else x :: d.noVolt) else d.noVolt.filter (· ≠ x)
    let t := s.setDom w { d with noVolt := if x = 3 then d.noVolt else noVolt }
    let t := t.noteFlags w (if x = 3 then t.allFlags w else t.phFlags w x)
    let t := t.notePhase w x (t.phFlags w x)
    if x = 3 ∨ zeroP = true then t
    else
      let exports := decide (sumP < 0)
      let was := d.prevDir.get? x
      let t := t.setDom w { t.dom w with prevDir := d.prevDir.put x (b2n exports) }
      if was.isSome && was != some (b2n exports) then t.reversal w x exports else t
  else s

/-- POWER_SAMPLE_CLOSE. -/
def execPowerSampleClose (w : Wick) (x : Fin 4) (l : List (List Sample)) (s : State) : Host.Outcome State Fault Refusal :=
  .next (doPowerSampleClose w x.val l s)

/-! ### Overload and settling (R243, R249) -/

/-- The wick whose domain the WAVEFORM FIFO takes packets from (R273). -/
def State.wfWick (s : State) : Option Wick :=
  if s.common METER.WF_SRC = 0 then some .a else if s.common METER.WF_SRC = 1 then some .b else s.author

/-- A capture starts on a wick. -/
def State.startCapture (s : State) (w : Wick) : State :=
  if s.measures w then
    let c : Capture := { wick := w, time := s.now, mask := s.common METER.CAP_CHANNELS, samples := s.common METER.CAP_SAMPLES
                         flags := s.allFlags w }
    { s with meter := { s.meter with capture := some c } }
  else s

/-- An event of a domain starts a capture where CAP_ON_EVENT is 1 and none runs (R273). -/
def State.captureEvent (s : State) (w : Wick) : State :=
  if s.common METER.CAP_ON_EVENT = 1 ∧ s.wfWick = some w ∧ s.meter.capture = none then s.startCapture w else s

/-- SAMPLE_CLIP: a clipped sample starts or extends a channel's overload episode; channels 4 to 7 are the current channels. -/
def doSampleClip (w : Wick) (ch : Nat) (s : State) : State :=
  if s.measures w then
    let fresh := !(s.dom w).clip.has ch
    let t := s.setDom w { s.dom w with clip := (s.dom w).clip.put ch s.base }
    let t := t.noteFlags w 2
    if fresh then
      let t := if ch < 4 then t else t.settle w (ch - 4)
      (((t.bump (METER.OVERLOAD_CNT w) 1).event (srcMeter w) 0x0501 [ch]).raise (w.page 7) 5).captureEvent w
    else t
  else s

/-- SAMPLE_CLIP. -/
def execSampleClip (w : Wick) (ch : Fin 8) (s : State) : Host.Outcome State Fault Refusal := .next (doSampleClip w ch.val s)

/-- OVERLOAD_END: 200 ms without a clipped sample. -/
def execOverloadEnd (w : Wick) (ch : Fin 8) (s : State) : Host.Outcome State Fault Refusal :=
  .next (match (s.dom w).clip.get? ch.val with
    | some t => if t + millis 200 ≤ s.base then s.setDom w { s.dom w with clip := (s.dom w).clip.del ch.val } else s
    | none => s)

/-- SETTLING_END: a Rogowski channel has settled 1.5 s after its restart. -/
def execSettlingEnd (w : Wick) (c : Fin 4) (s : State) : Host.Outcome State Fault Refusal :=
  .next (match (s.dom w).settling.get? c.val with
    | some t => if t ≤ s.base then s.setDom w { s.dom w with settling := (s.dom w).settling.del c.val } else s
    | none => s)

/-! ### Checkpoints and saves (R269 to R272, R458) -/

/-- The timer of a domain's checkpoints. -/
def tmCkpt (w : Wick) : Nat := 120 + w.idx

/-- What a domain saves. -/
def Dom.save (d : Dom) (seq : Nat) (bounds : Option (List Nat)) : Saved :=
  { seq := seq, acc := d.acc, opening := d.opening, index := d.index, len := d.len, covered := d.covered, flags := d.flags
    e := match d.series.head? with | some x => x.e.take 3 | none => [0, 0, 0], bounds := bounds }

/-- The hold-up bound of each phase: the P_1S of the last second for 12 ms, in mWh rounded up (R271). -/
def Dom.bounds (d : Dom) : List Nat :=
  match d.series.head? with
  | some x => [0, 1, 2].map (fun g => (((x.p.getD g 0).natAbs : Rat) * 12 / 3600000).ceil.toNat)
  | none => [0, 0, 0]

/-- METER_CHECKPOINT: a running domain's checkpoint falls due; one still unfinished when the next is due is abandoned. No
checkpoint is written during a final save. -/
def doMeterCheckpoint (w : Wick) (finished : Bool) (s : State) : State :=
  if s.measures w && !s.saving && s.due (tmCkpt w) then
    let s := s.rollMeter
    let d := s.dom w
    let t := s.arm (tmCkpt w) 32768
    if finished then
      t.setDom w { d with ckpts := (d.save (d.ckptSeq + 1) none :: d.ckpts).take 2, ckptSeq := d.ckptSeq + 1 }
    else t.bump (METER.CKPT_FAIL_CNT w) 1
  else s

/-- METER_CHECKPOINT: `finished` says whether it is complete before the next is due. -/
def execMeterCheckpoint (w : Wick) (finished : Bool) (s : State) : Host.Outcome State Fault Refusal :=
  .next (doMeterCheckpoint w finished s)

/-- A domain's frozen state (R270, R458). -/
def State.freezeDom (s : State) (w : Wick) (final : Bool) : State :=
  let d := s.dom w
  if d.frozen then
    match final, d.stopping with
    | true, some x => s.setDom w { d with stopping := some { x with bounds := some d.bounds } }
    | _, _ => s
  else s.setDom w { d with frozen := true, stopping := some (d.save (d.ckptSeq + 1) (if final then some d.bounds else none)) }

/-- A domain is switched off. -/
def State.domOff (s : State) (w : Wick) : State :=
  let t := (((s.setPd (meterPd w) false).set (HDR.RUNNING (w.page 7)) 0).set (HDR.RUNNING (w.page 8)) 0).disarm (tmCkpt w)
  let t := t.setDom w { t.dom w with frozen := false, stopping := none }
  let t := if t.wfWick = some w then t.abandonPacket 2 else t
  match t.meter.capture with
  | some c => if c.wick = w then { t with meter := { t.meter with capture := none } } else t
  | none => t

/-- The frozen state of a domain is committed as its save. -/
def State.commitSave (s : State) (w : Wick) : State :=
  let d := s.dom w
  match d.stopping with
  | some x => s.setDom w { d with saved := some x, ckptSeq := x.seq, stopping := none }
  | none => s

/-- The newest of the saves and checkpoints a domain finds. -/
def Dom.newest (d : Dom) : Option (Saved × Bool) :=
  let c := leastOn? (fun x => 2 ^ 64 - x.seq) d.ckpts
  match d.saved, c with
  | some x, some y => if y.seq < x.seq then some (x, true) else some (y, false)
  | some x, none => some (x, true)
  | none, some y => some (y, false)
  | none, none => none

/-- A domain takes up where a save or a checkpoint left off, or from 0 (R272). -/
def Dom.resume (d : Dom) (now : Nat) : Dom :=
  let fresh := { Dom.empty with
    since := now, second := now / 32768, ring := d.ring, ckpts := d.ckpts, ckptSeq := d.ckptSeq, saved := d.saved, record := true
    winIndex := d.winIndex, period := some (now / 19660800), len := d.len }
  match d.newest with
  | some (x, _) => { fresh with acc := x.acc, opening := x.opening, index := x.index, len := x.len, covered := x.covered
                                flags := x.flags }
  | none => fresh

/-- The volatile fields of a metering domain's pages return to their reset values (R44). -/
def State.meterVolatile (s : State) (w : Wick) : State :=
  let fs := (METER.fields w ++ HARM.fields w).filter (fun f => !f.keep && 0x40 ≤ f.off)
  let t := fs.foldl (fun (t : State) f => t.set f f.reset) s
  let fs := [METER.SETTLING w, METER.OVERLOAD w, METER.FAULT w, METER.SEQ_OK w, METER.SEQ_REVERSED w, METER.MISSING_NEUTRAL w,
    HARM.SYNC w, HARM.AGG_VALID w, HDR.IRQ_RAW (w.page 7), HDR.IRQ_RAW (w.page 8), HDR.ERR_COUNT (w.page 7)] ++
    [HDR.ERR_FIRST (w.page 7), HDR.ERR_COUNT (w.page 8), HDR.ERR_FIRST (w.page 8)]
  fs.foldl (fun (t : State) f => t.set f f.reset) t

/-- The interval a domain finds open when it starts is carried on or written, and the next one opens (R265, R272).
DEDUCED (log entry 100). -/
def State.resumeInterval (s : State) (w : Wick) (extra opening : Nat) : State :=
  let d := s.dom w
  match d.index with
  | none => s.openInterval w (128 ||| opening)
  | some i =>
    let now := intervalIndex s.now d.len
    if now = i then s.setDom w { d with flags := d.flags ||| 128 ||| extra ||| opening }
    else if now < i then s.setDom w { d with flags := d.flags ||| 128 ||| 256 ||| extra ||| opening }
    else ((s.closeRecord w (128 ||| extra)).adoptLength (i * (d.len * 1966080))).openInterval w (128 ||| opening)

/-- A metering domain is powered, once the base runs on the crystal; it runs as soon as its FLL has locked (R12, R364). -/
def State.powerDom (s : State) (w : Wick) : State := if s.on PWR.XTAL_OK then s.setPd (meterPd w) true else s

/-- A powered metering domain starts: it loads its settings, chooses where its accumulators start, and runs (R246, R249, R272). -/
def State.startDom (s : State) (w : Wick) : State :=
  let old := s.dom w
  let t := (s.meterVolatile w).setDom w (old.resume s.now)
  let t := t.setAll [(HDR.RUNNING (w.page 7), 1), (HDR.RUNNING (w.page 8), 1), (METER.FLL_LOCK w, 1)]
  let t := [0, 1, 2, 3].foldl (fun t c => t.settle w c) t
  let t := t.arm (tmCkpt w) 32768
  match old.newest with
  | some (x, true) =>
    let t := t.set (METER.LAST_START w) 1
    let t := match x.bounds with
      | some b => t.event (srcMeter w) 0x050C b
      | none => t
    (t.setDom w { t.dom w with saved := some { x with bounds := none } }).resumeInterval w 0 0
  | some (x, false) =>
    let t := (t.set (METER.LAST_START w) 2).setWords (METER.UNSAVED_MWH w) 0 x.e
    let t := (t.event (srcMeter w) 0x050D (x.e ++ [x.seq % 2 ^ 24])).raise (w.page 7) 7
    t.resumeInterval w 1024 0
  | none =>
    if old.record then ((t.set (METER.LAST_START w) 3).event (srcMeter w) 0x050E []).resumeInterval w 0 16384
    else t.resumeInterval w 0 0

/-- METER_DOMAIN_RUNNING: the FLL of a powered domain has locked, and RUNNING follows ENABLE. -/
def doMeterDomainRunning (w : Wick) (s : State) : State :=
  if s.pdOn (meterPd w) && !s.on (HDR.RUNNING (w.page 7)) && s.on (HDR.ENABLE (w.page 7)) && !s.saving then s.startDom w else s

/-- METER_DOMAIN_RUNNING. -/
def execMeterDomainRunning (w : Wick) (s : State) : Host.Outcome State Fault Refusal := .next (doMeterDomainRunning w s)

/-- FLL_LOSS_OF_LOCK: from here on every value of the domain carries FLL_UNLOCK, and so do the open second, interval and aggregate
(R263). -/
def doFllLossOfLock (w : Wick) (s : State) : State :=
  if s.on (METER.FLL_LOCK w) then
    let t := (s.set (METER.FLL_LOCK w) 0).noteFlags w 16
    s.phases.foldl (fun (t : State) x => t.notePhase w x 16) t
  else s

/-- FLL_LOSS_OF_LOCK. -/
def execFllLossOfLock (w : Wick) (s : State) : Host.Outcome State Fault Refusal := .next (doFllLossOfLock w s)

/-- FLL_RELOCK. -/
def execFllRelock (w : Wick) (s : State) : Host.Outcome State Fault Refusal :=
  .next (if s.on (HDR.RUNNING (w.page 7)) then s.set (METER.FLL_LOCK w) 1 else s)

/-- The codes that refuse a write of METER CTRL, which stands in the Pilot domain (R246). -/
def State.meterCtrlCodes (s : State) (m : Master) (w : Wick) : List Nat :=
  (if m = .hostN ∧ nsMayWrite (w.page 7) 0x008 = false then [0x1] else []) ++ (if s.pageLocked m (w.page 7) 0x008 then [0x2] else [])

/-- A write of METER CTRL: refused and counted, or carried out. DEDUCED (log entry 102). -/
def State.meterCtrl (s : State) (m : Master) (w : Wick) (k : State → State) : State :=
  if s.acts m then
    match minimum? (s.meterCtrlCodes m w) with
    | some c => s.countErr (errPage (w.page 7) c) m (w.page 7) 0x008 c
    | none => k s
  else s

/-- A write of 1 to METER CTRL.ENABLE: the domain is powered unless it runs. -/
def doMeterEnable (m : Master) (w : Wick) (s : State) : State :=
  s.meterCtrl m w (fun s =>
    let t := s.set (HDR.ENABLE (w.page 7)) 1
    if s.on (HDR.RUNNING (w.page 7)) ∨ s.saving = true then t else t.powerDom w)

/-- METER_ENABLE. -/
def execMeterEnable (m : Master) (w : Wick) (s : State) : Host.Outcome State Fault Refusal := .next (doMeterEnable m w s)

/-- A write of 0 to METER CTRL.ENABLE: a running domain freezes for its stop save (R458). -/
def doMeterDisable (m : Master) (w : Wick) (s : State) : State :=
  s.meterCtrl m w (fun s =>
    let t := s.set (HDR.ENABLE (w.page 7)) 0
    if s.measures w then t.rollMeter.freezeDom w false
    else if s.on (HDR.RUNNING (w.page 7)) then t else t.domOff w)

/-- METER_DISABLE. -/
def execMeterDisable (m : Master) (w : Wick) (s : State) : Host.Outcome State Fault Refusal := .next (doMeterDisable m w s)

/-- STOP_SAVE_DONE: the stop save is committed and the domain switched off; where ENABLE is 1 again it starts from that save. A
final save that has begun takes its place. -/
def doStopSaveDone (w : Wick) (s : State) : State :=
  if s.on (HDR.RUNNING (w.page 7)) && (s.dom w).frozen && !s.saving then
    let t := (s.commitSave w).domOff w
    if t.on (HDR.ENABLE (w.page 7)) then t.powerDom w else t
  else s

/-- STOP_SAVE_DONE. -/
def execStopSaveDone (w : Wick) (s : State) : Host.Outcome State Fault Refusal := .next (doStopSaveDone w s)

/-! ### Settings (R245, R247, R248, R250, R264) -/

/-- Whether a field is sealed while SEAL is 1. -/
def sealedField (f : Field) : Bool :=
  f.page % 16 = 7 && (f.off = 0x040 || (f.off = 0x044 && f.lo = 16) || (0x050 ≤ f.off && f.off < 0x0F0))

/-- The length an INTERVAL_MIN write stores: the next lower value that divides 60 (R264). -/
def intervalStored (v : Nat) : Nat :=
  ([60, 30, 20, 15, 12, 10, 6, 5, 4, 3, 2].find? (· ≤ v)).getD 1

/-- What a common METER field stores (R248, R264). -/
def State.meterStored (s : State) (f : Field) (v : Nat) : Nat :=
  let c := (f.off - 0x070) / 0x20
  let v := v % 2 ^ f.width
  if f = METER.INTERVAL_MIN .a then intervalStored v
  else if f.page % 16 = 7 ∧ 0x050 ≤ f.off ∧ f.off < 0x070 then (if v = 0 then 0 else clampTo 1000 10000000 v)
  else if f = METER.SCALE .a c then
    let ty := s.common (METER.TYPE · c)
    if ty = 1 then clampTo 100000 1000000 v else if ty = 2 then clampTo 5 5000 v else if ty = 3 then clampTo 1000 500000 v else v
  else if f = METER.BURDEN_UOHM .a c then clampTo 1000 2000000 v
  else f.stored v

/-- A field of Wick A's page on another wick's. DEDUCED (log entry 20). -/
def Field.onWick (f : Field) (w : Wick) : Field := { f with page := w.page (f.page % 16) }

/-- The channel of a sensor field, divider or trim: 0 to 3 voltage, 4 to 7 current. -/
def calChannel (off : Nat) : Nat := if off < 0x070 then (off - 0x050) / 8 else 4 + (off - 0x070) / 0x20

/-- A common field takes a value on both pages, and what follows from it (R245, R247, R249, R264). DEDUCED (log entry 101). -/
def State.setCommon (s : State) (f : Field) (v : Nat) : State :=
  let old := s.get f
  let x := s.meterStored f v
  let t := (s.set (f.onWick .a) x).set (f.onWick .b) x
  if f = METER.INTERVAL_MIN .a then
    { t with meter := { t.meter with lenPend := if x = t.meter.lenMin then none else some x } }
  else if f.page % 16 = 7 ∧ 0x070 ≤ f.off ∧ f.off < 0x0F0 ∧ x ≠ old ∧
      (f.off % 0x20 = 0x14 ∨ (f.off % 0x20 = 0x10 ∧ f.lo < 8)) then
    let c := (f.off - 0x070) / 0x20
    (t.settle .a c).settle .b c
  else t

/-- The trim at an offset of the METER page. DEDUCED (log entry 101). -/
def trimField (w : Wick) (off : Nat) : Option Field :=
  (List.range 4).findSome? (fun c =>
    [METER.V_GAIN w c, METER.I_GAIN w c, METER.I_PHASE w c].find? (fun f => f.off = off))

/-- The common fields of a word of the METER or HARM page: trims belong to one wick, and so do H_CH and H_VIEW (R245, R250, R275).
DEDUCED (log entry 101). -/
def commonFields (pos off : Nat) : List Field :=
  (wordFields (Wick.a.page pos) off).filter (fun f => f.acc = .rw && 0x40 ≤ f.off && f.off < 0x100 &&
    !(decide (f = HARM.H_CH .a)) && !(decide (f = HARM.H_VIEW .a)) && !(decide (trimField .a f.off = some f)))

/-- A write of a word of common fields through a wick's page: sealed fields keep their values, and the write is counted where it
would change one (R247). -/
def doCommonFieldWrite (m : Master) (w : Wick) (pos off v : Nat) (s : State) : State :=
  let page := w.page pos
  s.write m page off [] (fun s =>
    let fs := commonFields pos off
    let isSealed := fun (f : Field) => s.on (METER.SEAL .a) && sealedField f
    let changes := fs.any (fun f => isSealed f && s.meterStored f (bits v f.lo f.width) != s.get f)
    let t := (fs.filter (fun f => !isSealed f)).foldl (fun (t : State) f => t.setCommon f (bits v f.lo f.width)) s
    let t := if changes then t.countErr page m page off 2 else t
    if pos = 7 ∧ 0x050 ≤ off ∧ off < 0x0F0 ∧ fs ≠ [] ∧ s.on (METER.SEAL .a) = false then
      t.event (srcMeter w) 0x0503 [calChannel off, off]
    else t)

/-- COMMON_FIELD_WRITE: `harm` chooses the HARM page. -/
def execCommonFieldWrite (m : Master) (w : Wick) (harm : Bool) (off : BitVec 12) (v : Word) (s : State) :
    Host.Outcome State Fault Refusal :=
  .next (doCommonFieldWrite m w (if harm then 8 else 7) (off.toNat / 4 * 4) v.toNat s)

/-- A write of a trim: refused while SEAL is 1 (R247, R250). -/
def doTrimWrite (m : Master) (w : Wick) (off v : Nat) (s : State) : State :=
  let page := w.page 7
  s.write m page off [] (fun s =>
    match trimField w off with
    | none => s
    | some f =>
      let x := if f.width = 23 then clampTo 0x300000 0x500000 (v % 2 ^ 23) else f.stored v
      if s.on (METER.SEAL w) then (if x = s.get f then s else s.countErr page m page off 2)
      else ((s.set f x).set (METER.CAL_DEFAULT w) 0).event (srcMeter w) 0x0503 [calChannel off, off])

/-- TRIM_WRITE. -/
def execTrimWrite (m : Master) (w : Wick) (off : BitVec 12) (v : Word) (s : State) : Host.Outcome State Fault Refusal :=
  .next (doTrimWrite m w (off.toNat / 4 * 4) v.toNat s)

/-- A write of 1 to SEAL: it stays set, cancels a pending clear, and is logged once. -/
def doSeal (m : Master) (w : Wick) (s : State) : State :=
  s.meterCtrl m w (fun s =>
    if s.on (METER.SEAL w) then s
    else (s.setAll [(METER.SEAL .a, 1), (METER.SEAL .b, 1), (METER.ACC_CLEAR_PEND .a, 0), (METER.ACC_CLEAR_PEND .b, 0)]).event
      (srcMeter w) 0x0502 [])

/-- SEAL. -/
def execSeal (m : Master) (w : Wick) (s : State) : Host.Outcome State Fault Refusal := .next (doSeal m w s)

/-! ### METER CMD, records (R267, R268, R273) -/

/-- A write of CMD = ACC_CLEAR. -/
def doAccClear (m : Master) (w : Wick) (s : State) : State :=
  s.write m (w.page 7) 0x048 [] (fun s =>
    if s.on (METER.SEAL w) then (s.countErr (w.page 7) m (w.page 7) 0x048 2).set (METER.CMD_STATUS w) 1
    else if (s.on (HDR.RUNNING (Wick.a.page 7)) && s.on (HDR.RUNNING (Wick.b.page 7))) = false then s.set (METER.CMD_STATUS w) 2
    else s.setAll [(METER.ACC_CLEAR_PEND .a, 1), (METER.ACC_CLEAR_PEND .b, 1), (METER.CMD_STATUS w, 0)])

/-- ACC_CLEAR. -/
def execAccClear (m : Master) (w : Wick) (s : State) : Host.Outcome State Fault Refusal := .next (doAccClear m w s)

/-- A write of CMD = CAPTURE: the domain that WF_SRC selects captures, unless a capture runs. -/
def doCapture (m : Master) (w : Wick) (s : State) : State :=
  s.write m (w.page 7) 0x048 [] (fun s =>
    if s.meter.capture.isSome then s.set (METER.CMD_STATUS w) 3
    else
      let t := s.set (METER.CMD_STATUS w) 0
      match s.wfWick with
      | some x => t.startCapture x
      | none => t)

/-- CAPTURE. -/
def execCapture (m : Master) (w : Wick) (s : State) : Host.Outcome State Fault Refusal := .next (doCapture m w s)

/-- The captured samples in µV and µA, interleaved in channel order. -/
def State.captured (s : State) (c : Capture) (l : List Int) : List Int :=
  let chans := (List.range 8).filter (bit c.mask)
  (l.take (c.samples * chans.length)).mapIdx (fun k v => s.primary c.wick (chans.getD (k % chans.length) 0) v)

/-- CAPTURE_DONE: the capture ends with its filtered samples, interleaved in channel order; they are scaled, and its packet is written where WF_SRC
still selects its domain (R273). DESIGN CHOICE (log entry 205). -/
def doCaptureDone (l : List Int) (s : State) : State :=
  match s.meter.capture with
  | none => s
  | some c =>
    let t : State := { s with meter := { s.meter with capture := none } }
    let head := [c.time % 2 ^ 32, c.time / 2 ^ 32 % 2 ^ 16 + 2 ^ 16 * c.mask + 2 ^ 24 * c.wick.idx,
      c.samples + 2 ^ 16 * (c.flags ||| s.allFlags c.wick)]
    let t := if t.wfWick = some c.wick then t.packet 2 0x01 (head ++ (s.captured c l).map (ofSigned 32)) else t
    t.raise (c.wick.page 7) 8

/-- CAPTURE_DONE. -/
def execCaptureDone (l : List Int) (s : State) : Host.Outcome State Fault Refusal := .next (doCaptureDone l s)

/-- A write of REC_REQ_INDEX: the record of that index is fetched. -/
def doRecFetch (m : Master) (w : Wick) (i : Nat) (s : State) : State :=
  s.write m (w.page 7) 0x314 [] (fun s =>
    let t := s.set (METER.REC_REQ_INDEX w) i
    match (s.dom w).ring.find? (fun r => r.1 = i) with
    | some r => ((t.setWords (METER.REC_DATA w) 0 (toWords r.2)).set (METER.REC_STATUS w) 0).raise (w.page 7) 9
    | none => (t.setWords (METER.REC_DATA w) 0 (List.replicate 32 0)).set (METER.REC_STATUS w) 2)

/-- REC_FETCH. -/
def execRecFetch (m : Master) (w : Wick) (i : Word) (s : State) : Host.Outcome State Fault Refusal := .next (doRecFetch m w i.toNat s)

/-! ### Steps of segment time (R265) -/

/-- A domain's open second, interval and aggregates carry TIME_STEP. -/
def State.noteStep (s : State) (w : Wick) : State :=
  [0, 1, 2].foldl (fun (t : State) x => t.notePhase w x 256) (s.noteFlags w 256)

/-- Segment time takes a new value by a step: a second that it leaves is formed from the power samples it holds; the seconds, intervals and aggregates it
crosses carry TIME_STEP (R257, R265). DEDUCED (log entry 104). -/
def State.meterStep (s : State) (now : Nat) : State :=
  let on := [Wick.a, Wick.b].filter s.measures
  let t := on.foldl (fun (t : State) w =>
    let t := t.noteStep w
    if (t.dom w).second = now / 32768 then t else (t.setDom w { t.dom w with since := t.now }).closeSecond w) s
  let ahead := on.filter (fun w => match (s.dom w).index with
    | some i => decide (i < intervalIndex now (s.dom w).len)
    | none => false)
  let t := ahead.foldl (fun (t : State) w => t.closeRecord w (128 ||| 256)) t
  let t : State := { t with now := now }
  let t := ahead.foldl (fun (t : State) w =>
    (t.adoptLength ((s.dom w).index.getD 0 * ((s.dom w).len * 1966080))).openInterval w (128 ||| 256)) t
  on.foldl (fun (t : State) w => (t.setDom w { t.dom w with second := now / 32768, since := now }).noteStep w) t

end Sys2Proof.Machine
end

