-- ==== Sys2Proof/Machine/Harmonics.lean ====
section
/-! DEFINITION. The harmonic engine, aggregates, voltage events, phase sequence, missing neutral and the HARM page (R251, R258 to R262, R273, R275). -/

namespace Sys2Proof.Machine

/-! ### The DFT of a window (R258) -/

/-- The real and the imaginary part of bin k of a window, in units of 10^-12. DEDUCED (log entry 96). -/
def dftBin (x : List Int) (k : Nat) : Int × Int :=
  let m := x.length
  let angle := fun (n : Nat) => 360 * fx * ((k * n % m : Nat) : Int) / (m : Int)
  ((x.mapIdx (fun n v => v * cosDeg (angle n))).sum, -(x.mapIdx (fun n v => v * sinDeg (angle n))).sum)

/-- The square of C_k: the RMS value of bin k. DEDUCED (log entry 96). -/
def binSq (x : List Int) (k : Nat) : Rat :=
  let z := dftBin x k
  let top : Int := 2 * (z.1 * z.1 + z.2 * z.2)
  let m : Int := (x.length : Int) * x.length * (fx * fx)
  (top : Rat) / (m : Rat)

/-- The cycles in a window. -/
def State.windowCycles (s : State) : Nat := if s.common METER.F_NOM = 1 then 12 else 10

/-- A channel of a window: the mean square of its samples, the squares of its subgroups G_1 to G_63. -/
def windowChannel (cycles : Nat) (x : List Int) : Rat × List Rat :=
  let sq : Int := (x.map (fun v => v * v)).sum
  ((sq : Rat) / (x.length : Nat),
   (List.range 63).map (fun n => binSq x (cycles * (n + 1) - 1) + binSq x (cycles * (n + 1)) + binSq x (cycles * (n + 1) + 1)))

/-- The samples of a window's eight channels pass the chain (R242). -/
def State.windowSamples (s : State) (w : Wick) (l : List (List Int)) : List (List Int) × Map Nat :=
  (List.range 8).foldl (fun (acc : List (List Int) × Map Nat) ch =>
    let (x, m) := (l.getD ch []).foldl (fun (b : List Int × Map Nat) code =>
      let (y, m) := s.conditioned w 6 ch b.2 code
      (b.1 ++ [y], m)) ([], acc.2)
    (acc.1 ++ [x], m)) ([], (s.dom w).filt)

/-- The 2,048 resampled samples of a channel; one that the wiring, its divider or its sensor leaves out reads 0 (R244, R248, R258). -/
def resample (live : Bool) (x : List Int) : List Int := (List.range 2048).map (fun n => if live then Config.resampled x n else 0)

/-- The eight channels of a window: the phase voltages against VM_N, the displacement, the currents. -/
def State.windowChannels (s : State) (l : List (List Int)) : List (List Int) :=
  let n := l.getD 3 []
  [0, 1, 2].map (fun x => resample (!s.absent x && !s.unused x) (((l.getD x []).zip n).map (fun p => p.1 - p.2))) ++
  [resample (!s.unused 3) n] ++
  [0, 1, 2].map (fun x => resample (!s.absent x && !s.noSensor x) (l.getD (4 + x) [])) ++ [resample (!s.noSensor 3) (l.getD 7 [])]

/-- A channel of a view. -/
def Harm.chan (h : Harm) (c : Nat) : Rat × List Rat := h.chans.getD c (0, [])

/-- G_n squared. DEDUCED (log entry 96). -/
def subgroup (c : Rat × List Rat) (n : Nat) : Rat := c.2.getD (n - 1) 0

/-- THD in 0.01 %: 0xFFFF where G_1 lies below 1 % of the channel's full scale (R258).
DEDUCED (log entry 97); DESIGN CHOICE (log entry 99). -/
def State.thd (s : State) (ch : Nat) (c : Rat × List Rat) : Nat :=
  let g1 := subgroup c 1
  if g1 * 10000 < s.fullScaleSq ch ∨ g1 = 0 then 0xFFFF
  else min 0xFFFF (rootOf (((List.range 49).map (fun n => subgroup c (n + 2))).sum / g1 * 100000000))

/-- Channel values added. -/
def addChans (a b : List (Rat × List Rat)) : List (Rat × List Rat) :=
  if a = [] then b
  else (a.zip b).map (fun p => (p.1.1 + p.2.1, (p.1.2.zip p.2.2).map (fun q => q.1 + q.2)))

/-- Channel values divided. -/
def divChans (a : List (Rat × List Rat)) (n : Nat) : List (Rat × List Rat) :=
  a.map (fun c => (c.1 / n, c.2.map (· / (n : Rat))))

/-! ### Ten-minute values (R259, R273) -/

/-- The words of a ten-minute packet. -/
def State.aggPacket (s : State) (w : Wick) (h : Harm) (n : Nat) : List Nat :=
  let t := h.index * 19660800
  let share := fun (c : Rat × List Rat) (k : Nat) =>
    if subgroup c 1 = 0 then Config.overZero k else rootOf (subgroup c k / subgroup c 1 * 100000000) % 2 ^ 16
  [t % 2 ^ 32, t / 2 ^ 32 % 2 ^ 16 + 2 ^ 24 * w.idx, h.flags + 2 ^ 16 * n] ++
  (List.range 8).flatMap (fun ch =>
    let c := h.chan ch
    [rootOf c.1, s.thd ch c] ++
    (List.range 32).map (fun k => share c (2 * k + 1) + (if k = 31 then 0 else 2 ^ 16 * (share c (2 * k + 2) % 2 ^ 16))))

/-- A domain's period closes: the ten-minute value stands, and the next period opens. -/
def State.closePeriod (s : State) (w : Wick) : State :=
  let d := s.dom w
  match d.period with
  | none => s
  | some m =>
    let next := s.now / 19660800
    let incomplete := decide (d.acc10N < 2990) || !d.periodWhole
    let ten : Harm := { index := m, flags := d.acc10.flags ||| (if incomplete then 128 else 0)
                        chans := divChans d.acc10.chans d.acc10N }
    let t := s.setDom w { d with ten := ten, acc10 := { Harm.empty with flags := s.allFlags w }, acc10N := 0, period := some next
                                 periodWhole := decide (next = m + 1) }
    let t := (t.set (HARM.AGG_VALID w) (b2n !incomplete)).raise (w.page 8) 0
    if t.on (HDR.ENABLE (w.page 8)) ∧ t.wfWick = some w then t.packet 2 0x02 (t.aggPacket w ten d.acc10N) else t

/-- AGG_10MIN_CLOSE: a period of 19,660,800 ticks has ended in a domain, and so has the time of the last window that begins in it, 236 ms at most in the
tracking range (R251, R259). DESIGN CHOICE (log entry 98). -/
def execAgg10minClose (w : Wick) (s : State) : Host.Outcome State Fault Refusal :=
  .next (match (s.dom w).period with
    | some m => if s.measures w && decide (m < (s.now - millis 236) / 19660800) then s.closePeriod w else s
    | none => s)

/-! ### Phase sequence (R261) -/

/-- What the fundamental angles of a window say: 1 correct, 2 reversed, 0 nothing. -/
def sequenceKind (cycles : Nat) (l : List (List Int)) : Nat :=
  let z := fun (a b : Nat) =>
    let (ar, ai) := dftBin (l.getD a []) cycles
    let (br, bi) := dftBin (l.getD b []) cycles
    atan2Deg ((ai * br - ar * bi) / fx) ((ar * br + ai * bi) / fx)
  let near := fun (a lo hi : Int) => decide (lo * fx ≤ a ∧ a ≤ hi * fx)
  let x := z 0 1
  let y := z 1 2
  if near x 90 150 && near y 90 150 then 1 else if near x (-150) (-90) && near y (-150) (-90) then 2 else 0

/-- Phase sequence after a window. -/
def State.judgeSequence (s : State) (w : Wick) (chans : List (List Int)) (h : Harm) : State :=
  let d := s.dom w
  let half : Rat := (s.common METER.NOMINAL_V * 50000 : Nat)
  let present := [0, 1, 2].all (fun x => decide (half * half ≤ (h.chan x).1))
  if s.onePhase then s
  else if !present then
    (s.setDom w { d with present := false, seqKind := 0, seqRun := 0, seqLogged := false }).setAll
      [(METER.SEQ_OK w, 0), (METER.SEQ_REVERSED w, 0)]
  else
    let kind := sequenceKind s.windowCycles chans
    let run := if kind = 0 then 0 else if kind = d.seqKind then min (d.seqRun + 1) 5 else 1
    let t := s.setDom w { d with present := true, seqKind := kind, seqRun := run }
    if run < 5 then t
    else if kind = 1 then t.setAll [(METER.SEQ_OK w, 1), (METER.SEQ_REVERSED w, 0)]
    else
      let t := (t.setAll [(METER.SEQ_OK w, 0), (METER.SEQ_REVERSED w, 1)]).raise (w.page 7) 3
      let t := t.noteFlags w 2048
      if d.seqLogged then t
      else (t.setDom w { t.dom w with seqLogged := true }).event (srcMeter w) 0x0509 []

/-! ### Windows (R251, R252, R258, R259) -/

/-- Power factor in 1/10,000, signed; open where the apparent power is 0. DESIGN CHOICE (log entry 99). -/
def powerFactor (p : Int) (sva : Nat) : Int := if sva = 0 then (Config.overZero p.natAbs : Int) else quant ((p * 10000 : Int) / (sva : Rat))

/-- The live values of a window (R252). -/
def State.liveValues (s : State) (w : Wick) (h : Harm) : State :=
  let d := s.dom w
  let power := fun (m : Map Int) (g : Nat) (old : Field) =>
    if d.winN.getD g 0 = 0 then toSigned 32 (s.get old)
    else quant ((m.getD g 0 : Rat) / d.winN.getD g 0 / 1000000000)
  let v := fun (x : Nat) => rootOf ((h.chan x).1 / 1000000)
  let i := fun (x : Nat) => if s.noSensor x then 0 else rootOf ((h.chan (4 + x)).1 / 1000000)
  let va := fun (x : Nat) => (quant (((v x * i x : Nat) : Rat) / 1000)).toNat
  let t := [0, 1, 2].foldl (fun (t : State) x =>
    let p := power d.winP x (METER.P_MW w x)
    let zero := s.absent x
    let val := fun (n : Nat) => if zero then 0 else n
    t.setAll [(METER.V_RMS_MV w x, val (v x)), (METER.I_RMS_MA w x, val (i x)), (METER.P_MW w x, ofSigned 32 p),
      (METER.Q_MVAR w x, ofSigned 32 (power d.winQ x (METER.Q_MVAR w x))), (METER.S_MVA w x, val (va x)),
      (METER.PF w x, if zero then 0 else ofSigned 16 (powerFactor p (va x))), (METER.PH_FLAGS w x, s.phFlags w x ||| d.winPh.getD x 0)]) s
  let sTot := (s.phases.map va).sum
  let pTot := power d.winP 3 (METER.P_TOT_MW w)
  let t := t.setAll [(METER.I_RMS_N_MA w, i 3), (METER.V_DISP_MV w, v 3), (METER.P_TOT_MW w, ofSigned 32 pTot),
    (METER.Q_TOT_MVAR w, ofSigned 32 (power d.winQ 3 (METER.Q_TOT_MVAR w))), (METER.S_TOT_MVA w, sTot),
    (METER.PF_TOT w, ofSigned 16 (powerFactor pTot sTot))]
  let add := fun (m : Map Nat) (x n : Nat) => m.put x (m.getD x 0 + n)
  let d := t.dom w
  t.setDom w { d with
    avgN := d.avgN + 1
    avgV := [0, 1, 2].foldl (fun m x => add m x (t.get (METER.V_RMS_MV w x))) d.avgV
    avgI := add ([0, 1, 2].foldl (fun m x => add m x (t.get (METER.I_RMS_MA w x))) d.avgI) 3 (i 3) }

/-- The reference phase: the lowest that carries voltage; 3 where none does (R251). -/
def State.reference (s : State) (w : Wick) : Nat :=
  (s.phases.find? (fun x => !(s.unused x || (s.dom w).noVolt.contains x))).getD 3

/-- What a window gathered of power samples and flags is over. -/
def Dom.newWindow (d : Dom) : Dom := { d with winP := [], winQ := [], winN := [], winPh := [] }

/-- A window is discarded: the runs of consecutive windows break (R258, R259, R261). -/
def State.loseWindow (s : State) (w : Wick) : State :=
  (s.setDom w { (s.dom w).newWindow with acc3 := [], seqRun := 0 }).bump (HARM.WIN_LOST_CNT w) 1

/-- A window joins the ten-minute value of the period it begins in; a period that has ended closes (R259). -/
def State.addWindow (s : State) (w : Wick) (begins : Nat) (h : Harm) : State :=
  let t := if (s.dom w).period.any (fun p => decide (p < begins)) then s.closePeriod w else s
  let d := t.dom w
  let t := if d.period = some begins then
      t.setDom w { d with acc10 := { d.acc10 with chans := addChans d.acc10.chans h.chans }, acc10N := d.acc10N + 1 }
    else t
  if (t.dom w).period.any (fun p => decide (p < t.now / 19660800)) then t.closePeriod w else t

/-- A window of eight channels of samples ends, with the frequency measured in it in mHz; `locked` says whether the resampler kept
its lock. DESIGN CHOICE (log entries 95, 98). -/
def doHarmonicWindowClose (w : Wick) (l : List (List Int)) (mHz : Nat) (locked : Bool) (s : State) : State :=
  if s.measures w then
    let s := s.rollMeter
    let d := s.dom w
    let ref := s.reference w
    let changed := match d.refPhase with | some r => r != ref | none => false
    let sync := locked && ref != 3
    let t := if s.on (HARM.SYNC w) && !sync then s.raise (w.page 8) 2 else s
    let t := (t.set (HARM.SYNC w) (b2n sync)).setDom w { t.dom w with refPhase := some ref }
    let (lo, hi) := if s.common METER.F_NOM = 1 then (51000, 69000) else (42500, 57500)
    let (samples, filt) := s.windowSamples w l
    let t := t.setDom w { t.dom w with filt := filt, freqRange := ref = 3 || decide (mHz < lo) || decide (hi < mHz) }
    let t := t.noteFlags w (t.allFlags w)
    if changed || !locked then t.loseWindow w
    else
      let (x, t) := if ref = 3 then t.draw else (mHz, t)
      let t := t.set (METER.FREQ_MHZ w) x
      let chans := s.windowChannels samples
      let h : Harm := { index := (d.winIndex + 1) % 2 ^ 32, flags := (t.dom w).winPh.getD 8 0, chans := chans.map (windowChannel s.windowCycles) }
      let t := (t.liveValues w h).judgeSequence w chans h
      let d := (t.dom w).newWindow
      let acc3 := d.acc3 ++ [h]
      let three : Harm := if acc3.length = 15 then
          { index := (d.three.index + 1) % 2 ^ 32, flags := acc3.foldl (fun v x => v ||| x.flags) 0
            chans := divChans (acc3.foldl (fun a x => addChans a x.chans) []) 15 }
        else d.three
      let t := t.setDom w { d with winIndex := d.winIndex + 1, latest := h, acc3 := if acc3.length = 15 then [] else acc3, three := three }
      t.addWindow w ((t.now - s.windowCycles * 32768000 / max mHz 1) / 19660800) h
  else s

/-- HARMONIC_WINDOW_CLOSE: the converter samples are those of VM_A, VM_B, VM_C, VM_N, IM_A, IM_B, IM_C and IM_N. -/
def execHarmonicWindowClose (w : Wick) (l : List (List Int)) (mHz : Nat) (locked : Bool) (s : State) :
    Host.Outcome State Fault Refusal :=
  .next (doHarmonicWindowClose w l mHz locked s)

/-! ### Voltage events (R260) -/

/-- A percentage of NOMINAL_V in mV. -/
def State.pctMv (s : State) (pct : Nat) : Nat := pct * s.common METER.NOMINAL_V

/-- A phase's one-cycle RMS voltage is refreshed: the extremes of the events that run follow it. -/
def State.refreshHalf (s : State) (w : Wick) (x mv : Nat) : State :=
  let d := s.dom w
  let upd := fun (c : Nat × Nat × Nat) =>
    if c.1 = x ∨ c.1 = 8 then (c.1, c.2.1, min c.2.2 mv) else if c.1 = 4 + x then (c.1, c.2.1, max c.2.2 mv) else c
  s.setDom w { d with half := d.half.put x mv, vEvents := d.vEvents.map upd }

/-- A voltage event starts: 0 dip, 4 swell, 8 interruption, added to the phase. -/
def State.startVoltageEvent (s : State) (w : Wick) (key mv : Nat) : State :=
  let d := s.dom w
  if d.vEvents.has key then s
  else ((s.setDom w { d with vEvents := d.vEvents.put key (s.now, mv) }).noteFlags w 8192).captureEvent w

/-- VOLTAGE_EVENT_START: a phase's one-cycle RMS, in mV, against the thresholds at which events start. DESIGN CHOICE (log entry 95). -/
def doVoltageEventStart (w : Wick) (x mv : Nat) (s : State) : State :=
  if s.measures w && s.phases.contains x then
    let t := s.refreshHalf w x mv
    let t := if mv < t.pctMv (t.get (HARM.DIP_PCT w)) then t.startVoltageEvent w x mv else t
    let t := if t.pctMv (t.get (HARM.SWELL_PCT w)) < mv then t.startVoltageEvent w (4 + x) mv else t
    let low := t.phases.all (fun p => match (t.dom w).half.get? p with
      | some v => decide (v < t.pctMv (t.get (HARM.INTR_PCT w)))
      | none => false)
    if low then t.startVoltageEvent w 8 mv else t
  else s

/-- VOLTAGE_EVENT_START. -/
def execVoltageEventStart (w : Wick) (x : Fin 3) (mv : Word) (s : State) : Host.Outcome State Fault Refusal :=
  .next (doVoltageEventStart w x.val mv.toNat s)

/-- A voltage event ends: it is counted, and logged while HARM ENABLE is 1; a dip wholly within an interruption is not. -/
def State.endVoltageEvent (s : State) (w : Wick) (key : Nat) : State :=
  let d := s.dom w
  match d.vEvents.get? key with
  | none => s
  | some (start, v) =>
    let t := s.setDom w { d with vEvents := d.vEvents.del key }
    let inside := decide (key < 4) && (match d.vEvents.get? 8 with
      | some i => decide (i.1 ≤ start)
      | none => false)
    if inside then t
    else
      let (code, phase, cnt) :=
        if key = 8 then (0x0508, 0, HARM.INTR_CNT w)
        else if key < 4 then (0x0506, key + 1, HARM.DIP_CNT w) else (0x0507, key - 3, HARM.SWELL_CNT w)
      let t := (t.bump cnt 1).raise (w.page 8) 1
      if t.on (HDR.ENABLE (w.page 8)) then
        t.event (srcMeter w) code [phase, msShown (s.now - start), (quant (((v * 10 : Nat) : Rat) / s.common METER.NOMINAL_V)).toNat]
      else t

/-- VOLTAGE_EVENT_END: a phase's one-cycle RMS against the thresholds at which events end. -/
def doVoltageEventEnd (w : Wick) (x mv : Nat) (s : State) : State :=
  if s.measures w && s.phases.contains x then
    let t := s.refreshHalf w x mv
    let h := t.get (HARM.HYST_PCT w)
    let t := if t.pctMv (t.get (HARM.DIP_PCT w) + h) < mv then t.endVoltageEvent w x else t
    let t := if mv < t.pctMv (t.get (HARM.SWELL_PCT w) - h) then t.endVoltageEvent w (4 + x) else t
    if t.pctMv (t.get (HARM.INTR_PCT w) + h) < mv then t.endVoltageEvent w 8 else t
  else s

/-- VOLTAGE_EVENT_END. -/
def execVoltageEventEnd (w : Wick) (x : Fin 3) (mv : Word) (s : State) : Host.Outcome State Fault Refusal :=
  .next (doVoltageEventEnd w x.val mv.toNat s)

/-! ### Missing neutral (R262) -/

/-- Whether the largest deviation of a phase voltage from the mean of the three exceeds 10 % of that mean. -/
def unbalanced (v : Nat × Nat × Nat) : Bool :=
  let sum := v.1 + v.2.1 + v.2.2
  let off := fun (x : Nat) => max (3 * x) sum - min (3 * x) sum
  decide (sum < 10 * max (off v.1) (max (off v.2.1) (off v.2.2)))

/-- The half-cycle values of a time of some ms: displacement above 20 % of NOMINAL_V and unbalance above 10 % throughout, for 500 ms, declare a missing
neutral, with the peak displacement. -/
def doMissingNeutralDeclare (w : Wick) (ms : Nat) (l : List (Nat × Nat × Nat × Nat)) (s : State) : State :=
  let peak := (l.map Prod.fst).foldl max 0
  if s.measures w && !s.onePhase && !s.on (METER.MISSING_NEUTRAL w) && decide (500 ≤ ms) && l != [] &&
      l.all (fun h => decide (s.pctMv 20 < h.1) && unbalanced h.2) then
    (((s.set (METER.MISSING_NEUTRAL w) 1).raise (w.page 7) 4).noteFlags w 4096).event (srcMeter w) 0x050A
      [(quant (((peak * 10 : Nat) : Rat) / s.common METER.NOMINAL_V)).toNat]
  else s

/-- MISSING_NEUTRAL_DECLARE: for some ms, the half-cycle-refreshed values in mV of the displacement and of the three phases. -/
def execMissingNeutralDeclare (w : Wick) (l : List (Nat × Nat × Nat × Nat)) (s : State) (ms : Nat := 500) : Host.Outcome State Fault Refusal :=
  .next (doMissingNeutralDeclare w ms l s)

/-- MISSING_NEUTRAL_CLEAR: for some ms, the half-cycle-refreshed displacement in mV; below 10 % for 5 s clears the state. -/
def execMissingNeutralClear (w : Wick) (s : State) (l : List Nat := [0]) (ms : Nat := 5000) : Host.Outcome State Fault Refusal :=
  .next (if s.measures w && decide (5000 ≤ ms) && l != [] && l.all (fun h => decide (h < s.pctMv 10)) then s.set (METER.MISSING_NEUTRAL w) 0 else s)

/-! ### H_INDEX (R275) -/

/-- A read of H_INDEX: the chosen view of the chosen channel is captured for the master. -/
def doHIndexRead (m : Master) (w : Wick) (s : State) : State :=
  match minimum? (s.readCodes m (w.page 8)) with
  | some c => (({ s with busData := 0 } : State)).countErr (errPage (w.page 8) c) m (w.page 8) 0x048 c
  | none =>
    let d := s.dom w
    let v := s.get (HARM.H_VIEW w)
    let h := if v = 0 then d.latest else if v = 1 then d.three else d.ten
    let ch := s.get (HARM.H_CH w)
    let c := h.chan ch
    let r : HarmRead := if h.chans = [] then { thd := 0, flags := h.flags, rms := 0, sg := [] }
      else { thd := s.thd ch c, flags := h.flags, rms := rootOf c.1, sg := c.2.map rootOf }
    { s with busData := BitVec.ofNat 32 h.index
             meter := { s.meter with views := s.meter.views.put (2 * m.id + w.idx) r } }

/-- H_INDEX_READ. -/
def execHIndexRead (m : Master) (w : Wick) (s : State) : Host.Outcome State Fault Refusal := .next (if s.acts m then doHIndexRead m w s else s)

end Sys2Proof.Machine
end

