-- ==== Sys2Proof/Machine/Attr.lean ====
section
/-! DEFINITION. Per-lantern power by code-division attribution: plans, sessions, codes, chips, the least-squares solution, verdicts, baselines, strays, results (R276 to R292). -/

namespace Sys2Proof.Machine

/-! ### Plans (R277, R278) -/

/-- A number in an attribution plan. -/
def Bank.plan (b : Bank) (p off n : Nat) : Nat := b.mem.field tabPlans p off n
/-- Whether a plan is enabled. -/
def Bank.planOn (b : Bank) (p : Nat) : Bool := bit (b.plan p 0 1) 0
/-- DAYS of a plan. -/
def Bank.planDays (b : Bank) (p : Nat) : Nat := b.plan p 1 1
/-- TARGET of a plan. -/
def Bank.planTarget (b : Bank) (p : Nat) : Nat := b.plan p 2 2

/-- Whether an address is a candidate of a target under a bank's group map: its CAPS say it is attribution-capable. -/
def State.candidate (s : State) (b : Bank) (target a : Nat) : Bool := b.names target a && bit (s.rget a 0x20 2) 2

/-- The limits on candidates: 256 on each phase, 768 in all, no residue twice (R278). -/
def State.withinLimits (s : State) (l : List Nat) : Bool :=
  [1, 2, 3].all (fun f => decide ((l.filter (fun a => s.rget a 0x1B 1 = f)).length ≤ 256)) && decide (l.length ≤ 768) &&
  noRepeats (l.map (fun a => (a - 1) % 1023))

/-- Whether a plan's fields lie in their ranges; an empty plan passes. -/
def Bank.planOk (b : Bank) (p : Nat) : Bool :=
  b.mem.entryEmpty tabPlans p ||
  (bits (b.plan p 0 1) 1 7 = 0 && decide (b.planDays p < 128) && isMulti (b.planTarget p) && decide (b.plan p 4 2 ≤ 1439) &&
   decide (1000 ≤ b.plan p 6 2 ∧ b.plan p 6 2 ≤ 10000) && b.plan p 6 2 % 1000 = 0 &&
   decide (5 ≤ b.plan p 8 1 ∧ b.plan p 8 1 ≤ 50) && b.plan p 9 7 = 0 && (!b.planOn p || b.planDays p != 0))

/-- Validation of content type 5 (R278). -/
def State.plansOk (s : State) (b : Bank) : Bool :=
  (List.range 16).all (fun p => b.planOk p &&
    (!b.planOn p || s.withinLimits (s.entries.filter (fun a => s.entryState a != 0 && s.candidate b (b.planTarget p) a))))

/-! ### The code (R281) -/

/-- The maximal-length sequence, its newest value first: n values after the ten ones it starts with. -/
def mlsRev : Nat → List Bool
  | 0 => List.replicate 10 true
  | n + 1 =>
    let l := mlsRev n
    (l.getD 6 false != l.getD 9 false) :: l

/-- u[0] to u[1022]. -/
def mls : List Bool := (mlsRev 1013).reverse

/-- A of a seed. -/
def codeA (seed : Nat) : Nat :=
  let a := seed % 65536 % 1023
  ((List.range 1023).map (fun k => (a + k) % 1023)).find? (fun a => a % 3 != 0 && a % 11 != 0 && a % 31 != 0) |>.getD 1

/-- B of a seed. -/
def codeB (seed : Nat) : Nat := seed / 65536 % 65536 % 1023

/-- The shift of a lantern in a session. -/
def codeShift (seed addr : Nat) : Nat := (codeA seed * ((addr - 1) % 1023) + codeB seed) % 1023

/-- chip(c) of a shift: 1 or -1. -/
def chipOf (shift c : Nat) : Rat := if mls.getD ((c + shift) % 1023) false then -1 else 1

/-- The residue of a shift: A⁻¹ × (shift − B) modulo 1,023 (R288). -/
def codeResidue (seed shift : Nat) : Nat :=
  (List.range 1023).find? (fun r => (codeA seed * r + codeB seed) % 1023 = shift) |>.getD 0

/-! ### Sessions (R276, R279, R280) -/

/-- The attribution engine takes a value, journalled (R290). -/
def State.setAttr (s : State) (x : Attr) : State := ({ s with attr := x } : State).jot

/-- The current session takes a value. -/
def State.setSession (s : State) (x : Session) : State := s.setAttr { s.attr with cur := some x }

/-- The session that has started and not ended. -/
def State.session (s : State) : Option Session :=
  match s.attr.cur with
  | some x => if x.outcome = 1 ∨ x.outcome = 2 then some x else none
  | none => none

/-- CHIP_T: the ticks of a chip (R282). -/
def Session.chipTicks (x : Session) : Nat := x.chipMs * 32768 / 1000

/-- The end of chip 1,022. -/
def Session.stop (x : Session) : Nat := x.start + 1023 * x.chipTicks

/-- LEAD_S of the ATTR page in ticks. -/
def State.attrLead (s : State) : Nat := secs (s.get (ATTR.LEAD_S s.cw))

/-- The participants a target has now: its registered candidates, in increasing order of address. -/
def State.participants (s : State) (target : Nat) : List Nat := s.registeredList.filter (s.candidate s.active target)

/-- The code under which a start is refused, 0 where it is not (R279). Without a random generator no SEED can be drawn (R387): the spec gives
that refusal no code. DESIGN CHOICE (log entry 209). -/
def State.attrCode (s : State) (w : Wick) (p : Nat) : Nat :=
  if s.on (HDR.ENABLE (w.page 9)) = false then 1
  else if s.isAuthor w = false then 2
  else if s.session.isSome then 3
  else if s.active.planOn p = false then 4
  else
    let l := s.participants (s.active.planTarget p)
    if l = [] ∨ s.withinLimits l = false then 5
    else if s.on VAULT.RNG_OK = false then 1 + s.draw.1 % 9
    else 0

/-- An accepted start: a new SESSION and SEED. DESIGN CHOICE (log entry 105). -/
def State.beginSession (s : State) (p start : Nat) : State :=
  let b := s.active
  let (r, t) := s.draw
  let n := (s.attr.number + 1) % 2 ^ 16
  let x : Session :=
    { number := n, seed := r % 2 ^ 32, start := start, chipMs := b.plan p 6 2, ampl := b.plan p 8 1, plan := p
      target := b.planTarget p, fixed := false, notSent := false, parts := [], chips := [], wicks := 0, outcome := 1 }
  (t.setAttr { t.attr with number := n, cur := some x }).raise (s.cw.page 9) 0

/-- A session ends other than DONE (R289). -/
def State.endSession (s : State) (outcome : Nat) : State :=
  match s.session with
  | some x => (s.setSession { x with outcome := outcome }).raise (s.cw.page 9) 2
  | none => s

/-- The ATTRIB transaction of a session (R158, R280). -/
def Session.frame (x : Session) (stop : Bool) : Desc :=
  { Desc.empty with
    purpose := .attrib, ty := 6, dest := x.target, maxAtt := 3, notAfter := if stop then 0 else x.start - 32768
    args := leBytes 2 x.number ++ leBytes 1 (b2n stop) ++ leBytes 1 x.ampl ++ leBytes 4 x.seed ++ leBytes 4 x.start ++
      leBytes 2 x.chipMs ++ leBytes 2 1023 }

/-- The close of an ATTRIB transaction that was never sent: the session it starts will close LOST at S (R280, R289).
DEDUCED (log entry 110). -/
def State.attribNotSent (s : State) (args : List Byte) : State :=
  match s.session with
  | some x => if leNat (args.take 2) = x.number ∧ leNat ((args.drop 2).take 1) = 0 then s.setSession { x with notSent := true } else s
  | none => s

/-- PARTICIPANTS_FIX: LEAD_S before S the participants are fixed and checked, and the ATTRIB frame is sent. -/
def doParticipantsFix (s : State) : State :=
  match s.session with
  | none => s
  | some x =>
    if x.fixed ∨ s.authorRuns = false ∨ s.now + s.attrLead < x.start then s
    else
      let l := s.participants x.target
      let t := s.setSession { x with fixed := true, parts := l }
      if l = [] ∨ s.withinLimits l = false then (t.set (ATTR.CMD_STATUS t.cw) 5).endSession 5
      else if t.takesInternal (x.frame false) then t.submit (x.frame false) else t.setSession { x with fixed := true, parts := l, notSent := true }

/-- PARTICIPANTS_FIX. -/
def execParticipantsFix (s : State) : Host.Outcome State Fault Refusal := .next (doParticipantsFix s)

/-- The local minute at which a plan starts on a day, which names its instance. -/
def Bank.planInstance (b : Bank) (p : Nat) (d : Int) : Int := d * 1440 + (b.plan p 4 2 : Int)

/-- The plans that fall due now: those whose start lies within LEAD_S ahead and whose instance has not been handled. -/
def State.duePlans (s : State) : List (Nat × Int × Nat) :=
  let b := s.active
  ((List.range 16).flatMap (fun p => [s.localDay, s.localDay + 1].map (fun d => (p, d, s.segOf (b.utcOf d (b.plan p 4 2)))))).filter
    (fun x => b.planOn x.1 && bit (b.planDays x.1) (weekday x.2.1) && s.attr.planDays.get? x.1 != some (b.planInstance x.1 x.2.1) &&
      decide (x.2.2 ≤ s.now + s.attrLead ∧ s.now < x.2.2))

/-- PLAN_DUE: each plan that falls due starts its session, or is skipped and counted; of two, the lower-numbered runs. -/
def doPlanDue (s : State) : State :=
  if s.authorRuns && s.on (ATTR.PLANS_EN s.cw) && s.utcOk then
    s.duePlans.foldl (fun (t : State) x =>
      let t := t.setAttr { t.attr with planDays := t.attr.planDays.put x.1 (t.active.planInstance x.1 x.2.1) }
      if t.attrCode t.cw x.1 = 0 then doParticipantsFix (t.beginSession x.1 x.2.2)
      else (t.bump (ATTR.SKIP_CNT t.cw) 1).raise (t.cw.page 9) 4) s
  else s

/-- PLAN_DUE. -/
def execPlanDue (s : State) : Host.Outcome State Fault Refusal := .next (doPlanDue s)

/-- A write of CMD of the ATTR page through a wick's page: counted and answered NOT_AUTHOR where that wick is no controller. -/
def State.attrCommand (s : State) (m : Master) (w : Wick) (k : State → State) : State :=
  let page := w.page 9
  s.write m page 0x040 [] (fun s =>
    if s.isController w then k s else (s.countErr page m page 0x040 5).set (ATTR.CMD_STATUS w) 2)

/-- A write of START: the start time is checked after the codes (R279). DEDUCED (log entry 109). -/
def doAttrStart (m : Master) (w : Wick) (p : Nat) (s : State) : State :=
  s.attrCommand m w (fun s =>
    let code := s.attrCode w p
    let t0 := s.get2 (ATTR.START_TIME_LO w) (ATTR.START_TIME_HI w)
    let start := if t0 = 0 then nextMultiple (s.now + s.attrLead) 32768 else t0
    if code ≠ 0 then s.set (ATTR.CMD_STATUS w) code
    else if start % 32768 ≠ 0 ∨ start < s.now + s.attrLead then s.set (ATTR.CMD_STATUS w) 6
    else doParticipantsFix ((s.beginSession p start).set (ATTR.CMD_STATUS w) 0))

/-- ATTR_START. -/
def execAttrStart (m : Master) (w : Wick) (p : Fin 16) (s : State) : Host.Outcome State Fault Refusal :=
  .next (doAttrStart m w p.val s)

/-! ### Chips (R284, R286) -/

/-- A level change is commanded of some lanterns between two instants, in a session or before one: the chips it overlaps will be invalid on
their phases (R284). -/
def State.noteLevelChange (s : State) (l : List Nat) (from_ until_ : Nat) : State :=
  let mask := l.foldl (fun v a => v ||| (let f := s.rget a 0x1B 1; if f = 0 then 7 else 2 ^ (f - 1))) 0
  s.setAttr { s.attr with masks := (mask, from_, until_) :: s.attr.masks.filter (fun m => decide (s.now < m.2.2 + secs 60)) }

/-- Whether a level change overlaps a span on a phase. -/
def State.changing (s : State) (x from_ until_ : Nat) : Bool :=
  let meets := fun (a b : Nat) => decide (a < until_ ∧ from_ ≤ b)
  s.attr.masks.any (fun m => bit m.1 x && meets m.2.1 m.2.2) ||
  s.reg.daySteps.any (fun d => d.level != 0xFFFF && meets (d.at_ - s.active.progFade d.program * 32768 / 100) d.at_ &&
    s.registeredList.any (fun a => s.active.names (s.active.progTarget d.program) a &&
      (s.rget a 0x1B 1 = 0 || s.rget a 0x1B 1 = x + 1)))

/-- The CLO factor of a lantern, in thousandths (R209, R286). -/
def State.cloFactor (s : State) (a : Nat) : Rat :=
  let h : Rat := (s.rget a 0x3C 4 : Rat) / 60
  let pts := (s.cloPoints a).map (fun p => (((leNat (p.take 2) * 100 : Nat) : Rat), ((leNat (p.drop 2) : Nat) : Rat)))
  let before := pts.filter (fun p => decide (p.1 ≤ h))
  let after := pts.filter (fun p => decide (h < p.1))
  match before.getLast?, after.head? with
  | none, none => 1000
  | none, some q => q.2
  | some p, none => p.2
  | some p, some q => p.2 + (q.2 - p.2) * (h - p.1) / (q.1 - p.1)

/-- The drive expected of a lantern at an instant, in thousandths (R209). -/
def State.expectedDrive (s : State) (a t : Nat) : Rat := min 1000 ((s.predicted a t : Rat) * s.cloFactor a / 1000)

/-- The series of a second that the correlator has: the AUTHOR's own, or the standby's while that one carries FAULT (R28). -/
def State.seriesAt (s : State) (w : Wick) (j : Nat) : Option (Series × Wick) :=
  let find := fun (v : Wick) => (s.dom v).series.find? (fun x => x.second = j)
  match find w with
  | none => none
  | some x =>
    if x.arrived ≠ some w then none
    else if bit x.flags 5 then (find w.other).map (fun y => (y, w.other)) else some (x, w)

/-- The flags that make a chip invalid: SETTLING, OVERLOAD, NO_VOLTAGE, FREQ_RANGE, FLL_UNLOCK, TIME_STEP, FAULT. -/
def chipFlags : Nat := 1 + 2 + 4 + 8 + 16 + 32 + 256

/-- The chip that ends next is formed. -/
def State.formChip (s : State) (w : Wick) (x : Session) : State :=
  let c := x.chips.length
  let from_ := x.start + c * x.chipTicks
  let n := x.chipMs / 1000
  let got := (List.range n).map (fun k => s.seriesAt w (from_ / 32768 + k))
  let have_ := got.filterMap id
  let val := fun (p : Nat) =>
    if have_.length = n ∧ have_.all (fun y => (y.1.ph.getD p 0) &&& chipFlags = 0) = true ∧
        s.changing p from_ (from_ + x.chipTicks) = false then
      some ((((have_.map (fun y => y.1.p.getD p 0)).sum : Int) : Rat) / (n : Rat) / 1000)
    else none
  s.setSession { x with
    chips := x.chips ++ [{ vals := [0, 1, 2].map val, drives := x.parts.map (fun a => s.expectedDrive a from_) }]
    wicks := have_.foldl (fun v y => v ||| 2 ^ y.2.idx) x.wicks }

/-- Whether the chip that ends next can be formed: its end has come, and its last second's series is there, or the 20 ms in which that arrives have
passed (R257, R285). -/
def State.chipReady (s : State) (w : Wick) (x : Session) : Bool :=
  let stop := x.start + (x.chips.length + 1) * x.chipTicks
  decide (stop ≤ s.now) && ((s.seriesAt w (stop / 32768 - 1)).isSome || decide (stop + millis 20 ≤ s.now))

/-- The chips whose end has passed are formed. -/
def State.formChips (s : State) (w : Wick) : Nat → State
  | 0 => s
  | n + 1 =>
    match s.session with
    | some x =>
      if x.outcome = 1 ∧ x.fixed = true ∧ x.chips.length < 1023 ∧ s.chipReady w x = true then
        State.formChips (s.formChip w x) w n
      else s
    | none => s

/-- A session whose frame was never sent closes LOST at S (R280). DEDUCED (log entry 110). -/
def State.attrLost (s : State) : State :=
  match s.session with
  | some x => if x.notSent = true ∧ x.start ≤ s.now then s.endSession 5 else s
  | none => s

/-- CHIP_END: the chips that have ended are formed. -/
def doChipEnd (s : State) : State :=
  let t := s.attrLost
  match t.author with
  | some w => t.formChips w 1023
  | none => t

/-- CHIP_END. -/
def execChipEnd (s : State) : Host.Outcome State Fault Refusal := .next (doChipEnd s)

/-- SESSION_CHIPS_END: chip 1,022 has ended, and solving starts. -/
def doSessionChipsEnd (s : State) : State :=
  let t := doChipEnd s
  match t.session with
  | some x => if x.outcome = 1 ∧ x.stop ≤ t.now ∧ x.chips.length = 1023 then t.setSession { x with outcome := 2 } else t
  | none => t

/-- SESSION_CHIPS_END. -/
def execSessionChipsEnd (s : State) : Host.Outcome State Fault Refusal := .next (doSessionChipsEnd s)

/-! ### Least squares (R285) -/

/-- One step of Gauss-Jordan elimination: column j gets a pivot, or the matrix is singular. -/
def pivotStep (j : Nat) (m : List (List Rat)) : Option (List (List Rat)) :=
  match ((List.range m.length).find? (fun i => decide (j ≤ i) && ((m.getD i []).getD j 0 != 0))) with
  | none => none
  | some i =>
    let r := m.getD i []
    let q := r.map (· / r.getD j 1)
    let rest := m.set i (m.getD j [])
    some ((rest.set j q).mapIdx (fun k row =>
      if k = j then q else (row.zip q).map (fun p => p.1 - row.getD j 0 * p.2)))

/-- The inverse of a square matrix, where it has one. DEDUCED (log entry 107). -/
def inverse (m : List (List Rat)) : Option (List (List Rat)) :=
  let n := m.length
  let aug := m.mapIdx (fun i row => row ++ (List.range n).map (fun k => if k = i then 1 else 0))
  ((List.range n).foldl (fun a j => a.bind (pivotStep j)) (some aug)).map (fun a => a.map (fun row => row.drop n))

/-- The product of two lists of numbers. -/
def dot (a b : List Rat) : Rat := ((a.zip b).map (fun p => p.1 * p.2)).sum

/-- A list cut into runs of consecutive valid chips. -/
def runsOf (valid : Nat → Bool) : List Nat → List (List Nat)
  | [] => []
  | c :: t =>
    if valid c then
      match t, runsOf valid t with
      | d :: _, r :: l => if valid d then (c :: r) :: l else [c] :: r :: l
      | _, l => [c] :: l
    else runsOf valid t

/-- The runs of a session on a phase: each of the 33 blocks of 31 chips cut at its invalid chips. -/
def Session.runs (x : Session) (p : Nat) : List (List Nat) :=
  let valid := fun (c : Nat) => match x.chips[c]? with
    | some k => (k.vals.getD p none).isSome
    | none => false
  (List.range 33).flatMap (fun k => runsOf valid ((List.range 31).map (· + 31 * k)))

/-- A function of the chips with the mean of each run taken away. -/
def centred (runs : List (List Nat)) (f : Nat → Rat) : List Rat :=
  runs.flatMap (fun r =>
    let v := r.map f
    let mean := v.sum / (r.length : Rat)
    v.map (· - mean))

/-- The solution of a phase: N_EFF, the square of the residual σ̂ where there is one, each participant's coefficient and the square
of its uncertainty where the normal matrix has an inverse, the residual, the runs. -/
structure Solution where
  nEff : Nat
  sigmaSq : Option Rat
  coef : Option (List (Rat × Rat))
  residual : List Rat
  runs : List (List Nat)
deriving DecidableEq, Repr

/-- The least-squares solution of a phase. DEDUCED (log entry 107). -/
def Session.solve (x : Session) (p : Nat) : Solution :=
  let runs := x.runs p
  let nEff := (runs.map (fun r => r.length - 1)).sum
  let y := centred runs (fun c => match x.chips[c]? with
    | some k => (k.vals.getD p none).getD 0
    | none => 0)
  let codes := x.parts.map (fun a => centred runs (chipOf (codeShift x.seed a)))
  let g := codes.map (fun u => codes.map (dot u))
  let b := codes.map (dot y)
  match inverse g with
  | none => { nEff := nEff, sigmaSq := none, coef := none, residual := y, runs := runs }
  | some inv =>
    let a := inv.map (fun row => dot row b)
    let rss := dot y y - dot a b
    let k := x.parts.length
    let sq := if k < nEff then some (rss / ((nEff - k : Nat) : Rat)) else none
    let fit := (a.zip codes).foldl (fun (r : List Rat) c => (r.zip c.2).map (fun q => q.1 - c.1 * q.2)) y
    { nEff := nEff, sigmaSq := sq, residual := fit, runs := runs
      coef := some ((a.zip inv).mapIdx (fun i c => (c.1, sq.getD 0 * c.2.getD i 0))) }

/-! ### Verdicts and records (R286 to R288, R291) -/

/-- The coefficient of participant number i on a phase and the square of its uncertainty. DEDUCED (log entry 107). -/
def Solution.at (z : Solution) (i : Nat) : Option (Rat × Rat) :=
  match z.coef with
  | some l => l[i]?
  | none => none

/-- Whether participant number i is significant on a phase. DEDUCED (log entry 108). -/
def Solution.significant (z : Solution) (i : Nat) : Bool :=
  match z.at i with
  | some (a, v) => decide (16 * v ≤ a * a)
  | none => false

/-- The mean expected drive of participant number i over the valid chips of a phase. -/
def Session.meanDrive (x : Session) (z : Solution) (i : Nat) : Rat :=
  let l := z.runs.flatten.map (fun c => match x.chips[c]? with
    | some k => k.drives.getD i 0
    | none => 0)
  if l = [] then 0 else l.sum / (l.length : Rat)

/-- What the record of a lantern says: its verdict, the phase used (0 if none), its coefficient, the square of its uncertainty,
its mean drive. -/
structure Judged where
  verdict : Nat
  phase : Nat
  a : Rat
  var : Rat
  drive : Rat
deriving DecidableEq, Repr

/-- The verdict on participant number i. DEDUCED (log entry 108). -/
def State.judge (s : State) (x : Session) (zs : List Solution) (i addr : Nat) : Judged :=
  let z := fun (p : Nat) => zs.getD p { nEff := 0, sigmaSq := none, coef := none, residual := [], runs := [] }
  let feed := s.rget addr 0x1B 1
  let k := x.parts.length
  let low := fun (p : Nat) => decide ((z p).nEff < 512 ∨ (z p).nEff < k + 32)
  let sig := [0, 1, 2].filter (fun p => (z p).significant i)
  let p := sig.headD 0
  let (a, v) := ((z p).at i).getD (0, 0)
  let dphase := if feed ≠ 0 then feed - 1 else p
  let drive := x.meanDrive (z dphase) i
  let base := s.attr.bases.getD addr (0, 0)
  let old := match s.attr.results.get? addr with
    | some r => bits (r.getD 0 0) 20 4
    | none => 0
  let none_ : Judged := { verdict := 0, phase := 0, a := a, var := v, drive := drive }
  if (if feed = 0 then [0, 1, 2].any low else low (feed - 1)) then { none_ with verdict := 0x9 }
  else if drive < 50 then { none_ with verdict := 0x8 }
  else if 2 ≤ sig.length then { none_ with verdict := 0xB }
  else if sig.length = 0 then { none_ with verdict := if old = 4 ∨ old = 5 then 0x5 else 0x4 }
  else
    let r : Judged := { none_ with phase := p + 1, drive := x.meanDrive (z p) i }
    if a < 0 then { r with verdict := 0xA }
    else if feed = 0 then { r with verdict := 0x7 }
    else if p + 1 ≠ feed then { r with verdict := 0x6 }
    else if base.2 < 2 then { r with verdict := 0x1 }
    else
      let norm := a * 1000 / (x.ampl : Rat) * 1000 / drive
      let sigmaSq := v * 1000000 / ((x.ampl * x.ampl : Nat) : Rat)
      let off := norm - base.1
      if base.1 * (s.get (ATTR.DRIFT_PCT s.cw) : Rat) / 100 < |off| ∧ 9 * sigmaSq * 1000000 / (drive * drive) < off * off then
        { r with verdict := if 0 < off then 0x2 else 0x3 }
      else { r with verdict := 0x0 }

/-- A baseline with one more value (R287). -/
def addBase (b : Rat × Nat) (norm : Rat) : Rat × Nat := if b.2 = 0 then (norm, 1) else ((b.1 + norm) / 2, 2)

/-- The record of a participant, with the baseline it leaves. What a record says of a lantern without a phase used is open.
DESIGN CHOICE (log entry 106). -/
def State.recordOf (s : State) (x : Session) (addr : Nat) (j : Judged) : List Nat × State :=
  let feed := s.rget addr 0x1B 1
  let base := s.attr.bases.getD addr (0, 0)
  let norm := j.a * 1000 / (x.ampl : Rat) * 1000 / j.drive
  let after := if j.verdict = 1 then addBase base norm else base
  let t := if j.verdict = 1 then s.setAttr { s.attr with bases := s.attr.bases.put addr after } else s
  let word0 := addr + 2 ^ 16 * feed + 2 ^ 18 * j.phase + 2 ^ 20 * j.verdict + 2 ^ 24 * x.wicks
  let baseW := min 0xFFFF (quant (after.1 * 10)).toNat
  let drift := if base.2 < 2 then 0x8000 else if base.1 = 0 then Config.overZero addr % 2 ^ 16 else
    ofSigned 16 (quant ((norm - base.1) / base.1 * 1000))
  if j.phase = 0 then
    let (e, t) := t.draw
    let (g, t) := t.draw
    let (d, t) := t.draw
    let (r, t) := t.draw
    let drift := if base.2 < 2 then 0x8000 else d % 2 ^ 16
    ([word0, x.number + 2 ^ 16 * (e % 2 ^ 16), g % 2 ^ 16 + 2 ^ 16 * drift, baseW + 2 ^ 16 * (r % 256) + 2 ^ 24 * after.2], t)
  else
    let est := ofSigned 16 (quant (j.a * 1000 / (x.ampl : Rat) * 10))
    let sigma := min 0xFFFF (rootOf (j.var * 10000000000 / ((x.ampl * x.ampl : Nat) : Rat)))
    let snr := if j.var = 0 then 255 else min 255 (rootOf (j.a * j.a / j.var))
    ([word0, x.number + 2 ^ 16 * est, sigma + 2 ^ 16 * drift, baseW + 2 ^ 16 * snr + 2 ^ 24 * after.2], t)

/-- The strays of a phase: the shifts of no participant whose coefficient in the residual reaches 6 σ (R288). -/
def Session.strays (x : Session) (z : Solution) : List Nat :=
  let used := x.parts.map (codeShift x.seed)
  match z.sigmaSq with
  | none => []
  | some sq =>
    (List.range 1023).filter (fun h =>
      !used.contains h &&
      (let u := centred z.runs (chipOf h)
       let uu := dot u u
       if uu = 0 then false
       else
         let a := dot u z.residual / uu
         decide (0 < a) && decide (36 * (sq / uu) ≤ a * a)))

/-- A list cut into parts of 64. -/
def chunks64 {α : Type} : Nat → List α → List (List α)
  | 0, _ => []
  | _, [] => []
  | n + 1, l => l.take 64 :: chunks64 n (l.drop 64)

/-- SOLVE_DONE: the solution of a session that solves: verdicts, baselines, strays, records and their packets. -/
def doSolveDone (s : State) : State :=
  match s.session, s.author with
  | some x, some w =>
    if x.outcome = 2 then
      let zs := [0, 1, 2].map x.solve
      let (recs, t) := (x.parts.mapIdx (fun i a => (i, a))).foldl (fun (st : List (List Nat) × State) c =>
        let (r, t) := st.2.recordOf x c.2 (st.2.judge x zs c.1 c.2)
        (st.1 ++ [r], t.setAttr { t.attr with results := t.attr.results.put c.2 r })) ([], s)
      let sigma := zs.map (fun z => match z.sigmaSq with
        | some v => min 0xFFFF (rootOf (v * (x.chipMs : Rat) / 1000 * 10000))
        | none => 0)
      let nEff := zs.map Solution.nEff
      let strays := [0, 1, 2].flatMap (fun p => (x.strays (zs.getD p (x.solve p))).map (fun h => (p, h)))
      let t := t.setAttr { t.attr with nEff := nEff, sigma := sigma, cur := some { x with outcome := 3 } }
      let t := strays.foldl (fun (t : State) c =>
        ((t.bump (ATTR.STRAY_CNT w) 1).raise (w.page 9) 3).event t.srcCtl 0x0704 [c.1 + 1, c.2, codeResidue x.seed c.2]) t
      let t := (chunks64 (recs.length + 1) recs).foldl (fun (t : State) c => t.packet 3 0x01 c.flatten) t
      let sum := [x.number + 2 ^ 16 * x.plan + 2 ^ 20 * 3 + 2 ^ 24 * x.wicks, x.start % 2 ^ 32,
        x.start / 2 ^ 32 % 2 ^ 16 + 2 ^ 16 * x.chipMs, x.seed] ++
        [0, 1, 2].map (fun p => nEff.getD p 0 + 2 ^ 16 * sigma.getD p 0) ++
        [x.parts.length % 2 ^ 10 + 2 ^ 16 * (strays.length % 2 ^ 10)]
      (t.packet 3 0x02 sum).raise (w.page 9) 1
    else s
  | _, _ => s

/-- SOLVE_DONE. -/
def execSolveDone (s : State) : Host.Outcome State Fault Refusal := .next (doSolveDone s)

/-! ### ABORT, BASE_CLEAR, ENABLE (R287, R289) -/

/-- A write of ABORT: the STOP frame is sent and the session closes ABORTED, unless chip 1,022 has ended. DEDUCED (log entry 109). -/
def doAttrAbort (m : Master) (w : Wick) (same : Bool) (s : State) : State :=
  s.attrCommand m w (fun s =>
    match s.session with
    | none => s.set (ATTR.CMD_STATUS w) 9
    | some x =>
      if same ∨ x.outcome = 2 ∨ x.stop ≤ s.now then s.set (ATTR.CMD_STATUS w) 8
      else ((s.submit (x.frame true)).endSession 4).set (ATTR.CMD_STATUS w) 7)

/-- ATTR_ABORT: `same` says that chip 1,022 ends in the same cycle. -/
def execAttrAbort (m : Master) (w : Wick) (same : Bool) (s : State) : Host.Outcome State Fault Refusal :=
  .next (doAttrAbort m w same s)

/-- A write of BASE_CLEAR: the baseline of one lantern or of every lantern is cleared. -/
def doBaseClear (m : Master) (w : Wick) (a : Nat) (s : State) : State :=
  s.attrCommand m w (fun s =>
    let t := if a = 0xFFFF then s.setAttr { s.attr with bases := [] } else s.clearBase a
    t.set (ATTR.CMD_STATUS w) 0)

/-- BASE_CLEAR. -/
def execBaseClear (m : Master) (w : Wick) (a : BitVec 16) (s : State) : Host.Outcome State Fault Refusal :=
  .next (doBaseClear m w a.toNat s)

/-- A write that clears ATTR ENABLE: a session closes LOST. -/
def doAttrDisable (m : Master) (w : Wick) (s : State) : State :=
  s.write m (w.page 9) 0x008 (s.controlCode w) (fun s => (s.endSession 5).store (HDR.ENABLE (w.page 9)) 0)

/-- ATTR_DISABLE. -/
def execAttrDisable (m : Master) (w : Wick) (s : State) : Host.Outcome State Fault Refusal := .next (doAttrDisable m w s)

end Sys2Proof.Machine
end

