-- ==== Sys2Proof/Machine/Campaign.lean ====
section
/-! DEFINITION. Lantern firmware campaigns: the image library, the campaign's states, blocks, queries, repair, activation (R293 to R306). -/

namespace Sys2Proof.Machine

/-! ### The image library (R293, R294) -/

/-- The campaign engine takes a value, journalled. -/
def State.setCamp (s : State) (x : Camp) : State := ({ s with camp := x } : State).jot

/-- The images a wick's library stores. -/
def State.library (s : State) (w : Wick) : Map Image := s.camp.lib.getD w.idx []

/-- A slot of both wicks' libraries takes an image, or is emptied. -/
def State.setImage (s : State) (slot : Nat) (i : Option Image) : State :=
  let upd := fun (l : Map Image) => match i with
    | some x => l.put slot x
    | none => l.del slot
  { s with camp := { s.camp with lib := [Wick.a, Wick.b].foldl (fun (m : Map (Map Image)) w => m.put w.idx (upd (m.getD w.idx []))) s.camp.lib } }

/-- Whether a campaign uses a slot: in any state from ANNOUNCE to CONFIRMING, PAUSED among them. -/
def State.imageInUse (s : State) (slot : Nat) : Bool :=
  ((1 ≤ s.camp.state && s.camp.state ≤ 7) || s.camp.state = 10) && s.camp.slot = slot

/-- A library command's answer. -/
def State.libAnswer (s : State) (w : Wick) (status reason : Nat) : State :=
  (s.set (CAMPAIGN.LIB_STATUS w) status).set (CAMPAIGN.LIB_REASON w) reason

/-- A write of a command register of the CAMPAIGN page: one through the page of a wick that is no controller is counted, and
answered NOT_AUTHOR. -/
def State.campCommand (s : State) (m : Master) (w : Wick) (off : Nat) (refused : State → State) (k : State → State) : State :=
  let page := w.page 0xA
  s.write m page off [] (fun s =>
    if s.isController w = false then refused (s.countErr page m page off 5)
    else if s.isAuthor w then k s else refused s)

/-- A library command: refused while another runs. -/
def State.libCommand (s : State) (m : Master) (w : Wick) (k : State → State) : State :=
  s.campCommand m w 0x044 (fun t => t.libAnswer w 2 6) (fun s => if s.camp.op.isSome then s.libAnswer w 1 0 else k s)

/-- A library command starts to run. -/
def State.libStart (s : State) (w : Wick) (op : LibOp) : State :=
  ({ s with camp := { s.camp with op := some op } } : State).libAnswer w 1 0

/-- A write of BEGIN. DESIGN CHOICE (log entry 111). -/
def doLibBegin (m : Master) (w : Wick) (s : State) : State :=
  s.libCommand m w (fun s =>
    let slot := s.get (CAMPAIGN.LIB_SLOT w)
    let size := s.get (CAMPAIGN.LIB_SIZE w)
    if slot = 0 then s.libAnswer w 2 1
    else if s.imageInUse slot then s.libAnswer w 2 2
    else if size = 0 ∨ 1048576 < size then s.libAnswer w 2 3
    else
      let i : Image := { size := size, version := s.get (CAMPAIGN.LIB_VERSION w), hwClass := s.get (CAMPAIGN.LIB_HWCLASS w)
                         hash := s.wordBytes (CAMPAIGN.LIB_HASH w) 8, data := [] }
      let t := s.setImage slot none
      State.libStart { t with camp := { t.camp with load := none } } w (.begin_ slot i))

/-- LIB_BEGIN. -/
def execLibBegin (m : Master) (w : Wick) (s : State) : Host.Outcome State Fault Refusal := .next (doLibBegin m w s)

/-- A write of LIB_DATA, to any address of the aperture: the word is stored at LIB_WOFF, which advances. DESIGN CHOICE (log entry 111). -/
def doLibDataWrite (m : Master) (w : Wick) (off v : Nat) (s : State) : State :=
  s.campCommand m w off (fun t => t.libAnswer w 2 6) (fun s =>
    let finishing := match s.camp.op with
      | some (.finish _ _) => true
      | _ => false
    match s.camp.load with
    | some (slot, i) =>
      if finishing then s.libAnswer w 2 5
      else
        let a := s.get (CAMPAIGN.LIB_WOFF w)
        let t : State := { s with camp := { s.camp with load := some (slot, { i with data := i.data.setNum a 4 v }) } }
        t.set (CAMPAIGN.LIB_WOFF w) ((a + 4) % 2 ^ 20)
    | none => s.libAnswer w 2 5)

/-- LIB_DATA_WRITE. -/
def execLibDataWrite (m : Master) (w : Wick) (k : Fin 128) (v : Word) (s : State) : Host.Outcome State Fault Refusal :=
  .next (doLibDataWrite m w (0x400 + 4 * k.val) v.toNat s)

/-- A write of FINISH: the hash runs over LIB_SIZE bytes and is compared with LIB_HASH as they stand now (R294).
DESIGN CHOICE (log entry 111). -/
def doLibFinish (m : Master) (w : Wick) (s : State) : State :=
  s.libCommand m w (fun s =>
    if s.camp.load.isSome then s.libStart w (.finish (min (s.get (CAMPAIGN.LIB_SIZE w)) 1048576) (s.wordBytes (CAMPAIGN.LIB_HASH w) 8))
    else s.libAnswer w 2 5)

/-- LIB_FINISH. -/
def execLibFinish (m : Master) (w : Wick) (s : State) : Host.Outcome State Fault Refusal := .next (doLibFinish m w s)

/-- A write of DELETE. DESIGN CHOICE (log entry 111). -/
def doLibDelete (m : Master) (w : Wick) (s : State) : State :=
  s.libCommand m w (fun s =>
    let slot := s.get (CAMPAIGN.LIB_SLOT w)
    if slot = 0 then s.libAnswer w 2 1
    else if s.imageInUse slot then s.libAnswer w 2 2
    else s.libStart w (.delete slot))

/-- LIB_DELETE. -/
def execLibDelete (m : Master) (w : Wick) (s : State) : Host.Outcome State Fault Refusal := .next (doLibDelete m w s)

/-- LIB_OP_DONE: the running library command completes; `norFail` says that the NOR failed it. DESIGN CHOICE (log entry 111). -/
def doLibOpDone (norFail : Bool) (s : State) : State :=
  match s.camp.op, s.author with
  | some op, some w =>
    let t : State := { s with camp := { s.camp with op := none } }
    if norFail then ({ t with camp := { t.camp with load := none } } : State).libAnswer w 2 7
    else match op with
      | .begin_ slot i => ({ t with camp := { t.camp with load := some (slot, i) } } : State).libAnswer w 0 0
      | .delete slot =>
        let t := (t.setImage slot none).libAnswer w 0 0
        match t.camp.load with
        | some (n, _) => if n = slot then { t with camp := { t.camp with load := none } } else t
        | none => t
      | .finish size hash =>
        match t.camp.load with
        | none => t.libAnswer w 2 5
        | some (slot, i) =>
          let t : State := { t with camp := { t.camp with load := none } }
          if sha256 (i.data.read 0 size) = hash then
            ((t.setImage slot (some { i with size := size, hash := hash })).libAnswer w 0 0).raise (w.page 0xA) 0
          else t.libAnswer w 2 4
  | _, _ => s

/-- LIB_OP_DONE. -/
def execLibOpDone (norFail : Bool) (s : State) : Host.Outcome State Fault Refusal := .next (doLibOpDone norFail s)

/-! ### The campaign (R295, R296, R298) -/

/-- Whether the campaign engine runs: only through the AUTHOR (R295). -/
def State.campRuns (s : State) : Bool := s.authorRuns

/-- The campaign enters a state. -/
def State.campEnter (s : State) (x : Camp) (state : Nat) : State := (s.setCamp { x with state := state }).raise (s.cw.page 0xA) 1

/-- N_BLOCKS. -/
def Camp.nBlocks (x : Camp) : Nat := (x.size + 159) / 160

/-- Whether the campaign is in some state, or paused in it. -/
def Camp.inState (x : Camp) (n : Nat) : Bool := x.state = n || (x.state = 10 && x.prev = n)

/-- The campaign moves on from a state, which a pause keeps as the state to return to. DEDUCED (log entry 112). -/
def State.campMove (s : State) (x : Camp) (n : Nat) : State :=
  if x.state = 10 then s.setCamp { x with prev := n } else s.campEnter x n

/-- The close of a campaign transaction: 0 a hold, 1 CAMP_BEGIN, 2 CAMP_QUERY, 3 CAMP_ACTIVATE, 4 CAMP_CANCEL. A CAMP_BEGIN that a pause kept from being sent
is sent at RESUME. DEDUCED (log entry 112). -/
def State.campClosed (s : State) (step number : Nat) (notSent : Bool) : State :=
  let x := s.camp
  if number ≠ x.number then s
  else if step = 1 ∧ x.inState 1 = true then
    if x.state = 10 ∧ notSent = true then s
    else s.campMove { x with lastBlock := s.base, busy := false } (if x.full then 2 else 4)
  else if step = 2 ∧ (x.inState 3 ∨ x.state = 7) then
    let n := secs (s.get (CAMPAIGN.C_QUERY_S s.cw) + 30)
    if x.state = 10 then s.setCamp { x with rest := some n } else s.setCamp { x with until_ := some (s.base + n) }
  else if step = 3 ∧ x.state = 6 ∧ notSent = true then (s.campEnter x 5).raise (s.cw.page 0xA) 5
  else s

/-- A control frame of the campaign (R296). One that the transaction engine refuses under R178 has closed without being sent. -/
def State.campFrame (s : State) (step opcode : Nat) (args : List Byte) (notAfter : Nat) : State :=
  let d := groupCommand (.campaign step) s.camp.target opcode (leBytes 2 s.camp.number ++ args) 3 0 notAfter
  if s.takesInternal d then s.submit d else s.campClosed step s.camp.number true

/-- CAMP_BEGIN is sent. -/
def State.campBegin (s : State) : State :=
  let x := s.camp
  s.campFrame 1 0x60 (leBytes 2 x.nBlocks ++ leBytes 4 x.size ++ leBytes 4 x.version ++ leBytes 4 x.fromVer ++ leBytes 4 x.hwClass ++
    x.hash) 0

/-- CAMP_QUERY is sent, and a new collection begins. -/
def State.campQuery (s : State) : State :=
  let t := s.setCamp { s.camp with heard := [], until_ := none }
  t.campFrame 2 0x61 (leBytes 2 (s.get (CAMPAIGN.C_QUERY_S s.cw))) 0

/-- AWAKE_HOLD is sent to the targets. -/
def State.campHold (s : State) : State :=
  (s.setCamp { s.camp with lastHold := s.base }).submit (groupCommand (.campaign 0) s.camp.target 0x03 (leBytes 2 600) 2 0 0)

/-- The targets of a START (R295). -/
def State.campTargets (s : State) (target fromVer version : Nat) : List Nat :=
  if isMulti target then
    (s.membersOf target).filter (fun a =>
      let v := s.rget a 0x24 4
      v != version && (fromVer = 0 || v = fromVer))
  else []

/-- A write of C_CMD, with its status where it is refused for the wick. -/
def State.cCommand (s : State) (m : Master) (w : Wick) (k : State → State) : State :=
  s.campCommand m w 0x114 (fun t => t.set (CAMPAIGN.C_CMD_STATUS w) 2) k

/-- A write of START. -/
def doStart (m : Master) (w : Wick) (s : State) : State :=
  let st := fun (s : State) (v : Nat) => s.set (CAMPAIGN.C_CMD_STATUS w) v
  s.campCommand m w 0x114 (fun t => st t (if t.on (HDR.ENABLE (w.page 0xA)) then 2 else 1)) (fun s =>
    let x := s.camp
    let slot := s.get (CAMPAIGN.C_SLOT w)
    let target := s.get (CAMPAIGN.C_TARGET w)
    let fromVer := s.get (CAMPAIGN.C_FROM_VER w)
    if s.on (HDR.ENABLE (w.page 0xA)) = false then st s 1
    else if x.state ≠ 0 ∧ x.state ≠ 8 ∧ x.state ≠ 9 then st s 3
    else match (s.library w).get? slot with
      | none => st s 4
      | some i =>
        let targets := s.campTargets target fromVer i.version
        if targets = [] then st s 5
        else
          let y : Camp := { Camp.idle with
            lib := x.lib, load := x.load, op := x.op, number := (x.number + 1) % 2 ^ 16, slot := slot, size := i.size
            version := i.version, hwClass := i.hwClass, hash := i.hash, target := target, fromVer := fromVer, targets := targets
            needed := List.range ((i.size + 159) / 160) }
          ((st (s.campEnter y 1) 0).campHold).campBegin)

/-- START. -/
def execStart (m : Master) (w : Wick) (s : State) : Host.Outcome State Fault Refusal := .next (doStart m w s)

/-- The blocks of a round are under way, or, where it has none left, its query is sent (R298). -/
def State.campNext (s : State) : State :=
  if s.camp.needed.length ≤ s.camp.next then (s.campEnter s.camp 3).campQuery else s

/-! ### Blocks (R299) -/

/-- The data of a block. -/
def Image.block (i : Image) (b : Nat) : List Byte := i.data.read (160 * b) (min 160 (i.size - 160 * b))

/-- BLOCK_SEND: C_GAP_MS after the last block, or after CAMP_BEGIN closed, the next block is submitted; after the last one the query is sent (R298, R299).
DEDUCED (log entry 112). -/
def doBlockSend (s : State) : State :=
  let x := s.camp
  if s.campRuns && (x.state = 2 || x.state = 4) && !x.busy && decide (x.lastBlock + millis (s.get (CAMPAIGN.C_GAP_MS s.cw)) ≤ s.base) then
    match x.needed[x.next]?, (s.library s.cw).get? x.slot with
    | some b, some i =>
      let d := { Desc.empty with purpose := .block b, ty := 7, dest := x.target, maxAtt := 1
                                 args := leBytes 2 x.number ++ leBytes 2 b ++ leBytes 2 x.nBlocks ++ i.block b }
      if s.takesInternal d then (s.setCamp { x with busy := true }).submit d else s
    | none, _ => s.campNext
    | _, none => s
  else s

/-- BLOCK_SEND. -/
def execBlockSend (s : State) : Host.Outcome State Fault Refusal := .next (doBlockSend s)

/-- A block of the campaign is keyed. -/
def State.blockKeyed (s : State) : State :=
  s.setCamp { s.camp with lastBlock := s.base, blocksSent := (s.camp.blocksSent + 1) % 2 ^ 32 }

/-- The ledger has granted a transaction air time: that of a block counts in AIR_MS (R306). -/
def State.airGranted (s : State) (d : Desc) (toa : Nat) : State :=
  match d.purpose with
  | .block _ => s.setCamp { s.camp with airUs := s.camp.airUs + toa }
  | _ => s

/-- The close of a block's transaction: one that was sent is followed by the next; one that was not keeps its place. -/
def State.blockClosed (s : State) (b number : Nat) (notSent : Bool) : State :=
  let x := s.camp
  if number ≠ x.number ∨ (x.inState 2 = false ∧ x.inState 4 = false) ∨ x.needed[x.next]? ≠ some b then s
  else if notSent then s.setCamp { x with busy := false, lastBlock := s.base }
  else s.setCamp { x with busy := false, next := x.next + 1 }

/-- CAMPAIGN_HOLD: every 300 s during distribution AWAKE_HOLD is sent. -/
def execCampaignHold (s : State) : Host.Outcome State Fault Refusal :=
  .next (if s.campRuns && decide (1 ≤ s.camp.state ∧ s.camp.state ≤ 4) && decide (s.camp.lastHold + secs 300 ≤ s.base) then s.campHold
    else s)

/-! ### Reports and collections (R297, R299, R303) -/

/-- A CAMPAIGN_STATUS body from a lantern is taken in (R297, R303). DEDUCED (log entry 112). -/
def State.campReport (s : State) (a : Nat) (body : List Byte) : State :=
  let num := fun (off n : Nat) => leNat ((body.drop off).take n)
  let t := s.rset a 0x24 4 (num 42 4)
  let x := t.camp
  if num 0 2 = x.number ∧ x.state ≠ 0 then
    let r : CampReport := { phase := num 2 1, code := num 3 1, missing := num 6 2, first := num 8 2, map := num 10 32
                            runVer := num 42 4, last := s.now / 65536 }
    let t := t.setCamp { x with reports := x.reports.put a r, heard := if x.heard.contains a then x.heard else a :: x.heard }
    if r.phase = 6 ∧ x.state = 7 then (t.event t.srcCtl 0x0604 [a, x.number, r.code]).raise (t.cw.page 0xA) 3 else t
  else t

/-- The phase a target last reported in the campaign. -/
def Camp.phase (x : Camp) (a : Nat) : Nat :=
  match x.reports.get? a with
  | some r => r.phase
  | none => 0

/-- The targets of a last phase. -/
def Camp.count (x : Camp) (p : Nat) : Nat := (x.targets.filter (fun a => x.phase a = p)).length

/-- The targets that are neither COMPLETE, REFUSED nor SILENT. -/
def Camp.incomplete (x : Camp) : List Nat := x.targets.filter (fun a => x.reports.has a && x.phase a != 2 && x.phase a != 7)

/-- Whether a round is a full PASS: a target lacks more than half or failed its check. -/
def Camp.fullRound (x : Camp) : Bool :=
  (x.incomplete.filterMap x.reports.get?).any (fun r => decide (x.nBlocks < 2 * r.missing) || r.phase = 3)

/-- The needed set of a round, in increasing block order; every block in a full PASS. -/
def Camp.neededSet (x : Camp) : List Nat :=
  let reports := x.incomplete.filterMap x.reports.get?
  if x.fullRound then List.range x.nBlocks
  else (List.range x.nBlocks).filter (fun b => reports.any (fun r => decide (r.first ≤ b ∧ b < r.first + 256) && bit r.map (b - r.first)))

/-- N_SILENT as a collection closes: the targets without a report in it; in CONFIRMING those that reported neither ACTIVATED nor ROLLED_BACK (R303, R306). -/
def Camp.silentNow (x : Camp) : Nat :=
  (x.targets.filter (fun a => if x.state = 7 then x.phase a != 5 && x.phase a != 6 else !x.heard.contains a)).length

/-- A collection closes (R299, R303). -/
def State.closeCollection (s : State) : State :=
  let x := { s.camp with until_ := none, silent := s.camp.silentNow }
  if x.state = 7 then (s.campEnter x 8).raise (s.cw.page 0xA) 4
  else if x.incomplete ≠ [] ∧ x.round < s.get (CAMPAIGN.C_MAX_ROUNDS s.cw) then
    (s.campEnter { x with round := x.round + 1, needed := x.neededSet, full := x.fullRound, next := 0, busy := false } 1).campHold.campBegin
  else (s.campEnter x 5).raise (s.cw.page 0xA) 2

/-- QUERY_CLOSE: the collection's time has run out. -/
def doQueryClose (s : State) : State :=
  match s.camp.until_ with
  | some t => if s.campRuns && (s.camp.state = 3 || (s.camp.state = 7 && s.camp.rest = none)) && decide (t ≤ s.base) then s.closeCollection else s
  | none => s

/-- QUERY_CLOSE: `same` are the CAMPAIGN_STATUS bodies that arrive in this cycle, with their lanterns; they count in the collection (R304). -/
def execQueryClose (s : State) (same : List (BitVec 16 × List Byte) := []) : Host.Outcome State Fault Refusal :=
  .next (doQueryClose (same.foldl (fun (t : State) r => t.campReport r.1.toNat r.2) s))

/-! ### Activation (R302, R303, R305) -/

/-- A write of ACTIVATE. -/
def doActivate (m : Master) (w : Wick) (s : State) : State :=
  s.cCommand m w (fun s =>
    let x := s.camp
    let t0 := s.get2 (CAMPAIGN.ACT_TIME_LO w) (CAMPAIGN.ACT_TIME_HI w)
    let at_ := if t0 = 0 then nextMultiple (s.now + secs 120) 32768 else t0
    if x.state ≠ 5 then s.set (CAMPAIGN.C_CMD_STATUS w) 3
    else if at_ % 32768 ≠ 0 ∨ at_ < s.now + secs 120 then s.set (CAMPAIGN.C_CMD_STATUS w) 6
    else
      let t := (s.campEnter { x with actTime := at_, actSent := false } 6).set (CAMPAIGN.C_CMD_STATUS w) 0
      t.campFrame 3 0x62 (leBytes 4 at_ ++ leBytes 2 (s.get (CAMPAIGN.C_CONFIRM_S w))) (at_ - 32768))

/-- ACTIVATE. -/
def execActivate (m : Master) (w : Wick) (s : State) : Host.Outcome State Fault Refusal := .next (doActivate m w s)

/-- CAMP_ACTIVATE is keyed. -/
def State.activateKeyed (s : State) : State := s.setCamp { s.camp with actSent := true }

/-- ACTIVATION_INSTANT: ACT_TIME has come: the campaign confirms, or, where the frame was never sent, is READY again. `rest` keeps
the wait for C_CONFIRM_S apart from the collection. -/
def doActivationInstant (s : State) : State :=
  let x := s.camp
  if s.campRuns && x.state = 6 && decide (x.actTime ≤ s.now) then
    if x.actSent then
      s.campEnter { x with rest := some 0, until_ := some (s.base + secs (s.get (CAMPAIGN.C_CONFIRM_S s.cw))) } 7
    else ((s.campEnter x 5).raise (s.cw.page 0xA) 5).dropQueued (fun p => p = .campaign 3)
  else s

/-- ACTIVATION_INSTANT. -/
def execActivationInstant (s : State) : Host.Outcome State Fault Refusal := .next (doActivationInstant s)

/-- CONFIRM_WAIT_END: C_CONFIRM_S after activation CAMP_QUERY is sent. -/
def execConfirmWaitEnd (s : State) : Host.Outcome State Fault Refusal :=
  .next (match s.camp.until_ with
    | some t =>
      if s.campRuns && s.camp.state = 7 && s.camp.rest != none && decide (t ≤ s.base) then
        (s.setCamp { s.camp with rest := none }).campQuery
      else s
    | none => s)

/-! ### PAUSE, RESUME, ABORT, ENABLE (R304, R305) -/

/-- Whether a purpose is the campaign's. -/
def ofCampaign : Purpose → Bool
  | .campaign _ => true
  | .block _ => true
  | _ => false

/-- Whether the engine holds the campaign's frames back: it is paused (R304). -/
def State.campHeld (s : State) (p : Purpose) : Bool := s.camp.state = 10 && ofCampaign p

/-- A write of PAUSE; `same` says that the last collection closes in the same cycle. -/
def doPause (m : Master) (w : Wick) (same : Bool) (s : State) : State :=
  s.cCommand m w (fun s =>
    let s := if same then doQueryClose s else s
    let x := s.camp
    if same && x.state = 5 then s.set (CAMPAIGN.C_CMD_STATUS w) 7
    else if 1 ≤ x.state ∧ x.state ≤ 4 then
      let rest := match x.until_ with
        | some t => some (t - s.base)
        | none => none
      ((s.campEnter { x with prev := x.state, rest := rest, until_ := none } 10).recall ofCampaign).set (CAMPAIGN.C_CMD_STATUS w) 0
    else s.set (CAMPAIGN.C_CMD_STATUS w) 3)

/-- PAUSE. -/
def execPause (m : Master) (w : Wick) (same : Bool) (s : State) : Host.Outcome State Fault Refusal := .next (doPause m w same s)

/-- Whether a CAMP_BEGIN is still to close. -/
def State.beginOpen (s : State) : Bool :=
  (List.range 64).any (fun n => (s.slot n).live && (s.slot n).desc.purpose = .campaign 1) || s.txn.waiting.any (fun d => d.1.purpose = .campaign 1)

/-- A write of RESUME: the campaign goes on in the state it left, with a CAMP_BEGIN that the pause kept from being sent (R304).
DEDUCED (log entry 112). -/
def doResume (m : Master) (w : Wick) (s : State) : State :=
  s.cCommand m w (fun s =>
    let x := s.camp
    if x.state = 10 then
      let y := { x with until_ := x.rest.map (fun n => s.base + n), rest := none }
      let t := (s.campEnter y x.prev).set (CAMPAIGN.C_CMD_STATUS w) 0
      if x.prev = 1 ∧ s.beginOpen = false then t.campBegin else t
    else s.set (CAMPAIGN.C_CMD_STATUS w) 3)

/-- RESUME. -/
def execResume (m : Master) (w : Wick) (s : State) : Host.Outcome State Fault Refusal := .next (doResume m w s)

/-- A write of ABORT; `same` says that the activation instant falls in the same cycle. -/
def doCampaignAbort (m : Master) (w : Wick) (same : Bool) (s : State) : State :=
  s.cCommand m w (fun s =>
    let s := if same then doActivationInstant s else s
    let x := s.camp
    if x.state = 0 then s.set (CAMPAIGN.C_CMD_STATUS w) 8
    else if (1 ≤ x.state ∧ x.state ≤ 6) ∨ x.state = 10 then
      let t := (s.dropQueued ofCampaign).campEnter { x with until_ := none, rest := none } 9
      (t.set (CAMPAIGN.C_CMD_STATUS w) 0).campFrame 4 0x63 [] 0
    else s.set (CAMPAIGN.C_CMD_STATUS w) 7)

/-- CAMPAIGN_ABORT. -/
def execCampaignAbort (m : Master) (w : Wick) (same : Bool) (s : State) : Host.Outcome State Fault Refusal :=
  .next (doCampaignAbort m w same s)

/-- A write that clears CAMPAIGN ENABLE. -/
def doCampaignDisable (m : Master) (w : Wick) (s : State) : State :=
  s.write m (w.page 0xA) 0x008 (s.controlCode w) (fun s =>
    let x := s.camp
    let t :=
      if (1 ≤ x.state ∧ x.state ≤ 6) ∨ x.state = 10 then
        (s.dropQueued ofCampaign).campEnter { x with until_ := none, rest := none } 9
      else if x.state = 7 then ((s.dropQueued ofCampaign).campEnter { x with until_ := none } 8).raise (w.page 0xA) 4
      else s
    t.store (HDR.ENABLE (w.page 0xA)) 0)

/-- CAMPAIGN_DISABLE. -/
def execCampaignDisable (m : Master) (w : Wick) (s : State) : Host.Outcome State Fault Refusal := .next (doCampaignDisable m w s)

end Sys2Proof.Machine
end

