-- ==== Sys2Proof/Machine/Keying.lean ====
section
/-! DEFINITION. How a wick keys a frame: what holds it back, its counter, its journal record, its capture and its MIRROR copy; beacons (R25, R26, R100, R101, R131, R139, R145, R146, R162, R319, R457). -/

namespace Sys2Proof.Machine

/-! ### What holds a frame back (R106, R131, R135, R457) -/

/-- Base cycles in some µs, rounded up. -/
def usTicks (us : Nat) : Nat := (us * 32768 + 999999) / 1000000

/-- The preamble of PRE_MIN_OCTETS on a channel, in µs. -/
def Bank.preUs (b : Bank) (c : Nat) : Nat := (8 * b.preMin * symThirds (b.chan c).rate + 2) / 3

/-- Whether a wick's link engine runs (R135, R163). -/
def State.linkOn (s : State) (w : Wick) : Bool :=
  s.on (HDR.ENABLE (w.page 2)) && s.active.usable && s.get (FABRIC.SEG_ID w) != 0xFFFF

/-- Whether a wick sends beacons (R145). -/
def State.beaconOn (s : State) (w : Wick) : Bool := s.linkOn w && s.on (LINK.BEACON_EN w) && s.isController w

/-- The instant of the next beacon that has not been handled (R145). -/
def State.nextBeacon (s : State) : Nat :=
  let q := s.active.beaconTicks
  let t := nextMultiple s.now q
  if s.link.lastBeacon = some t then t + q else t

/-- The channel of the beacon at an instant (R145). -/
def Bank.beaconChan (b : Bank) (t : Nat) : Nat := b.bAt (t / b.beaconTicks)

/-- The length of a beacon's PSDU. -/
def beaconPsdu : Nat := 46

/-- Whether a transmission that begins at an instant is off the air when the beacon after it must begin. -/
def State.clearOfBeacon (s : State) (w : Wick) (t toa : Nat) : Bool :=
  !s.beaconOn w || (let k := s.nextBeacon
                    decide (t + usTicks toa + usTicks (s.active.preUs (s.active.beaconChan k)) ≤ k))

/-- Whether a transmission ends before the direct acknowledgements the module owes. -/
def State.clearOfAcks (s : State) (toa : Nat) : Bool :=
  s.link.acks.all (fun a => a.channel.isNone || decide (s.base + usTicks toa ≤ a.due))

/-- Whether a second boundary is more than 2 ms away. -/
def clearOfSecond (t : Nat) : Bool := decide (66 ≤ 32768 - t % 32768)

/-- Whether a wick's transmitter is free and may be keyed: its radio runs, its PLL is locked, it has not stopped (R14, R105, R106), and it owes
no work on the banks that comes before its first transmission (R62, R63, R456). -/
def State.radioFree (s : State) (w : Wick) : Bool :=
  s.pdOn (radioPd w) && s.on (HDR.ENABLE (w.page 1)) && s.on (RADIO.PLL_LOCK w) && !s.stopped w && !s.link.onAir.has w.idx &&
  (s.role w).maySend && !s.saving && !(s.isAuthor w && s.bankOwed)

/-- Whether the vault holds the current segment key: without it nothing is sent on the link (R386, R403). -/
def State.segKeyed (s : State) : Bool := s.keys.has (2 + s.get VAULT.SEG_EPOCH % 2)

/-- Whether a wick may send a frame of the link: its transmitter is free, its counter is not exhausted, the segment key is there
(R139, R403). -/
def State.transmitterFree (s : State) (w : Wick) : Bool := s.radioFree w && !s.exhausted w && s.segKeyed

/-- A frame is due while TX_EN is 0: it is counted (R106). DEDUCED (log entry 69). -/
def State.txRefused (s : State) (w : Wick) : State := (s.bump (RADIO.TX_REFUSED w) 1).raise (w.page 1) 1

/-! ### Capture (R162) -/

/-- A frame becomes a packet of the FRAMES stream FIFO. DEDUCED (log entry 56). -/
def State.capture (s : State) (ty sfd chan input rssi flags : Nat) (psdu : List Byte) : State :=
  s.packet 1 ty ([sfd % 2 ^ 32, sfd / 2 ^ 32 % 2 ^ 16 + chan * 2 ^ 16 + input * 2 ^ 22 + rssi * 2 ^ 24,
    psdu.length + flags * 2 ^ 16] ++ toWords psdu)

/-- Whether the AUTHOR's link engine captures frames. -/
def State.captures (s : State) (w : Wick) : Bool := s.isAuthor w && s.on (LINK.CAPTURE w)

/-! ### Keying -/

/-- The MIRROR, if there is one. -/
def State.mirror (s : State) : Option Wick :=
  if s.roleA = .mirror then some .a else if s.roleB = .mirror then some .b else none

/-- Whether a transmission carries NO_COPY: it would still be on the air 20 ms after its start, or is a frame longer than 18 ms
(R319). DEDUCED (log entry 57). -/
def noCopy (wake toa : Nat) : Bool := decide (20000 < toa) || (wake = 0 && decide (18000 < toa))

/-- The MIRROR's copy of a frame keyed now falls due 20 ms later, or is skipped (R319). DEDUCED (log entry 57). -/
def State.copyLater (s : State) (f : OutFrame) (g : Grant) : State :=
  match s.mirror with
  | none => s
  | some m =>
    if f.ty = 0xF ∨ f.ty = 0xA ∨ f.copy = true then s
    else if noCopy g.wake g.toa then s.bump (WCORE.COPY_SKIPPED m) 1
    else { s with link := { s.link with copies := s.link.copies ++ [{ frame := { f with copy := true }, channel := g.channel, due := s.base + 655 }] } }

/-- The receiver of a wick that starts to transmit is blanked: the frames its demodulators receive are lost and counted (R101). -/
def State.blank (s : State) (w : Wick) : State := (s.bump (RADIO.RX_BLANKED w) (s.busyDemods w).length).releaseDemods w

/-- The journal record of a frame (R312). -/
def OutFrame.record (f : OutFrame) (chan wake toa : Nat) : RecKind := .frame f.seq f.dest chan f.payload (noCopy wake toa)

/-- The journal record that a wick has of a frame it was granted and could not key (R25). -/
def State.record? (s : State) (w : Wick) (f : OutFrame) : Option Record :=
  match s.link.records.get? f.seq with
  | some r => if r.wick = w.idx ∧ r.retry = f.retry ∧ f.ty ≠ 0xF ∧ f.ty ≠ 0xA ∧ f.copy = false then some r else none
  | none => none

/-- The record of a frame is kept no longer. -/
def State.dropRecord (s : State) (seq : Nat) : State := { s with link := { s.link with records := s.link.records.del seq } }

/-- A frame whose grant lapses before it is keyed has taken its counter and its journal record: it is sent under them once granted again (R25).
Where the ring has no room nothing was taken. -/
def State.keepRecord (s : State) (w : Wick) (f : OutFrame) (g : Grant) : State :=
  if s.ringRoom = false ∨ s.stopped w ∨ s.saving ∨ s.exhausted w ∨ (s.record? w f).isSome then s
  else
    let t := (s.takeFcnt w).jotAs (f.record g.channel g.wake g.toa)
    { t with link := { t.link with records := t.link.records.put f.seq
                                     { wick := w.idx, retry := f.retry, fcnt := s.link.fcnt.getD w.idx 0 } } }

/-- A frame takes its counter and is journalled, and its PHR and PSDU are built and captured (R25, R108, R139, R162); one that has a record
already is sent under it. DESIGN CHOICE (log entry 58). -/
def State.buildFrame (s : State) (w : Wick) (f : OutFrame) (g : Grant) (sfd : Nat) : State :=
  let rec? := s.record? w f
  let cnt := if f.ty = 0xF then s.link.fabCnt.getD w.idx 0
    else match rec? with
      | some r => r.fcnt
      | none => s.link.fcnt.getD w.idx 0
  let p := s.psdu w f cnt sfd
  let t := if f.ty = 0xF then s.takeFabCnt w else if rec?.isSome then s.dropRecord f.seq else s.takeFcnt w
  let t := if f.copy ∨ f.ty = 0xA ∨ rec?.isSome then t else t.jotAs (f.record g.channel g.wake g.toa)
  let t : State := { t with link := { t.link with lastPsdu := t.link.lastPsdu.put w.idx p, lastPhr := t.link.lastPhr.put w.idx (sentPhr p)
                                                  sentSfd := t.link.sentSfd.put f.seq sfd } }
  if s.captures w then t.capture 2 sfd g.channel 0 0 (3 + 8 * b2n f.copy) p else t

/-- A transmission begins under a grant. A grant that the wick still holds for another frame stands (R457). DEDUCED (log entry 56). -/
def State.goOnAir (s : State) (w : Wick) (g : Grant) : State :=
  let t := (s.blank w).set (RADIO.TX_ACTIVE w) 1
  { t with link := { t.link with onAir := t.link.onAir.put w.idx { g with since := s.base } } }

/-- A granted frame is keyed, with the segment time of its SFD. -/
def State.keyFrame (s : State) (w : Wick) (f : OutFrame) (g : Grant) (sfd : Nat) : State :=
  ((s.buildFrame w f g sfd).goOnAir w g).copyLater f g

/-- The segment time of the SFD of a frame keyed now. -/
def State.sfdOf (s : State) (g : Grant) : Nat :=
  s.now + usTicks (if g.wake = 0 then s.active.preUs g.channel else (g.wake * symThirds (s.active.chan g.channel).rate + 2) / 3)

/-! ### Beacons (R145, R146) -/

/-- NEXT_S of the beacon at an instant: a swap that is armed is taken into account. DEDUCED (log entries 68, 180). -/
def State.nextS (s : State) (t : Nat) : Nat :=
  let b := s.active
  let u := t + b.beaconTicks
  if s.cfg.state = 2 ∧ s.cfg.swapAt ≤ u then (nextMultiple (max (t + 1) s.cfg.swapAt) s.shadow.beaconTicks - t) / 32768
  else b.beaconS

/-- The payload of the beacon at an instant. -/
def State.beaconPayload (s : State) (t : Nat) : List Byte :=
  let b := s.active
  leBytes 2 (t / 2 ^ 32) ++ leBytes 4 t ++ leBytes 1 (s.nextS t) ++
  leBytes 1 (b2n (s.on TIME.TRUSTED) + 2 * b2n (s.role s.cw = .snowdrop) +
    4 * b2n (s.on (REGISTRY.JOIN_OPEN s.cw) && s.isAuthor s.cw) + 8 * b2n b.dozeOff) ++
  leBytes 1 (b.effPeriod / 10) ++ leBytes 1 (s.cfgGet (LINK.SAMPLE_WIN .a)) ++
  leBytes 1 (s.cfgGet (LINK.MAX_TTL .a) + 16 * s.cfgGet (LINK.RELAY_K .a)) ++ leBytes 1 (s.get VAULT.SEG_EPOCH) ++
  leBytes 2 s.cfg.commitCount ++ leBytes 1 b.beaconS

/-- A beacon is skipped and counted. -/
def State.beaconSkipped (s : State) (w : Wick) : State := (s.bump (LINK.BEACONS_SKIPPED w) 1).raise (w.page 2) 1

/-- BEACON_SEND: the preamble of the next beacon must begin now, even within the guard of R131, for its instant is fixed (R457). A beacon whose
record cannot be committed is not sent (R25). DEDUCED (log entry 196). -/
def doBeaconSend (w : Wick) (s : State) : State :=
  let k := s.nextBeacon
  let c := s.active.beaconChan k
  if s.beaconOn w && decide (k ≤ s.now + usTicks (s.active.preUs c)) then
    let s : State := { s with link := { s.link with lastBeacon := some k } }
    if s.link.onAir.has w.idx then s.beaconSkipped w
    else if s.on (RADIO.TX_EN w) = false then s.txRefused w
    else if s.transmitterFree w then
      match s.takeSeq w with
      | (none, t) => t
      | (some q, t) =>
        let f : OutFrame := { ty := 0, dest := 0xFFFF, seq := q, retry := 0, ackReq := false, copy := false, keySel := 0, nodeId := 0
                              joinKey := [], ttl := t.cfgGet (LINK.MAX_TTL .a), payload := t.beaconPayload k }
        let r : Req := { channel := c, cls := 0, psdu := beaconPsdu, wake := 0, air := false }
        let (code, t) := t.askLedger w r
        if code ≠ 0 then t.beaconSkipped w
        else if t.ringRoom then t.keyFrame w f (t.grantOf r (some f) .beacon true) k
        else (t.bump (WCORE.JRNL_WAIT_CNT w) 1).beaconSkipped w
    else s.beaconSkipped w
  else s

/-- BEACON_SEND. -/
def execBeaconSend (w : Wick) (s : State) : Host.Outcome State Fault Refusal := .next (doBeaconSend w s)

/-! ### MIRROR copies (R26, R319, R320) -/

/-- Who sends the copies that are due: the MIRROR, or the AUTHOR it became. -/
def State.copier (s : State) : Option Wick :=
  match s.mirror with
  | some m => some m
  | none => s.author

/-- MIRROR_COPY: the oldest copy that is due is requested and sent, or skipped. One that a wick which has become AUTHOR still owes waits for its
own beacons and acknowledgements (R457). DEDUCED (log entry 57). -/
def doMirrorCopy (s : State) : State :=
  match s.link.copies, s.copier with
  | c :: l, some w =>
    if c.due ≤ s.base then
      let toa := s.active.toaUs c.channel c.frame.psduLen 0
      let clear := s.isController w = false || (s.clearOfBeacon w s.now toa && s.clearOfAcks toa)
      if clear = false ∧ s.base ≤ c.due + 65 then s else
      let s : State := { s with link := { s.link with copies := l } }
      if c.due + 65 < s.base then s
      else if clearOfSecond s.now = false then s.bump (WCORE.COPY_SKIPPED w) 1
      else if s.linkOn w && s.transmitterFree w then
        if s.on (RADIO.TX_EN w) = false then s.txRefused w
        else
          let r : Req := { channel := c.channel, cls := 3, psdu := c.frame.psduLen, wake := 0, air := false }
          let (code, t) := s.askLedger w r
          let g := t.grantOf r (some c.frame) .copy false
          if code = 0 then (t.keyFrame w c.frame g (t.sfdOf g)).bump (WCORE.COPY_SENT w) 1 else t
      else s
    else s
  | _, _ => s

/-- MIRROR_COPY. -/
def execMirrorCopy (s : State) : Host.Outcome State Fault Refusal := .next (doMirrorCopy s)

/-! ### Acknowledgements (R153, R155, R457) -/

/-- The frame of an acknowledgement (R155): what bits 4 to 0 of its STATE, its SYNC_AGE and its LEVEL hold for a module is open; a direct one
carries MAX_TTL too. DESIGN CHOICE (log entries 55, 194). -/
def State.ackFrame (s : State) (a : AckDue) (seq : Nat) : OutFrame × State :=
  let (v, t) := s.draw
  let x := v % 2 ^ 5
  let (y, t) := t.draw
  let (z, t) := t.draw
  ({ ty := 3, dest := a.dest, seq := seq, retry := 0, ackReq := false, copy := false, keySel := 0, nodeId := 0, joinKey := []
     ttl := s.cfgGet (LINK.MAX_TTL .a)
     payload := leBytes 1 0 ++ leBytes 1 a.result ++ leBytes 1 x ++ leBytes 1 a.rssi ++ leBytes 2 y ++ leBytes 2 z ++ leBytes 2 a.seq }, t)

/-- An acknowledgement is requested and keyed at once; one that is refused is not sent. Where its record cannot be committed (R25) a direct one,
whose start is fixed, is not sent, and another waits under its sequence number. DEDUCED (log entry 196). -/
def State.sendAck (s : State) (w : Wick) (a : AckDue) (chan : Nat) : State :=
  if s.on (RADIO.TX_EN w) = false then s.txRefused w
  else match (match a.own with | some q => (some q, s) | none => s.takeSeq w) with
  | (none, t) => t
  | (some q, t) =>
    let (f, t) := t.ackFrame a q
    let r : Req := { channel := chan, cls := 1, psdu := f.psduLen, wake := 0, air := false }
    let (code, t) := t.askLedger w r
    let g := t.grantOf r (some f) .ack a.channel.isNone
    if code ≠ 0 then t
    else if t.ringRoom then t.keyFrame w f g (t.sfdOf g)
    else
      let t := t.bump (WCORE.JRNL_WAIT_CNT w) 1
      if a.channel.isNone then { t with link := { t.link with acks := { a with own := some q } :: t.link.acks } } else t

/-- ACK_SEND: the acknowledgement that is due is sent. A direct one keeps its start: it is not sent where the transmitter is
not free or a beacon would be met. Another waits for the transmitter and for the guard of R131. -/
def doAckSend (s : State) : State :=
  let w := s.cw
  match leastOn? AckDue.due s.link.acks with
  | none => s
  | some a =>
    if s.base < a.due then s
    else
      let gone : State := { s with link := { s.link with acks := s.link.acks.erase a } }
      let free := s.linkOn w && s.transmitterFree w
      match a.channel with
      | some c =>
        if free && decide (s.base ≤ a.due + 6) && s.clearOfBeacon w s.now (s.active.toaUs c 41 0) then gone.sendAck w a c else gone
      | none =>
        let c := s.active.commonChan s.now
        let toa := s.active.toaUs c 41 0
        if s.linkOn w = false then gone
        else if free && clearOfSecond s.now && s.clearOfBeacon w s.now toa && gone.clearOfAcks toa then gone.sendAck w a c
        else s

/-- ACK_SEND. -/
def execAckSend (s : State) : Host.Outcome State Fault Refusal := .next (doAckSend s)

/-! ### The seen cache (R152) -/

/-- The result the module gave a request that its seen cache still holds. -/
def State.seenResult (s : State) (src seq : Nat) : Option Nat :=
  (s.link.seen.find? (fun e => e.src = src && e.seq = seq && decide (s.base < e.since + secs 300))).map Seen.result

/-- A request is entered in the seen cache, which replaces its oldest entry where it is full. -/
def State.enterSeen (s : State) (src seq result : Nat) : State :=
  let l := s.link.seen.filter (fun e => !(e.src = src && e.seq = seq))
  { s with link := { s.link with seen := (l.drop (l.length - 4095)) ++ [{ src := src, seq := seq, result := result, since := s.base }] } }

/-- SEEN_ENTRY_EXPIRE: the entries that are 300 s old leave the cache. -/
def execSeenEntryExpire (s : State) : Host.Outcome State Fault Refusal :=
  .next { s with link := { s.link with seen := s.link.seen.filter (fun e => decide (s.base < e.since + secs 300)) } }

end Sys2Proof.Machine
end

