-- ==== Sys2Proof/Machine/Bist.lean ====
section
/-! DEFINITION. The BIST controller: its conditions and the end of a run (R430 to R433). The arbiter starts and stops wicks over it. -/

namespace Sys2Proof.Machine

/-- The temperature readings, in 0.1 °C. -/
def State.temps (s : State) : List Int := (List.range 6).map (fun n => toSigned 16 (s.get (MSS.TEMP n)))

/-- Whether the TCXO runs: while any of PD2, PD3, PD5, PD6 and PD11 is on (R364). -/
def State.tcxoRuns (s : State) : Bool := s.pdOn 2 || s.pdOn 3 || s.pdOn 5 || s.pdOn 6 || s.pdOn 11

/-- The conditions of R431: VIN and every temperature sensor within their limits, the TCXO running, be it because the run powers a
core domain. -/
def State.bistConditions (s : State) (powers : Bool) : Bool :=
  decide (10000 ≤ s.get PWR.VIN_MV ∧ s.get PWR.VIN_MV ≤ 34000) &&
  s.temps.all (fun t => decide (-400 ≤ t ∧ t ≤ 1150)) && (powers || s.tcxoRuns)

/-- The wick of a target, if it has one (R430). -/
def bistWick (target : Nat) : Option Wick :=
  if 1 ≤ target ∧ target ≤ 3 then some .a else if 4 ≤ target ∧ target ≤ 6 then some .b else none

/-- Whether a target is destructive. -/
def bistDestructive (target : Nat) : Bool := target = 1 || target = 2 || target = 4 || target = 5

/-- Whether a target's role column admits a run. DEDUCED (log entry 146). -/
def State.bistRole (s : State) (target : Nat) : Bool :=
  match bistWick target with
  | none => true
  | some w =>
    if bistDestructive target then s.role w = .off || s.role w = .cold || s.role w = .failed
    else s.role w = .warming || s.role w = .mirror || s.role w = .author || s.role w = .snowdrop

/-- A run ends under a code of RUN_STATUS: it is logged and counted, DONE is raised, a wick powered for it is switched off
(R430, R432). -/
def State.bistEnd (s : State) (code detail : Nat) : State :=
  match s.bist with
  | none => s
  | some r =>
    let t : State := { s with bist := none }
    let t := t.setAll [(BIST.RUN_STATUS, code), (BIST.RUN_MS, msShown (s.base - r.since))]
    let t := if code = 3 then
        ((t.set BIST.FAIL_FLAGS (t.get BIST.FAIL_FLAGS ||| 2 ^ (r.target - 1))).bump BIST.FAIL_CNT 1).raise 8 1
      else t
    let t := if code = 2 ∨ code = 3 then t.set BIST.FAIL_DETAIL detail else t
    let t := ((t.bump BIST.RUN_CNT 1).event Master.mss.id 0x0C05 [r.target, code, t.get BIST.FAIL_DETAIL]).raise 8 0
    match bistWick r.target with
    | some w => if bistDestructive r.target then t.setPd (corePd w) false else t
    | none => t

/-- A run that a wick's role no longer admits, or that a wick chosen to start cuts off, ends ABORTED (R433). -/
def State.bistCut (s : State) (w : Wick) (all : Bool) : State :=
  match s.bist with
  | some r => if bistWick r.target = some w ∧ (all = true ∨ s.bistRole r.target = false) then s.bistEnd 8 0 else s
  | none => s

end Sys2Proof.Machine
end

