-- ==== Sys2Proof/Machine/Streams.lean ====
section
/-! DEFINITION. The stream FIFOs (R95 to R99) and the mailbox channels (R84 to R93). -/

namespace Sys2Proof.Machine

/-! ### Stream FIFOs -/

/-- PACKET_OPEN. -/
def execPacketOpen (f : Fin 4) (s : State) : Host.Outcome State Fault Refusal := .next (s.openPacket f.val)

/-- PACKET_COMMIT: the producer has written the payload and writes the length word. -/
def execPacketCommit (f : Fin 4) (ty : Byte) (payload : List Word) (s : State) : Host.Outcome State Fault Refusal :=
  .next (s.commitPacket f.val ty.toNat payload)

/-- PACKET_ABANDON. -/
def execPacketAbandon (f : Fin 4) (s : State) : Host.Outcome State Fault Refusal := .next (s.abandonPacket f.val)

/-- A flush is asked for: its boundary is here, or after the packet that is open (R98). A flush already waiting stands. -/
def State.startFlush (s : State) (f : Nat) : State :=
  if s.on (STREAM.FLUSH_BUSY f) then s
  else
    let x := s.fifo f
    let mark := if x.openSlots = none then some x.words.length else none
    (s.setFifo f { x with flushMark := mark }).set (STREAM.FLUSH_BUSY f) 1

/-- A write of FLUSH. -/
def doFlush (m : Master) (f : Nat) (s : State) : State :=
  s.write m 5 (0x040 + 0x20 * f) [] (fun s => s.startFlush f)

/-- FLUSH. -/
def execFlush (m : Master) (f : Fin 4) (s : State) : Host.Outcome State Fault Refusal := .next (doFlush m f.val s)

/-- FLUSH_BOUNDARY: where the boundary is reached, everything before it is discarded (R98). -/
def doFlushBoundary (f : Nat) (s : State) : State :=
  match (s.fifo f).flushMark with
  | some n => if s.on (STREAM.FLUSH_BUSY f) then s.finishFlush f n else s
  | none => s

/-- FLUSH_BOUNDARY. -/
def execFlushBoundary (f : Fin 4) (s : State) : Host.Outcome State Fault Refusal := .next (doFlushBoundary f.val s)

/-- Clearing F_EN flushes the FIFO and stops it accepting packets (R98). -/
def doFEnClear (m : Master) (f : Nat) (s : State) : State :=
  s.write m 5 (0x040 + 0x20 * f) [] (fun s => (s.startFlush f).set (STREAM.F_EN f) 0)

/-- F_EN_CLEAR. -/
def execFEnClear (m : Master) (f : Fin 4) (s : State) : Host.Outcome State Fault Refusal := .next (doFEnClear m f.val s)

/-- A read of any word of a data aperture: the next word, with its parity checked, or an underrun (R95, R99). -/
def doFDataRead (m : Master) (f : Nat) (s : State) : State :=
  match minimum? (s.readCodes m 5) with
  | some c => { (s.countErr (errPage 5 c) m 5 (0x800 + 0x200 * f) c) with busData := 0 }
  | none =>
    let x := s.fifo f
    match x.words with
    | [] => { (s.set (STREAM.UNDERRUN f) 1) with busData := x.lastRead }
    | (w, p) :: t =>
      let s1 := { (s.setFifo f { x with words := t, lastRead := w, flushMark := x.flushMark.map (· - 1) }) with busData := w }
      let s2 :=
        if p = oddParity w then s1
        else
          let s3 := if s1.on (STREAM.POISON f) then s1
                    else (s1.set (STREAM.POISON f) 1).set (STREAM.POISON_AT f) (s1.get (STREAM.F_RD_COUNT f))
          (s3.bump (STREAM.POISON_CNT f) 1).raise 5 (12 + f)
      s2.wrapInc (STREAM.F_RD_COUNT f)

/-- F_DATA_READ. -/
def execFDataRead (m : Master) (f : Fin 4) (s : State) : Host.Outcome State Fault Refusal := .next (if s.acts m then doFDataRead m f.val s else s)

/-! ### Mailbox channels -/

/-- The page of a channel (R84). -/
def chPage (ch : Nat) : Nat := 3 + ch / 8

/-- The endpoint code of a master that is one; remote page access is none, and takes a number that no register holds (R84). -/
def endpointOf : Master → Nat
  | .mss => 1
  | .wickA => 2
  | .wickB => 3
  | .hostS => 4
  | .hostN => 5
  | .remote => 8

/-- Whether a master acts as an endpoint: code 7 is the wick that holds AUTHOR or SNOWDROP (R84). -/
def State.actsAs (s : State) (m : Master) (e : Nat) : Bool :=
  endpointOf m = e || (e = 7 && (m = .wickA && s.isController .a || m = .wickB && s.isController .b))

/-- Whether an endpoint is a host port. -/
def hostEndpoint (e : Nat) : Bool := e = 4 || e = 5

/-- Whether a channel's endpoints form an invalid pair (R84). -/
def cfgInvalid (ch snd rcv : Nat) : Bool :=
  snd = 0 || snd = 6 || rcv = 0 || rcv = 6 || snd = rcv ||
  ((snd = 7 || rcv = 7) && (snd = 2 || snd = 3 || rcv = 2 || rcv = 3)) ||
  (8 ≤ ch && (snd = 5 || rcv = 5))

/-- The slot of a channel empties with a result; the host sender is signalled with RESULT_c (R88). DESIGN CHOICE (log entry 191). -/
def State.closeMessage (s : State) (ch code : Nat) : State :=
  let t := ((s.set (MBOX.PENDING ch) 0).set (MBOX.ANNOUNCED ch) 0).set (MBOX.RESULT ch) code
  let t := { t with chWaiting := t.chWaiting.filter (· ≠ ch) }
  if hostEndpoint (s.get (MBOX.SENDER ch)) then t.raise (chPage ch) (8 + ch % 8) else t

/-- A pending message is revoked with a module return code; a host receiver is told with REVOKED_c (R89, R91). -/
def State.revokeMessage (s : State) (ch code : Nat) : State :=
  if s.on (MBOX.PENDING ch) then
    let t := (s.closeMessage ch code).bump (MBOX.REVOKED_CNT ch) 1
    if hostEndpoint (s.get (MBOX.RECEIVER ch)) then t.raise (chPage ch) (16 + ch % 8) else t
  else s

/-- A write of CH_CFG: the MSS and the host ports write it, the endpoints only while OPEN is 0; clearing OPEN revokes a
pending message (R84, R85). An acknowledgement of the same cycle comes first (R92). DEDUCED (log entry 42). -/
def doChCfgWrite (m : Master) (ch v : Nat) (s : State) : State :=
  let o := 0x040 + 0x20 * (ch % 8)
  let may := m = .mss ∨ m = .hostS ∨ (m = .hostN ∧ ch < 8)
  s.write m (chPage ch) o (if may then [] else [0x1]) (fun s =>
    let snd := bits v 0 3
    let rcv := bits v 4 3
    if s.on (MBOX.OPEN ch) then
      let t := if snd = s.get (MBOX.SENDER ch) ∧ rcv = s.get (MBOX.RECEIVER ch) then s
               else s.countErr (chPage ch) m (chPage ch) o 0x1
      if bit v 8 then t else (t.revokeMessage ch 0xFF02).set (MBOX.OPEN ch) 0
    else
      let t := (s.set (MBOX.SENDER ch) snd).set (MBOX.RECEIVER ch) rcv
      let bad := cfgInvalid ch snd rcv
      (t.set (MBOX.CFG_INVALID ch) (b2n bad)).set (MBOX.OPEN ch) (b2n (bit v 8 && !bad)))

/-- An acknowledgement of the cycle in which a sender reset revoked its message wins: RESULT holds the receiver's code, and no revocation is
counted or told (R92). -/
def State.ackBeforeReset (s : State) (ch ret : Nat) : State :=
  match s.chReset.get? ch with
  | some (count, told) =>
    let t := (s.set (MBOX.RESULT ch) ret).set (MBOX.REVOKED_CNT ch) count
    let t := t.set (HDR.IRQ_RAW (chPage ch)) (setBits (t.get (HDR.IRQ_RAW (chPage ch))) (16 + ch % 8) 1 told)
    { t with chReset := t.chReset.del ch }
  | none => s

/-- A receiver's acknowledgement: one whose ACK_SEQ is not POST_SEQ, or that finds the slot empty, is ignored; a host port's
code of the module's own range is ignored (R88, R89). `reset`: a sender reset revokes the message in this cycle (R92). -/
def doChAck (m : Master) (ch ret seq : Nat) (reset : Bool) (s : State) : State :=
  s.write m (chPage ch) (0x054 + 0x20 * (ch % 8)) (if s.actsAs m (s.get (MBOX.RECEIVER ch)) then [] else [0x1]) (fun s =>
    let t := (s.set (MBOX.RET_CODE ch) ret).set (MBOX.ACK_SEQ ch) seq
    if seq = s.get (MBOX.POST_SEQ ch) ∧ (hostEndpoint (endpointOf m) = false ∨ ret < 0xFF00) then
      (if s.on (MBOX.PENDING ch) then t.closeMessage ch ret else if reset then t.ackBeforeReset ch ret else t)
    else t)

/-- CH_CFG_WRITE; `ack` is an acknowledgement of the same cycle: master, return code, sequence. -/
def execChCfgWrite (m : Master) (ch : Fin 16) (v : Word) (ack : Option AckWrite) (s : State) :
    Host.Outcome State Fault Refusal :=
  .next (doChCfgWrite m ch.val v.toNat
    (match ack with
     | some a => doChAck a.master ch.val a.ret.toNat a.seq.toNat false s
     | none => s))

/-- A write of CH_OFFSET, CH_LENGTH or CH_OPCODE: only by the sender, ignored with FULL while a message is pending (R86). -/
def doDescriptorWrite (m : Master) (ch : Nat) (r : DescReg) (v : Nat) (s : State) : State :=
  let o := match r with
    | .offset => 0x04
    | .length => 0x08
    | .opcode => 0x0C
  s.write m (chPage ch) (0x040 + 0x20 * (ch % 8) + o) (if s.actsAs m (s.get (MBOX.SENDER ch)) then [] else [0x1]) (fun s =>
    if s.on (MBOX.PENDING ch) then s.set (MBOX.CMD_STATUS ch) 1
    else
      match r with
      | .offset => s.set (MBOX.OFFSET ch) v
      | .length => s.set (MBOX.LENGTH ch) v
      | .opcode => s.set (MBOX.OPCODE ch) v)

/-- DESCRIPTOR_WRITE. -/
def execDescriptorWrite (m : Master) (ch : Fin 16) (r : DescReg) (v : Word) (s : State) : Host.Outcome State Fault Refusal :=
  .next (doDescriptorWrite m ch.val r v.toNat s)

/-- Why a POST is refused: a CMD_STATUS code, 0 where it is accepted (R86, R93). -/
def State.postStatus (s : State) (ch : Nat) : Nat :=
  if s.on (MBOX.PENDING ch) then 1
  else if s.on (MBOX.OPEN ch) = false ∨ s.on (HDR.ENABLE (chPage ch)) = false then 2
  else if s.get (MBOX.LENGTH ch) = 0 ∨ 0x20000 < s.get (MBOX.OFFSET ch) + s.get (MBOX.LENGTH ch) then 3
  else 0

/-- A message is posted: PENDING, POST_SEQ and the doorbell; a controller's message is bound to the wick that posts it
(R86, R91). -/
def doPost (m : Master) (ch : Nat) (s : State) : State :=
  s.write m (chPage ch) (0x050 + 0x20 * (ch % 8)) (if s.actsAs m (s.get (MBOX.SENDER ch)) then [] else [0x1]) (fun s =>
    let c := s.postStatus ch
    let t := s.set (MBOX.CMD_STATUS ch) c
    if c = 0 then
      let t := (((t.set (MBOX.PENDING ch) 1).set (MBOX.ANNOUNCED ch) 0).wrapInc (MBOX.POST_SEQ ch))
      { t with chPoster := t.chPoster.put ch m.id, chReset := t.chReset.del ch }
    else t)

/-- POST. -/
def execPost (m : Master) (ch : Fin 16) (s : State) : Host.Outcome State Fault Refusal := .next (doPost m ch.val s)

/-- Whether a receiving endpoint's domain is up, so that a doorbell reaches it (R87, R90). -/
def State.receiverUp (s : State) (ch : Nat) : Bool :=
  !(s.chWaiting.contains ch) &&
  (match s.get (MBOX.RECEIVER ch) with
   | 1 => true
   | 2 => s.pageReady (Wick.page .a 0) && !s.stopped .a
   | 3 => s.pageReady (Wick.page .b 0) && !s.stopped .b
   | 4 => s.pdOn 10
   | 5 => s.pdOn 10
   | 7 => (match s.controller with
     | some w => s.pageReady (w.page 0) && !s.stopped w
     | none => false)
   | _ => false)

/-- The opcodes a module receiver accepts: the vault service of the MSS, the controller service of the wicks (R89, R94). -/
def acceptsOpcode (rcv op : Nat) : Bool :=
  if rcv = 1 then op = 0x0101 || op = 0x0102 else 0x0201 ≤ op && op ≤ 0x0204

/-- The wick whose core domain a receiving endpoint stands for. -/
def State.receiverWick (s : State) (rcv : Nat) : Option Wick :=
  if rcv = 2 then some .a else if rcv = 3 then some .b else s.controller

/-- The doorbell reaches the receiver: PD10, PD1 or the wick's core domain wakes, ANNOUNCED and DOORBELL_c are set; a module receiver answers an
opcode it does not accept with UNKNOWN_OPCODE (R87, R89). -/
def doDoorbellDeliver (ch : Nat) (s : State) : State :=
  if s.on (MBOX.PENDING ch) && !s.on (MBOX.ANNOUNCED ch) && s.receiverUp ch then
    let rcv := s.get (MBOX.RECEIVER ch)
    let t := s.set (MBOX.ANNOUNCED ch) 1
    if hostEndpoint rcv then
      (t.set PWR.PD_SLEEP (setBits (t.get PWR.PD_SLEEP) 10 1 0)).raise (chPage ch) (ch % 8)
    else
      let t := if rcv = 1 then t.setPd 1 true else match t.receiverWick rcv with
        | some w => t.set PWR.PD_SLEEP (setBits (t.get PWR.PD_SLEEP) (corePd w) 1 0)
        | none => t
      if acceptsOpcode rcv (s.get (MBOX.OPCODE ch)) then t else t.closeMessage ch 0xFF04
  else s

/-- DOORBELL_DELIVER. -/
def execDoorbellDeliver (ch : Fin 16) (s : State) : Host.Outcome State Fault Refusal := .next (doDoorbellDeliver ch.val s)

/-- A write of REVOKE (R86): an acknowledgement of the same cycle wins, and CMD_STATUS reads ALREADY_DONE (R92). -/
def doRevoke (m : Master) (ch : Nat) (s : State) : State :=
  s.write m (chPage ch) (0x050 + 0x20 * (ch % 8)) (if s.actsAs m (s.get (MBOX.SENDER ch)) then [] else [0x1]) (fun s =>
    if s.on (MBOX.PENDING ch) then (s.revokeMessage ch 0xFF03).set (MBOX.CMD_STATUS ch) 0
    else s.set (MBOX.CMD_STATUS ch) 5)

/-- REVOKE; `ack` is an acknowledgement of the same cycle. -/
def execRevoke (m : Master) (ch : Fin 16) (ack : Option AckWrite) (s : State) : Host.Outcome State Fault Refusal :=
  .next (match ack with
    | none => doRevoke m ch.val s
    | some a =>
      let t := doChAck a.master ch.val a.ret.toNat a.seq.toNat false s
      if s.on (MBOX.PENDING ch.val) = true ∧ t.on (MBOX.PENDING ch.val) = false then
        t.write m (chPage ch.val) (0x050 + 0x20 * (ch.val % 8)) (if s.actsAs m (s.get (MBOX.SENDER ch.val)) then [] else [0x1])
          (fun t => t.set (MBOX.CMD_STATUS ch.val) 4)
      else doRevoke m ch.val t)

/-- CH_ACK; `reset` says that a reset of the sender falls in this cycle (R92). DESIGN CHOICE (log entry 6). -/
def execChAck (m : Master) (ch : Fin 16) (ret : BitVec 16) (seq : Byte) (s : State) (reset : Bool := false) : Host.Outcome State Fault Refusal :=
  .next (doChAck m ch.val ret.toNat seq.toNat reset s)

/-- Clearing a mailbox page's ENABLE revokes each pending message on it with CHANNEL_CLOSED (R93). -/
def doMboxPageDisable (m : Master) (page : Nat) (s : State) : State :=
  s.write m page 0x008 [] (fun s =>
    (List.range 8).foldl (fun t c => t.revokeMessage (8 * (page - 3) + c) 0xFF02) (s.set (HDR.ENABLE page) 0))

/-- MBOX_PAGE_DISABLE; `secure` names MBOX_S. -/
def execMboxPageDisable (m : Master) (secure : Bool) (s : State) : Host.Outcome State Fault Refusal :=
  .next (doMboxPageDisable m (3 + b2n secure) s)

/-- The messages posted by a master that no receiver has acknowledged are revoked because it reset (R91). DEDUCED (log entry 43). -/
def State.senderReset (s : State) (m : Master) : State :=
  (List.range 16).foldl (fun t ch =>
    if t.on (MBOX.PENDING ch) = true ∧ t.chPoster.get? ch = some m.id then
      let mark := (t.get (MBOX.REVOKED_CNT ch), bits (t.get (HDR.IRQ_RAW (chPage ch))) (16 + ch % 8) 1)
      { (t.revokeMessage ch 0xFF01) with chReset := t.chReset.put ch mark }
    else t) s

/-- The messages pending for an endpoint stay pending and are announced again when it comes up (R90). DEDUCED (log entry 43). -/
def State.receiverReset (s : State) (e : Nat) : State :=
  (List.range 16).foldl (fun t ch =>
    if t.on (MBOX.PENDING ch) = true ∧ t.get (MBOX.RECEIVER ch) = e then
      { (t.set (MBOX.ANNOUNCED ch) 0) with chWaiting := ch :: t.chWaiting.filter (· ≠ ch) } else t) s

/-- An endpoint comes up again: its doorbells may be delivered (R90). DEDUCED (log entry 43). -/
def State.receiverBack (s : State) (e : Nat) : State :=
  { s with chWaiting := s.chWaiting.filter (fun ch => s.get (MBOX.RECEIVER ch) ≠ e) }

end Sys2Proof.Machine
end

