-- ==== Sys2Proof/Machine/TxnRun.lean ====
section
/-! DEFINITION. The transaction engine at work: offering, keying, taper trains, timeouts, replies, closing, aborting, results (R148, R149, R164 to R183). -/

namespace Sys2Proof.Machine

/-! ### Order, deadlines, attempts (R168 to R171) -/

/-- The place of an issuer among transactions that fall due together (R168). -/
def issuerRank : Purpose → Nat
  | .wave _ => 0
  | .hold => 0
  | .host => 1
  | .attrib => 3
  | .campaign _ => 4
  | .block _ => 4
  | _ => 2

/-- The due instant: the later of submission and NOT_BEFORE (R168). -/
def Slot.dueAt (x : Slot) : Nat := max x.submitted x.desc.notBefore

/-- The latest start of the next attempt, if it has one (R169). -/
def State.deadline (s : State) (x : Slot) : Option Nat :=
  if x.desc.notAfter != 0 then some x.desc.notAfter
  else if x.attempts = 0 then some (x.dueAt + secs (s.get (TXN.QUEUE_LIMIT_S s.cw)))
  else none

/-- Whether the next attempt can still begin in time. -/
def State.inTime (s : State) (x : Slot) : Bool :=
  match s.deadline x with
  | some t => decide (s.now ≤ t)
  | none => true

/-- The number of attempts of a transaction (R170, R174). -/
def State.maxAttempts (s : State) (d : Desc) : Nat :=
  if d.maxAtt != 0 then d.maxAtt else if d.asks then s.get (TXN.MAX_ATTEMPTS s.cw) else 1

/-- Whether a lantern answers a transaction: its destination, or any registered lantern for a group (R175). -/
def State.mayAnswer (s : State) (x : Slot) (a : Nat) : Bool := if x.desc.ty = 1 then a = x.desc.dest else s.registered a

/-- The expected members that have not answered (R173). -/
def Slot.missing (x : Slot) : List Nat := x.expected.filter (fun a => !(x.responses.any (fun r => r.1 = a)))

/-- The timeout of an attempt in base cycles, from its end (R171). -/
def State.timeoutOf (s : State) (x : Slot) : Nat :=
  let members := if x.desc.ty = 1 then [x.desc.dest] else x.expected
  let h := members.foldl (fun m a => max m (s.hopsOf a)) 0
  millis ((if x.desc.ty = 1 then 0 else 100 * x.desc.respWin) + 20 + 20 * h * s.get (TXN.HOP_MS s.cw))

/-- A slot's timer is set. -/
def State.slotTimer (s : State) (n state span : Nat) : State :=
  s.setSlot n { s.slot n with state := state, timer := s.base + span, span := span }

/-- The next attempt waits a random whole number of milliseconds (R171). DESIGN CHOICE (log entry 74). -/
def State.backOff (s : State) (n : Nat) : State :=
  let k := (s.slot n).attempts
  let cap := min (10 * s.get (TXN.BACKOFF_MS s.cw) * 2 ^ (k - 1)) 1600
  let (v, t) := s.draw
  t.slotTimer n 4 (millis (v % (cap + 1)))

/-! ### Closing (R172 to R174, R176, R181) -/

/-- The lanterns that a group transaction has had no answer from: all its members where it was never sent. -/
def State.silentOf (s : State) (x : Slot) : List Nat := if x.attempts = 0 then s.membersOf x.desc.dest else x.missing

/-- What an internal issuer does at the close of its transaction: outcome, LRESULT, attempts transmitted, the lanterns that have not
answered. A plan that asked for answers leaves those SCHED-pending (R204). DEDUCED (log entry 71). -/
def State.issuerClosed (s : State) (d : Desc) (outcome lresult attempts : Nat) (silent : List Nat) : State :=
  match d.purpose with
  | .push a n => s.pushClosed a n outcome lresult
  | .keyPush a => s.pushClosed a 6 outcome lresult
  | .attrib => if attempts = 0 then s.attribNotSent d.args else s
  | .wave id => if attempts = 0 then s.waveUnsent id d.args (outcome = 4) else s
  | .campaign step => s.campClosed step (leNat (d.args.take 2)) (outcome = 4)
  | .block b => s.blockClosed b (leNat (d.args.take 2)) (attempts = 0)
  | .leave => { s with reg := { s.reg with retained := s.reg.retained.del d.dest } }
  | .refresh _ => if d.asks then (silent.filter s.registered).foldl (fun (t : State) a => t.raisePush a 2) s else s
  | _ => s

/-- The result record of a closing transaction (R181). -/
def State.resultRecord (s : State) (n outcome lresult : Nat) : List Nat :=
  let x := s.slot n
  let group := x.desc.ty != 1
  let ok := (x.responses.filter (fun r => x.expected.contains r.1 && r.2 = 0)).length
  let extra := (x.responses.filter (fun r => !x.expected.contains r.1)).length
  [s.tag n + outcome * 2 ^ 8 + x.attempts * 2 ^ 12 + x.desc.dest * 2 ^ 16,
   x.seq.getD 0 + lresult * 2 ^ 16 + x.desc.master * 2 ^ 24,
   s.now % 2 ^ 32,
   (if group then x.expected.length + ok * 2 ^ 16 else 0),
   (if group then x.missing.length + extra * 2 ^ 16 else 0)]

/-- A result record is queued, in place of the oldest where 256 wait. -/
def State.pushResult (s : State) (r : List Nat) : State :=
  let p := s.cw.page 3
  let t := if 256 ≤ s.txn.results.length then
      ((({ s with txn := { s.txn with results := s.txn.results.drop 1 } } : State).bump (TXN.RES_LOST s.cw) 1).raise p 2)
    else s
  ({ t with txn := { t.txn with results := t.txn.results ++ [r] } } : State).jot.raise p 0

/-- A transaction closes: 0 DONE, 1 PARTIAL, 2 TIMEOUT, 3 SENT, 4 NOT_SENT, 5 ABORTED, 6 DISABLED. -/
def State.closeSlot (s : State) (n outcome lresult : Nat) : State :=
  let s := s.ungrant n
  let x := s.slot n
  let t := if outcome = 1 ∨ outcome = 2 then s.bump (TXN.TIMEOUT_CNT s.cw) 1 else s
  let t := if x.desc.purpose = .host then t.pushResult (t.resultRecord n outcome lresult) else t
  let t : State := if (t.link.taper.any (fun p => p.slot = n)) then { t with link := { t.link with taper := none } } else t
  let t := match x.seq with
    | some q => t.dropRecord q
    | none => t
  let t := if 0 < x.attempts ∧ outcome ≠ 3 then t.slotTimer n 5 (secs (t.get (TXN.QUAR_S t.cw))) else t.freeSlot n
  t.issuerClosed x.desc outcome lresult x.attempts (s.silentOf x)

/-- A transaction whose last attempt is over closes. -/
def State.closeLast (s : State) (n : Nat) : State :=
  let x := s.slot n
  if x.desc.asks = false then s.closeSlot n 3 0xFF
  else if x.desc.ty = 1 then s.closeSlot n 2 0xFF
  else s.closeSlot n (if x.missing = [] then 0 else 1) 0xFF

/-- An attempt has ended: it waits for its answers, is repeated, or was the last (R171, R173, R174). -/
def State.attemptEnded (s : State) (n : Nat) : State :=
  let x := s.slot n
  if x.state ≠ 2 then s
  else if x.desc.asks then
    if x.desc.ty = 2 ∧ x.missing = [] then s.closeSlot n 0 0xFF else s.slotTimer n 3 (s.timeoutOf x)
  else if x.attempts < s.maxAttempts x.desc then s.backOff n
  else s.closeSlot n 3 0xFF

/-- An attempt has not come to its frame: the transaction is QUEUED and waits some base cycles (R168). -/
def State.requeue (s : State) (n span : Nat) : State :=
  let x := s.slot n
  if x.state = 2 then
    s.setSlot n { x with state := 1, timer := if span = 0 then 0 else s.base + span, span := span, planned := none, keyed := false }
  else s

/-- The ledger refused a frame of a transaction: it waits until NEXT_FREE_S of the sub-band has passed, at least 1 s (R168). -/
def State.ledgerWait (s : State) (n chan : Nat) : State :=
  let t := s.bump (TXN.LEDGER_WAIT_CNT s.cw) 1
  let t := match (s.slot n).desc.purpose with
    | .block _ => t.bump (CAMPAIGN.LEDGER_WAIT_CNT s.cw) 1
    | _ => t
  let wait := if s.active.profFilled ∧ chan < s.active.nChan then t.nextFree (s.active.chan chan).sub else 1
  (t.setSlot n { t.slot n with state := 2 }).requeue n (secs (max 1 wait))

/-! ### The frame of an attempt (R136, R148, R154, R170) -/

/-- The payload of a transaction's frame. -/
def State.framePayload (s : State) (n : Nat) : List Byte :=
  let d := (s.slot n).desc
  if d.ty = 1 then leBytes 1 (s.tag n) ++ leBytes 1 d.opcode ++ d.args
  else if d.ty = 2 then leBytes 1 d.opcode ++ leBytes 1 d.respWin ++ leBytes 1 (s.tag n) ++ d.args
  else d.args

/-- The frame of a slot's next attempt. -/
def State.attemptFrame (s : State) (n : Nat) : OutFrame :=
  let x := s.slot n
  { ty := x.desc.ty, dest := x.desc.dest, seq := x.seq.getD 0, retry := x.attempts, ackReq := x.desc.ackReq, copy := false
    keySel := if x.desc.ty = 9 then 2 else 0, nodeId := x.desc.nodeId, joinKey := x.desc.joinKey
    ttl := s.cfgGet (LINK.MAX_TTL .a), payload := s.framePayload n }

/-- The class of a transaction's frames (R120): campaign blocks are BULK. -/
def Desc.cls (d : Desc) : Nat :=
  match d.purpose with
  | .block _ => 2
  | _ => 1

/-- What is known of a lantern whose entry was erased while its LEAVE is still to be sent (R186). -/
def State.withRetained (s : State) (a : Nat) : State :=
  match s.reg.retained.get? a with
  | some (bs, x) =>
    if s.entryState a = 0 then
      { s with reg := { s.reg with mem := s.reg.mem.write (tabRegistry.at (a - 1)) bs, lanterns := s.reg.lanterns.put a x } }
    else s
  | none => s

/-- Whether an attempt at a unicast takes the treatment of a dozing lantern: an odd RETRY takes the other one (R148). In a segment that runs
without dozing none does (R134). -/
def State.wakes (s : State) (x : Slot) : Bool := !s.active.dozeOff && (s.dozing x.desc.dest != decide (x.attempts % 2 = 1))

/-- The HOMEs of the members of a destination that may be dozing (R149). -/
def State.dozingHomes (s : State) (d : Desc) : List Nat :=
  if isLantern d.dest ∨ d.ty = 9 then []
  else sortOn id (((s.membersOf d.dest).filter s.dozing).map s.home).dedup

/-! ### Offering (R25, R168, R170) -/

/-- Whether a slot may be offered now. -/
def State.offerable (s : State) (n : Nat) : Bool :=
  let x := s.slot n
  let d := x.desc
  x.state = 1 && x.timer = 0 && decide (d.notBefore ≤ s.now) && s.inTime x && !s.campHeld d.purpose &&
  (s.isAuthor s.cw || (d.purpose = .step && !d.asks)) &&
  (d.ty != 1 || (List.range 64).all (fun k =>
    !((s.slot k).desc.ty = 1 && (s.slot k).desc.dest = d.dest && decide (2 ≤ (s.slot k).state ∧ (s.slot k).state ≤ 4) &&
      decide ((s.slot k).order < x.order)))) &&
  (match x.planned with
   | some p => decide (p.1 ≤ s.now + 65)
   | none => true)

/-- The slot the engine offers next: earliest due, then by issuer, then in order of submission. -/
def State.nextOffer (s : State) : Option Nat :=
  leastOn? (fun n => ((s.slot n).dueAt * 8 + issuerRank (s.slot n).desc.purpose) * 2 ^ 64 + (s.slot n).order)
    ((List.range 64).filter s.offerable)

/-- Whether the link engine takes an offer: it runs, its transmitter is free, it holds no grant and no taper trains are under
way (R100, R457). -/
def State.linkFree (s : State) : Bool :=
  let w := s.cw
  s.isController w && s.on (HDR.ENABLE (w.page 3)) && s.linkOn w && s.transmitterFree w && (s.grant? w).isNone && s.link.taper.isNone

/-- The ledger is asked for a slot's frame; granted, the slot is SENDING, refused it waits. -/
def State.request (s : State) (n chan wake start : Nat) (common : Bool) : State :=
  let w := s.cw
  let f := s.attemptFrame n
  let r : Req := { channel := chan, cls := (s.slot n).desc.cls, psdu := f.psduLen, wake := wake, air := false }
  let (code, t) := s.askLedger w r
  if code = 0 then
    ((t.setSlot n { t.slot n with state := 2, keyed := false }).airGranted (s.slot n).desc (t.grantOf r (some f) (.slot n) common).toa).holdGrant w
      { t.grantOf r (some f) (.slot n) common with start := start }
  else t.ledgerWait n chan

/-- The frames of a taper train on a channel: as many as cover P and 50 ms, back to back (R149). -/
def Bank.trainFrames (b : Bank) (c : Nat) : Nat := (b.periodUs + 50000 + b.toaUs c 34 0 - 1) / b.toaUs c 34 0

/-- The length of a taper train on a channel, in µs. -/
def Bank.trainUs (b : Bank) (c : Nat) : Nat := b.trainFrames c * b.toaUs c 34 0

/-- The end of the trains of some HOMEs that begin one after another, beacons kept clear, outside the guard of R131, and with ACCESS 1 each
within one second. DEDUCED (log entry 70). -/
def State.trainsEnd (s : State) (w : Wick) : List Nat → Nat → Nat
  | [], t => t
  | h :: homes, t =>
    let b := s.active
    let len := usTicks (b.trainUs (b.sampleChan h t))
    let t := if clearOfSecond t = false ∧ b.commonChan t = b.sampleChan h t then nextMultiple t 32768 else t
    let t := if b.access = true ∧ 32768 < t % 32768 + len then nextMultiple t 32768 else t
    let k := nextMultiple t b.beaconTicks
    let c := b.beaconChan k
    let t := if s.beaconOn w = true ∧ k < t + len + usTicks (b.preUs c) then k + usTicks (b.toaUs c beaconPsdu 0) else t
    State.trainsEnd s w homes (t + len)

/-- The rendezvous instant of some trains: 10 ms after the last one ends, outside the guard of R131 (R149). DEDUCED (log entry 70). -/
def State.rendezvousOf (s : State) (homes : List Nat) : Nat :=
  let r := s.trainsEnd s.cw homes s.now + millis 10
  if clearOfSecond r then r else nextMultiple r 32768

/-- A slot is offered to the link engine: its SEQ is taken at the first offer; a frame to a dozing lantern is planned, one to
dozing members starts its taper trains, any other is requested. A frame of more than 255 octets is never sent (R136): the spec
gives no way to divide it, and its transaction closes NOT_SENT. DESIGN CHOICE (log entry 197). -/
def State.offer (s : State) (n : Nat) : State :=
  let x := s.slot n
  let (seq, t) := match x.seq with
    | some q => (some q, s)
    | none => s.takeSeq s.cw
  match seq with
  | none => t
  | some _ =>
    let t := t.setSlot n { t.slot n with seq := seq }
    let v := t.withRetained x.desc.dest
    let b := t.active
    if 255 < (t.attemptFrame n).psduLen then t.closeSlot n 4 0xFF
    else if t.on (RADIO.TX_EN t.cw) = false then ((t.txRefused t.cw).setSlot n { t.slot n with state := 2 }).requeue n (secs 1)
    else if x.desc.ty = 1 ∧ v.wakes x = true then
      match x.planned with
      | some (start, sym, c) =>
        if t.now ≤ start + 65 then t.request n c sym start false else t.setSlot n { t.slot n with planned := none }
      | none =>
        match v.wakeNeed x.desc.dest with
        | none =>
          let c := b.sampleChan (v.home x.desc.dest) t.now
          t.request n c (b.wakeSym c ((b.periodUs + 50000 : Nat) : Rat)) t.now false
        | some (need, start) =>
          let c := b.sampleChan (v.home x.desc.dest) (v.nextSample x.desc.dest)
          t.setSlot n { t.slot n with planned := some (start, b.wakeSym c need, c) }
    else
      match t.dozingHomes x.desc with
      | [] => t.request n (b.commonChan t.now) 0 t.now true
      | homes =>
        let u := t.setSlot n { t.slot n with state := 2, keyed := false }
        { u with link := { u.link with taper := some { slot := n, homes := homes, rendezvous := t.rendezvousOf homes, begun := false } } }

/-- TXN_OFFER. -/
def doTxnOffer (s : State) : State :=
  if s.linkFree then
    match s.nextOffer with
    | some n => s.offer n
    | none => s
  else s

/-- TXN_OFFER. -/
def execTxnOffer (s : State) : Host.Outcome State Fault Refusal := .next (doTxnOffer s)

/-- TXN_REQUEUE_EXPIRY: the wait after a refusal is over. -/
def doTxnRequeueExpiry (n : Nat) (s : State) : State :=
  let x := s.slot n
  if x.state = 1 ∧ x.timer ≠ 0 ∧ x.timer ≤ s.base then s.setSlot n { x with timer := 0 } else s

/-- TXN_REQUEUE_EXPIRY. -/
def execTxnRequeueExpiry (n : Fin 64) (s : State) : Host.Outcome State Fault Refusal := .next (doTxnRequeueExpiry n.val s)

/-- Whether an attempt that is SENDING has put nothing on the air: its grant is held, or its first taper train is still to come. -/
def State.notBegun (s : State) (n : Nat) : Bool :=
  (match s.grant? s.cw with | some g => g.use = Use.slot n | none => false) ||
  (match s.link.taper with | some p => p.slot = n && !p.begun | none => false)

/-- TXN_DEADLINE: a slot whose next attempt can no longer begin in time closes, and so do the internal submissions that waited
too long for a slot (R164, R169). DESIGN CHOICE (log entry 2). -/
def doTxnDeadline (n : Nat) (s : State) : State :=
  let late := fun (p : Desc × Nat) => !s.inTime { Slot.empty with desc := p.1, submitted := p.2 }
  let t := (s.txn.waiting.filter late).foldl (fun (t : State) p => t.issuerClosed p.1 4 0xFF 0 (t.membersOf p.1.dest))
    ({ s with txn := { s.txn with waiting := s.txn.waiting.filter (fun p => !late p) } } : State)
  let x := t.slot n
  if (x.state = 1 ∨ x.state = 4 ∨ (x.state = 2 ∧ t.notBegun n = true)) ∧ t.inTime x = false then
    if x.attempts = 0 then t.closeSlot n 4 0xFF else t.closeLast n
  else t

/-- TXN_DEADLINE. -/
def execTxnDeadline (n : Fin 64) (s : State) : Host.Outcome State Fault Refusal := .next (doTxnDeadline n.val s)

/-! ### What a commanded level or hold changes in the module (R148, R184, R202, R284) -/

/-- The lanterns a descriptor addresses. -/
def State.addressed (s : State) (d : Desc) : List Nat := if isLantern d.dest then [d.dest] else s.membersOf d.dest

/-- A level is commanded of some lanterns, by the host from an instant on. DEDUCED (log entry 80). -/
def State.commandLevel (s : State) (l : List Nat) (level : Nat) (host : Option Nat) : State :=
  if 1000 < level then s
  else l.foldl (fun (t : State) a =>
    let t := t.rset a 0x6C 2 level
    match host with
    | some at_ => t.setLantern a { t.lantern a with hostCmd := some (level, at_) }
    | none => t) s

/-- The first frame of a transaction is keyed, with its time on air in µs. -/
def State.commandKeyed (s : State) (d : Desc) (toa : Nat) : State :=
  let num := fun (o n : Nat) => leNat ((d.args.drop o).take n)
  let l := s.addressed d
  let host := fun (t : Nat) => if d.purpose = .host then some t else none
  if d.ty = 1 ∨ d.ty = 2 then
    if d.opcode = 1 then
      (s.commandLevel l (num 0 2) (host s.now)).noteLevelChange l s.now (s.now + usTicks toa + num 2 2 * 32768 / 100)
    else if d.opcode = 2 then
      let at_ := s.rebuild (num 4 4)
      (s.commandLevel l (num 0 2) (host at_)).noteLevelChange l (at_ - num 2 2 * 32768 / 100) at_
    else if d.opcode = 3 then
      l.foldl (fun (t : State) a => t.setLantern a { t.lantern a with holdUntil := t.base + secs (num 0 2) }) s
    else s
  else if d.ty = 5 then
    let base := s.rebuild (num 2 4)
    let fade := num 6 2 * 32768 / 100
    (List.range (num 1 1)).foldl (fun (t : State) i =>
      let a := num (10 + 6 * i) 2
      let tt := base + msTicks (num (12 + 6 * i) 2)
      let ended := tt + secs (num 8 2)
      (((if t.registered a then t.commandLevel [a] (num (14 + 6 * i) 2) none else t).noteLevelChange [a] (tt - fade) tt).noteLevelChange [a]
        ended (ended + fade))) s
  else s

/-- A transaction's frame is keyed: the attempt counts, the expected members of a group are fixed at the first, and the
issuers learn of it (R170, R173, R296, R299, R301). -/
def State.slotKeyed (s : State) (n toa : Nat) : State :=
  let x := s.slot n
  let d := x.desc
  let t := if x.attempts = 0 then s.commandKeyed d toa else s.bump (TXN.RETRY_CNT s.cw) 1
  let t := t.setSlot n { x with attempts := x.attempts + 1, keyed := true, planned := none
                                expected := if x.attempts = 0 ∧ d.ty = 2 ∧ d.asks = true then t.membersOf d.dest else x.expected }
  match d.purpose with
  | .wave id => if x.attempts = 0 then t.waveKeyed id d.args else t
  | .block _ => t.blockKeyed
  | .campaign 3 => t.activateKeyed
  | _ => t

/-! ### FRAME_TRANSMIT, GRANT_LAPSE (R25, R121) -/

/-- Whether a granted frame may be keyed now: in time (R121, R169), its transmitter free, on the common channel of the present second where it goes
there, outside the guard of R131 where its channel is that one, clear of beacons and direct acknowledgements (R457).
DEDUCED (log entry 59). -/
def State.mayKey (s : State) (w : Wick) (g : Grant) : Bool :=
  decide (s.base ≤ g.since + 65) && decide (g.start ≤ s.now) &&
  (match g.use with
   | .air => s.linkOn w && s.radioFree w && s.keys.has 1
   | .slot n => s.linkOn w && s.transmitterFree w && s.inTime (s.slot n)
   | _ => s.linkOn w && s.transmitterFree w) &&
  (!g.common || s.active.commonChan s.now = g.channel) && (clearOfSecond s.now || s.active.commonChan s.now != g.channel) &&
  s.clearOfBeacon w s.now g.toa && s.clearOfAcks g.toa

/-- FRAME_TRANSMIT: the frame a wick has a grant for is journalled and keyed. -/
def doFrameTransmit (w : Wick) (s : State) : State :=
  match s.grant? w with
  | none => s
  | some g =>
    match g.frame with
    | none => s
    | some f =>
      if s.mayKey w g then
        if s.on (RADIO.TX_EN w) = false then
          let t := (s.txRefused w).dropGrant w
          match g.use with
          | .slot n => t.requeue n (secs 1)
          | _ => t
        else if s.ringRoom = false then s.bump (WCORE.JRNL_WAIT_CNT w) 1
        else
          let t := (s.dropGrant w).keyFrame w f g (s.sfdOf g)
          match g.use with
          | .slot n =>
            let full := s.active.wakeSym g.channel ((s.active.periodUs + 50000 : Nat) : Rat)
            let t := if g.wake = full then t.bump (LINK.LAMPLIGHTER_CNT w) 1 else t
            t.slotKeyed n g.toa
          | _ => t
      else s

/-- FRAME_TRANSMIT. -/
def execFrameTransmit (w : Wick) (s : State) : Host.Outcome State Fault Refusal := .next (doFrameTransmit w s)

/-- GRANT_LAPSE: 2 ms have passed since a grant; its frame is requested again by its engine, to be sent under the record that it has by now
(R25). DEDUCED (log entry 59). -/
def doGrantLapse (w : Wick) (s : State) : State :=
  match s.grant? w with
  | some g =>
    if g.since + 65 < s.base then
      match g.use, g.frame with
      | .slot n, some f => ((s.dropGrant w).keepRecord w f g).requeue n 0
      | .slot n, none => (s.dropGrant w).requeue n 0
      | _, _ => s.dropGrant w
    else s
  | none => s

/-- GRANT_LAPSE. -/
def execGrantLapse (w : Wick) (s : State) : Host.Outcome State Fault Refusal := .next (doGrantLapse w s)

/-! ### Taper trains and the rendezvous (R149) -/

/-- The attempt of a taper plan is abandoned. -/
def State.dropTaper (s : State) : State := { s with link := { s.link with taper := none } }

/-- A TAPER frame of a plan whose own SFD falls at an instant. A COUNTDOWN that two bytes do not hold is open. -/
def State.taperFrame (s : State) (p : TaperPlan) (sfd : Nat) : OutFrame × State :=
  let x := s.slot p.slot
  let c := s.active.commonChan p.rendezvous
  let left := p.rendezvous + usTicks (s.active.preUs c) - sfd
  let (v, t) := if left < 65536 then (left, s) else s.draw
  ({ ty := 0xA, dest := x.desc.dest, seq := x.seq.getD 0, retry := x.attempts, ackReq := false, copy := false, keySel := 0, nodeId := 0
     joinKey := [], ttl := s.cfgGet (LINK.MAX_TTL .a), payload := leBytes 2 v ++ leBytes 1 c }, t)

/-- The ledger is asked for the frames of a train one after another, up to the first refusal: its code, how many were granted.
DEDUCED (log entry 61). -/
def State.askTrain (s : State) (w : Wick) (r : Req) : Nat → Nat → Nat × Nat × State
  | 0, k => (0, k, s)
  | m + 1, k =>
    match s.askLedger w r with
    | (0, t) => State.askTrain t w r m (k + 1)
    | (code, t) => (code, k, t)

/-- The granted frames of a train, built one after another. DEDUCED (log entry 61). -/
def State.buildTrain (s : State) (w : Wick) (p : TaperPlan) (c first toa : Nat) : Nat → State
  | 0 => s
  | k + 1 =>
    let t := State.buildTrain s w p c first toa k
    let sfd := first + usTicks (k * toa)
    let (f, t) := t.taperFrame p sfd
    t.buildFrame w f (t.grantOf { channel := c, cls := 1, psdu := f.psduLen, wake := 0, air := false } (some f) (.taper p.slot) false) sfd

/-- TAPER_TRAIN: the next train of the plan is sent on its sample channel; a refusal abandons the attempt (R168), and so does a frame counter that
ends within the train (R139). An attempt whose first train cannot begin in time is not made (R169). -/
def doTaperTrain (s : State) : State :=
  let w := s.cw
  match s.link.taper with
  | none => s
  | some p =>
    match p.homes with
    | [] => s
    | h :: homes =>
      let b := s.active
      let c := b.sampleChan h s.now
      let toa := b.toaUs c 34 0
      let full := b.trainFrames c
      let n := min full (0xFFFFFFFF - s.link.fcnt.getD w.idx 0)
      let inSecond := !b.access || decide (s.now % 32768 + usTicks (n * toa) ≤ 32768)
      if s.linkOn w && s.transmitterFree w && (s.grant? w).isNone && inSecond && s.clearOfBeacon w s.now (n * toa) && s.clearOfAcks (n * toa) &&
          (clearOfSecond s.now || b.commonChan s.now != c) then
        if p.begun = false ∧ s.inTime (s.slot p.slot) = false then
          (if (s.slot p.slot).attempts = 0 then s.closeSlot p.slot 4 0xFF else s.closeLast p.slot)
        else if s.on (RADIO.TX_EN w) = false then ((s.txRefused w).dropTaper).requeue p.slot (secs 1)
        else
          let r : Req := { channel := c, cls := (s.slot p.slot).desc.cls, psdu := 34, wake := 0, air := false }
          let (code, k, t) := s.askTrain w r n 0
          let t := if k = 0 then t
            else
              let g : Grant := { frame := none, use := .taper p.slot, channel := c, wake := 0, toa := k * toa, common := false, since := t.base
                                 start := t.now, count := k, cut := false }
              (t.buildTrain w p c (t.now + usTicks (b.preUs c)) toa k).goOnAir w g
          if code ≠ 0 then t.dropTaper.ledgerWait p.slot c
          else if n < full then t.dropTaper.requeue p.slot 0
          else ({ t with link := { t.link with taper := some { p with homes := homes, begun := true } } } : State).bump (LINK.TAPER_CNT w) 1
      else s

/-- TAPER_TRAIN. -/
def execTaperTrain (s : State) : Host.Outcome State Fault Refusal := .next (doTaperTrain s)

/-- RENDEZVOUS_SEND: at the rendezvous instant the frame itself is sent on the common channel. One that can no longer be heard
at the rendezvous is abandoned with its attempt. DEDUCED (log entry 70). -/
def doRendezvousSend (s : State) : State :=
  let w := s.cw
  match s.link.taper with
  | none => s
  | some p =>
    if p.homes ≠ [] ∨ s.now < p.rendezvous then s
    else if p.rendezvous + msTicks 5 < s.now then s.dropTaper.requeue p.slot 0
    else
      let c := s.active.commonChan s.now
      let f := s.attemptFrame p.slot
      let toa := s.active.toaUs c f.psduLen 0
      if s.linkOn w && s.transmitterFree w && (s.grant? w).isNone && clearOfSecond s.now && s.clearOfBeacon w s.now toa && s.clearOfAcks toa &&
          s.ringRoom then
        if s.on (RADIO.TX_EN w) = false then ((s.txRefused w).dropTaper).requeue p.slot (secs 1)
        else
          let r : Req := { channel := c, cls := (s.slot p.slot).desc.cls, psdu := f.psduLen, wake := 0, air := false }
          let (code, t) := s.askLedger w r
          let t := t.dropTaper
          let g := t.grantOf r (some f) (.rendezvous p.slot) true
          if code = 0 then ((t.airGranted (s.slot p.slot).desc toa).keyFrame w f g (t.sfdOf g)).slotKeyed p.slot toa else t.ledgerWait p.slot c
      else s

/-- RENDEZVOUS_SEND. -/
def execRendezvousSend (s : State) : Host.Outcome State Fault Refusal := .next (doRendezvousSend s)

/-! ### The end of a transmission (R101, R105) -/

/-- A transmission is over or cut short: what its engine does next. -/
def State.useEnded (s : State) (u : Use) : State :=
  match u with
  | .slot n => s.attemptEnded n
  | .rendezvous n => s.attemptEnded n
  | _ => s

/-- A wick's transmitter goes off; blanking ends 50 µs later. -/
def State.offAir (s : State) (w : Wick) : State :=
  ({ s with link := { s.link with onAir := s.link.onAir.del w.idx, blankEnd := s.link.blankEnd.put w.idx (s.base + 2) } } : State).set
    (RADIO.TX_ACTIVE w) 0

/-- A keyed transmission is cut short: its charge stands and it is counted (R105). -/
def State.cutShort (s : State) (w : Wick) : State :=
  match s.link.onAir.get? w.idx with
  | none => s
  | some g =>
    let t := (s.offAir w).bump (RADIO.TX_ABORTED w) 1
    match g.use with
    | .taper n => (t.dropTaper.setSlot n (t.slot n)).requeue n 0
    | u => t.useEnded u

/-- FRAME_TX_END: a keyed transmission has run its time on air, or its transmitter was stopped (R106). -/
def doFrameTxEnd (w : Wick) (s : State) : State :=
  match s.link.onAir.get? w.idx with
  | none => s
  | some g =>
    if g.cut then s.cutShort w
    else if s.base < g.since + g.toa * 32768 / 1000000 then s
    else
      let t := (s.offAir w).set (RADIO.TX_FRAMES w) (s.get (RADIO.TX_FRAMES w) + g.count)
      let t := match g.use with
        | .beacon => (t.wrapInc (LINK.BEACONS_SENT w)).raise (w.page 2) 0
        | _ => t
      t.useEnded g.use

/-- FRAME_TX_END. -/
def execFrameTxEnd (w : Wick) (s : State) : Host.Outcome State Fault Refusal := .next (doFrameTxEnd w s)

/-! ### Timers of a transaction (R171, R176) -/

/-- ATTEMPT_TIMEOUT. -/
def doAttemptTimeout (n : Nat) (s : State) : State :=
  let x := s.slot n
  if x.state = 3 ∧ x.timer ≤ s.base then
    if x.attempts < s.maxAttempts x.desc then s.backOff n else s.closeLast n
  else s

/-- BACKOFF_EXPIRY: the next attempt is offered at once, or waits QUEUED for the link engine. -/
def doBackoffExpiry (n : Nat) (s : State) : State :=
  let x := s.slot n
  if x.state = 4 ∧ x.timer ≤ s.base then
    let t := s.setSlot n { x with state := 1, timer := 0, planned := none, keyed := false }
    if t.linkFree && t.offerable n then t.offer n else t
  else s

/-- BACKOFF_EXPIRY. -/
def execBackoffExpiry (n : Fin 64) (s : State) : Host.Outcome State Fault Refusal := .next (doBackoffExpiry n.val s)

/-- QUARANTINE_END. -/
def doQuarantineEnd (n : Nat) (s : State) : State :=
  let x := s.slot n
  if x.state = 5 ∧ x.timer ≤ s.base then s.freeSlot n else s

/-- QUARANTINE_END. -/
def execQuarantineEnd (n : Fin 64) (s : State) : Host.Outcome State Fault Refusal := .next (doQuarantineEnd n.val s)

/-! ### Replies (R172, R173, R175) -/

/-- An ACK is matched to its transaction. -/
def State.reply (s : State) (src tag result ackedSeq : Nat) : State :=
  let n := tag % 64
  let x := s.slot n
  if x.epoch ≠ tag / 64 % 4 then (s.bump (TXN.TXN_STALE_CNT s.cw) 1).raise (s.cw.page 3) 3
  else if x.state = 0 ∨ x.state = 5 then s.bump (TXN.TXN_LATE_CNT s.cw) 1
  else if x.state = 1 ∨ x.desc.asks = false ∨ x.seq ≠ some ackedSeq ∨ s.mayAnswer x src = false then s.bump (TXN.TXN_MISMATCH_CNT s.cw) 1
  else if x.desc.ty = 1 then
    if result = 3 ∧ x.attempts < s.maxAttempts x.desc then (s.ungrant n).backOff n else s.closeSlot n 0 result
  else if x.responses.any (fun r => r.1 = src) then s
  else
    let t := s.setSlot n { x with responses := x.responses ++ [(src, result)] }
    if (t.slot n).missing = [] then t.closeSlot n 0 0xFF else t

/-- ATTEMPT_TIMEOUT; `same` is a reply that reaches the engine in the cycle of the timeout: it is taken first, and one that is accepted wins
(R175). DESIGN CHOICE (log entry 6). -/
def execAttemptTimeout (n : Fin 64) (s : State) (same : Option AckIn := none) : Host.Outcome State Fault Refusal :=
  .next (doAttemptTimeout n.val (match same with
    | some a => s.reply a.src a.tag.toNat a.result.toNat a.ackedSeq
    | none => s))

/-! ### Submission by a host (R165, R167) -/

/-- A master's copy of a field of the submission registers. -/
def State.sub (s : State) (m : Master) (f : Field) : Nat := s.get (f.forMaster m)

/-- The descriptor a master has prepared. -/
def State.subDesc (s : State) (m : Master) : Desc :=
  let dest := s.sub m (TXN.SUB_DEST .a)
  { Desc.empty with
    master := m.id, purpose := .host, ty := if isLantern dest then 1 else 2, dest := dest, opcode := s.sub m (TXN.SUB_OPCODE .a)
    args := (s.wordBytes (fun k => (TXN.SUB_ARG .a k).forMaster m) 55).take (s.sub m (TXN.SUB_ARGLEN .a))
    ackReq := s.sub m (TXN.SUB_ACK_REQ .a) = 1, respWin := s.sub m (TXN.SUB_RESP_WIN .a), maxAtt := s.sub m (TXN.SUB_MAX_ATT .a)
    notBefore := s.sub m (TXN.NOT_BEFORE_LO .a) + 2 ^ 32 * s.sub m (TXN.NOT_BEFORE_HI .a)
    notAfter := s.sub m (TXN.NOT_AFTER_LO .a) + 2 ^ 32 * s.sub m (TXN.NOT_AFTER_HI .a) }

/-- SUB_CODE of a submission: 0, or the code of the first check that fails. -/
def State.submitCode (s : State) (m : Master) (w : Wick) : Nat :=
  let d := s.subDesc m
  if s.on (HDR.ENABLE (w.page 3)) = false then 1
  else if s.isAuthor w = false then 2
  else if s.freeSlots = [] ∨ s.get (TXN.HOST_MAX w) ≤ s.hostHeld then 3
  else if (isMulti d.dest || s.registered d.dest) = false then 4
  else if 220 < s.sub m (TXN.SUB_ARGLEN .a) then 5
  else if d.notAfter ≠ 0 ∧ (d.notAfter ≤ d.notBefore ∨ d.notAfter ≤ s.now) then 6
  else 0

/-- SUB_CODE takes a value in a master's SUB_STATUS. -/
def State.setSubCode (s : State) (m : Master) (v : Nat) : State := s.set ((TXN.SUB_CODE .a).forMaster m) v

/-- A write of CMD = SUBMIT. -/
def doTxnSubmit (m : Master) (w : Wick) (s : State) : State :=
  s.write m (w.page 3) 0x058 [] (fun s =>
    let code := s.submitCode m w
    if code = 0 then
      match s.nextSlot? with
      | some n =>
        let t := s.takeSlot n (s.subDesc m) s.now
        (t.setSubCode m 0).set ((TXN.SUB_TAG .a).forMaster m) (t.tag n)
      | none => s
    else
      let t := s.setSubCode m code
      if code = 2 then t.countErr (w.page 3) m (w.page 3) 0x058 5 else t)

/-- TXN_SUBMIT. -/
def execTxnSubmit (m : Master) (w : Wick) (s : State) : Host.Outcome State Fault Refusal := .next (doTxnSubmit m w s)

/-! ### Aborting (R177, R178) -/

/-- Whether a master may abort a transaction. -/
def mayAbort (m : Master) (d : Desc) : Bool := d.purpose = .host && (d.master = m.id || m = .hostS || m = .mss)

/-- A live transaction is given up with an outcome: a frame already keyed completes. -/
def State.giveUp (s : State) (n outcome : Nat) : State := s.closeSlot n outcome 0xFF

/-- A command of the TXN page that acts on the controller's slots: through the page of a wick that is not the controller it is refused.
DEDUCED (log entry 198). -/
def State.txnCommand (s : State) (m : Master) (w : Wick) (k : State → State) : State :=
  s.write m (w.page 3) 0x058 [] (fun s =>
    if s.isController w then k s else (s.setSubCode m 2).countErr (w.page 3) m (w.page 3) 0x058 5)

/-- A write of CMD = ABORT; `same` says that the transaction completes in the same cycle. -/
def doAbort (m : Master) (w : Wick) (tag : Nat) (same : Bool) (s : State) : State :=
  s.txnCommand m w (fun s =>
    let n := tag % 64
    let x := s.slot n
    if x.state = 0 ∨ x.epoch ≠ tag / 64 % 4 ∨ mayAbort m x.desc = false then s.setSubCode m 9
    else if x.state = 5 ∨ same then s.setSubCode m 8
    else (s.giveUp n 5).setSubCode m 7)

/-- ABORT. -/
def execAbort (m : Master) (w : Wick) (tag : Byte) (same : Bool) (s : State) : Host.Outcome State Fault Refusal :=
  .next (doAbort m w tag.toNat same s)

/-- A write of CMD = ABORT_ALL; the transactions in `same` complete in the same cycle, and completion wins (R177).
DESIGN CHOICE (log entry 6). -/
def doAbortAll (m : Master) (w : Wick) (same : List (Fin 64)) (s : State) : State :=
  s.txnCommand m w (fun s =>
    let l := (List.range 64).filter (fun n => (s.slot n).live && (s.slot n).desc.purpose = .host && (s.slot n).desc.master = m.id &&
      !(same.map Fin.val).contains n)
    (l.foldl (fun t n => t.giveUp n 5) s).setSubCode m (if l = [] then 9 else 7))

/-- ABORT_ALL. DESIGN CHOICE (log entry 6). -/
def execAbortAll (m : Master) (w : Wick) (s : State) (same : List (Fin 64) := []) : Host.Outcome State Fault Refusal :=
  .next (doAbortAll m w same s)

/-- Every transaction closes DISABLED, those that wait for a slot after those that hold one (R178). -/
def State.disableAll (s : State) : State :=
  let l := s.txn.waiting
  let t : State := { s with txn := { s.txn with waiting := [] } }
  let t := ((List.range 64).filter (fun n => (t.slot n).live)).foldl (fun t n => t.giveUp n 6) t
  l.foldl (fun (t : State) p => t.issuerClosed p.1 6 0xFF 0 (t.membersOf p.1.dest)) t

/-- Clearing TXN CTRL.ENABLE: every transaction closes DISABLED. DEDUCED (log entry 71). -/
def doTxnDisable (m : Master) (w : Wick) (s : State) : State :=
  s.write m (w.page 3) 0x008 (s.controlCode w) (fun s => (s.store (HDR.ENABLE (w.page 3)) 0).disableAll)

/-- TXN_DISABLE. -/
def execTxnDisable (m : Master) (w : Wick) (s : State) : Host.Outcome State Fault Refusal := .next (doTxnDisable m w s)

/-- Clearing LINK CTRL.ENABLE: a frame already keyed completes, one granted but not keyed is not sent (R163). -/
def doLinkDisable (m : Master) (w : Wick) (s : State) : State :=
  s.write m (w.page 2) 0x008 (s.controlCode w) (fun s =>
    let t := s.store (HDR.ENABLE (w.page 2)) 0
    let t := match t.grant? w with
      | some g => (match g.use with
        | .slot n => (t.dropGrant w).requeue n 0
        | _ => t.dropGrant w)
      | none => t
    let t := match t.link.taper with
      | some p => t.dropTaper.requeue p.slot 0
      | none => t
    { t with link := { t.link with acks := [] } })

/-- LINK_DISABLE. -/
def execLinkDisable (m : Master) (w : Wick) (s : State) : Host.Outcome State Fault Refusal := .next (doLinkDisable m w s)

/-! ### Results and the response port (R181, R182) -/

/-- A write of RES_POP. -/
def doResPop (m : Master) (w : Wick) (s : State) : State :=
  s.write m (w.page 3) 0x204 (s.controlCode w) (fun s => ({ s with txn := { s.txn with results := s.txn.results.drop 1 } } : State).jot)

/-- RES_POP. -/
def execResPop (m : Master) (w : Wick) (s : State) : Host.Outcome State Fault Refusal := .next (doResPop m w s)

/-- The answers of a group transaction as the response port lists them: address, RESULT, whether unexpected. -/
def Slot.answers (x : Slot) : List (Nat × Nat × Bool) :=
  (sortOn id x.expected).map (fun a => (a, ((x.responses.find? (fun r => r.1 = a)).map Prod.snd).getD 0xFF, false)) ++
  (sortOn Prod.fst (x.responses.filter (fun r => !x.expected.contains r.1))).map (fun r => (r.1, r.2, true))

/-- The registers of the response port for a selected tag and start index. -/
def State.showAnswers (s : State) (w : Wick) (tag start : Nat) : State :=
  let x := s.slot (tag % 64)
  let gone := x.epoch != tag / 64 % 4
  let group := x.desc.ty = 2 && x.desc.asks
  let l := if gone || !group then [] else x.answers
  let t := (s.set (TXN.RESP_STATUS w) (if gone then 2 else if group then 0 else 3)).set (TXN.RESP_TOTAL w) l.length
  (List.range 16).foldl (fun (t : State) k =>
    match l[start + k]? with
    | some e => t.setAll [(TXN.E_ADDR w k, e.1), (TXN.E_RESULT w k, e.2.1), (TXN.E_UNEXPECTED w k, b2n e.2.2), (TXN.E_VALID w k, 1)]
    | none => t.setAll [(TXN.E_ADDR w k, 0), (TXN.E_RESULT w k, 0), (TXN.E_UNEXPECTED w k, 0), (TXN.E_VALID w k, 0)]) t

/-- A write of RESP_SEL. DEDUCED (log entry 72). -/
def doRespSel (m : Master) (w : Wick) (v : Nat) (s : State) : State :=
  s.write m (w.page 3) 0x300 [] (fun s =>
    let tag := bits v 0 8
    let start := bits v 16 12
    ((s.store (TXN.RESP_TAG w) tag).store (TXN.RESP_START w) start).showAnswers w tag start)

/-- RESP_SEL. -/
def execRespSel (m : Master) (w : Wick) (v : Word) (s : State) : Host.Outcome State Fault Refusal := .next (doRespSel m w v.toNat s)

/-! ### A takeover (R179, R180) -/

/-- A transaction whose attempt was SENDING and had not been keyed counts it as transmitted (R179): the members of a group are expected from the
first attempt on (R173). -/
def State.countSent (s : State) (x : Slot) : Slot :=
  { x with attempts := x.attempts + 1, keyed := true, planned := none
           expected := if x.attempts = 0 ∧ x.desc.ty = 2 ∧ x.desc.asks = true then s.membersOf x.desc.dest else x.expected }

/-- One slot as a wick restores it that takes over after a failure: a SENDING attempt counts as transmitted, the timers of
WAITING and BACKOFF restart; one whose attempts are all made closes. DEDUCED (log entry 73). -/
def State.resumeSlot (s : State) (n : Nat) : State :=
  let x := s.slot n
  if x.state = 2 then
    (s.setSlot n (if x.keyed then x else s.countSent x)).attemptEnded n
  else if x.state = 3 ∨ x.state = 4 then s.slotTimer n x.state x.span
  else if x.state = 1 ∧ 0 < x.attempts ∧ s.maxAttempts x.desc ≤ x.attempts then s.closeLast n
  else if x.state = 1 then s.setSlot n { x with planned := none }
  else s

/-- The slots as an AUTHOR restores them. DEDUCED (log entry 73). -/
def State.resumeSlots (s : State) : State := (List.range 64).foldl (fun (t : State) n => t.resumeSlot n) s

/-- The slots as a SNOWDROP wick restores them: all but the stored-schedule broadcasts return to QUEUED (R180). DEDUCED (log entry 73). -/
def State.shelveSlots (s : State) : State :=
  (List.range 64).foldl (fun (t : State) n =>
    let x := t.slot n
    if x.live && !(x.desc.purpose = .step && !x.desc.asks) then
      let y := if x.state = 2 ∧ x.keyed = false then t.countSent x else x
      t.setSlot n { y with state := 1, timer := if x.state = 1 then x.timer else 0, planned := none, keyed := false }
    else t.resumeSlot n) s

end Sys2Proof.Machine
end

