-- ==== Sys2Proof/Machine/Arbiter.lean ====
section
/-! DEFINITION. The role arbiter: eligibility, starting and losing wicks, failover, planned handover, self-tests, transient and lasting faults, revert, Snowdrop mode, the controller's checkpoints (R13 to R18, R307 to R336). -/

namespace Sys2Proof.Machine

/-- The arbiter takes a value. -/
def State.setArb (s : State) (x : Arb) : State := { s with arb := x }

/-- The loss timer of a wick. -/
def tmLoss (w : Wick) : Nat := 130 + w.idx
/-- The READY deadline of a wick. -/
def tmStart (w : Wick) : Nat := 132 + w.idx
/-- The 60 s a wick must hold AUTHOR or MIRROR for BOOT_FAILS to return to 0. -/
def tmStable (w : Wick) : Nat := 134 + w.idx
/-- The controller's next checkpoint. -/
def tmCtlCkpt : Nat := 136

/-! ### Eligibility (R307) -/

/-- WICK_EN of a wick. -/
def wickEn : Wick → Field
  | .a => PILOT.WICK_EN_A
  | .b => PILOT.WICK_EN_B

/-- Whether a controller fault class of a wick is lasting (R326). -/
def State.lastingFault (s : State) (w : Wick) : Bool := s.get (PILOT.LASTING w.idx) % 16 ≠ 0

/-- The eligibility of a wick: 0 ELIGIBLE, 1 LAST_RESORT, 2 BARRED, 3 DISABLED. -/
def State.eligibility (s : State) (w : Wick) : Nat :=
  if s.on (wickEn w) = false then 3
  else if 3 ≤ s.get (PILOT.BOOT_FAILS w.idx) then 2
  else if s.on (PILOT.NEEDS_BIST w.idx) = false ∧ s.lastingFault w = false ∧ s.arb.failed.contains w.idx = false then 0
  else 1

/-- The wick PREF_WICK names. -/
def State.prefWick (s : State) : Wick := if s.on PILOT.PREF_WICK then .b else .a

/-! ### Roles (R308, R310) -/

/-- A role that sends heartbeats. -/
def Role.beats : Role → Bool
  | .mirror => true
  | .author => true
  | .snowdrop => true
  | _ => false

/-- The open packets of the stream FIFOs whose producers run in a controller that gives way are abandoned: those of its link engine and of
its correlator (R97). -/
def State.leaveStreams (s : State) (o r : Role) : State :=
  if (o = .author ∨ o = .snowdrop) ∧ o ≠ r then (s.abandonPacket 1).abandonPacket 3 else s

/-- A wick enters a role, in this cycle. -/
def State.enter (s : State) (w : Wick) (r : Role) : State :=
  let o := s.role w
  let s := s.leaveStreams o r
  let t := (s.setRole w r).set (PILOT.ROLE_SINCE w.idx) (s.now / 65536)
  let t := if o = .author ∧ r ≠ .author then t.setArb { t.arb with leftAuthor := t.arb.leftAuthor.put w.idx s.base } else t
  let t := if r = .cold ∧ t.arb.firstCold.has w.idx = false then t.setArb { t.arb with firstCold := t.arb.firstCold.put w.idx s.base } else t
  let t := if r.beats then (t.setArb { t.arb with beat := t.arb.beat.put w.idx s.base }).arm (tmLoss w) 6552 else t.disarm (tmLoss w)
  let t := if (r = .author ∨ r = .mirror) ∧ o = .warming then t.arm (tmStable w) (secs 60)
    else if r = .author ∨ r = .mirror then t else t.disarm (tmStable w)
  (t.bistCut w false).raise 0 0

/-- Whether a register place belongs to PAGE_LOCK, which only a module start clears (R43). -/
def isPageLock (key : Nat) : Bool := key % 131072 / 32 = 0x028

/-- Whether a register place stands on a page of a wick's core or radio domain. -/
def onWickPage (w : Wick) (key : Nat) : Bool :=
  decide (pageWick (key / 131072) = some w) && decide (key / 131072 % 16 ≠ 7 ∧ key / 131072 % 16 ≠ 8)

/-- Whether a register place belongs to a master's submission copy or to its SUB_STATUS (R183). -/
def onSubmission (key : Nat) : Bool := decide (0x100 ≤ key / 131072)

/-- The submission copies and SUB_STATUS of every master return to their reset values: they are volatile (R183). -/
def State.dropSubmissions (s : State) : State := { s with regs := s.regs.filter (fun c => !onSubmission c.1) }

/-- A wick's core and radio domains go off: its register pages but those of its metering return to their reset values, PAGE_LOCK apart, its
locks are released and its mailbox messages revoked (R43, R50, R91, R310). Where it is the wick that a swap left behind, HANDOVER_END is raised
(R320). With the controller go the submission copies (R183). -/
def State.shutWick (s : State) (w : Wick) : State :=
  let t := ((s.setPd (corePd w) false).setPd (radioPd w) false).disarm (tmStart w)
  let t := if s.arb.outgoing = some w then t.raise 0 2 else t
  let t := if s.controller = none then t.dropSubmissions else t
  let t := { t with
    regs := t.regs.filter (fun c => !(onWickPage w c.1) || isPageLock c.1)
    timers := t.timers.filter (fun c => !decide (tmSfd w 0 ≤ c.1 ∧ c.1 ≤ tmSfd w 7))
    link := { t.link with grants := t.link.grants.del w.idx, onAir := t.link.onAir.del w.idx, blankEnd := t.link.blankEnd.del w.idx }
    arb := { t.arb with outgoing := if t.arb.outgoing = some w then none else t.arb.outgoing, readyAt := t.arb.readyAt.del w.idx, lostAt := t.arb.lostAt.del w.idx } }
  let t := match w with
    | .a => { t with stoppedA := false }
    | .b => { t with stoppedB := false }
  ((t.dropLocks w.master).senderReset w.master).receiverReset w.master.id

/-- The wick of a planned handover's other side: the one that is WARMING or MIRROR. -/
def State.incoming (s : State) : Option Wick :=
  if s.roleA = .warming ∨ s.roleA = .mirror then some .a
  else if s.roleB = .warming ∨ s.roleB = .mirror then some .b else none

/-- A planned handover is in WARMING or MIRROR. -/
def State.handing (s : State) : Bool := s.get PILOT.HO_STATE = 1 || s.get PILOT.HO_STATE = 2

/-- A planned handover closes without a swap: SWAP_AT shows the last swap again. -/
def State.closeHandover (s : State) (state : Nat) : State :=
  (s.set PILOT.HO_STATE state).set2 PILOT.SWAP_AT_LO PILOT.SWAP_AT_HI s.arb.lastSwap

/-! ### Self-tests (R324, R325) -/

/-- A wick is stopped no longer: its core starts anew (R14). -/
def State.restarted (s : State) (w : Wick) : State :=
  match w with
  | .a => { s with stoppedA := false }
  | .b => { s with stoppedB := false }

/-- A report of a self-test is recorded, logged and raised; a run that lasted ends with the wick's domains off. -/
def State.report (s : State) (w : Wick) (steps code dur : Nat) : State :=
  let n := w.idx
  let ran := s.arb.testing.has n
  let t := s.setArb { s.arb with testing := s.arb.testing.del n }
  let t := if ran ∧ t.role w = .cold then ((t.setPd (corePd w) false).setPd (radioPd w) false).restarted w else t
  let t := t.setAll [(PILOT.SELFTEST_RUN n, 0), (PILOT.HR_LBIST n, bits steps 0 1), (PILOT.HR_MBIST n, bits steps 1 1),
    (PILOT.HR_DRYBOOT n, bits steps 2 1), (PILOT.HR_DIGEST n, bits steps 3 1), (PILOT.HR_RADIO n, bits steps 4 1),
    (PILOT.HR_CODE n, code), (PILOT.HR_DUR n, dur), (PILOT.HR_TIME n, s.now / 65536)]
  let t := if code = 0 then t else t.setArb { t.arb with soak := t.arb.soak.del n }
  (t.event Master.mss.id 0x0802 [n, steps + 2 ^ 8 * code, dur]).raise 0 3

/-- A self-test that runs on a wick is aborted: the steps it had passed are not known. DEDUCED (log entry 121). -/
def State.abortTest (s : State) (w : Wick) : State :=
  match s.arb.testing.get? w.idx with
  | none => s
  | some since =>
    let (r, t) := s.draw
    t.report w (r % 32) 3 (shown ((s.base - since) * 10) 32768)

/-! ### Starting a wick (R309, R310, R314, R418) -/

/-- The whole journalled state of the controller at its reset values: what a wick starts from that finds records but no valid
checkpoint (R314). The banks lie outside the journal. DEDUCED (log entry 117). -/
def State.journalLost (s : State) : State :=
  { s with
    journal := [], reg := State.reset.reg, txn := State.reset.txn, attr := State.reset.attr
    wave := { State.reset.wave with history := s.wave.history, profGen := s.wave.profGen, ready := s.wave.ready, buffer := s.wave.buffer }
    camp := { Camp.idle with lib := s.camp.lib }
    fab := { s.fab with queue := [], repeats := [] } }

/-- The slot a wick's start loads: its committed slot, or on the trial set the other one (R407). -/
def State.startSlot (s : State) (w : Wick) (trial : Bool) : Nat :=
  let c := s.get (match w with | .a => UPDATE.SLOT_A | .b => UPDATE.SLOT_B)
  if trial then 1 - c else c

/-- The settings that M_RESET_MASK names return to their defaults (R418). -/
def State.settingsReset (s : State) : State :=
  let mask := s.get UPDATE.M_RESET_MASK
  let wipe := fun (b : Bank) =>
    let b := if bit mask 6 then { b with sh := [] } else b
    { b with mem := (bankTables.filter (fun t => bit mask t.content)).foldl (fun (m : Mem) t => m.clear t.base (t.entries * t.bytes)) b.mem }
  let t := { s with cfg := { s.cfg with half0 := wipe s.cfg.half0, half1 := wipe s.cfg.half1 } }
  let t := if bit mask 7 then { t with journal := [] } else t
  t.event Master.mss.id 0x0B06 [mask]

/-- The journalled registers of a wick's pages (R44): the journal records them by their place on Wick A's. DEDUCED (log entry 20). -/
def State.restoreRegs (s : State) (w : Wick) : State :=
  { s with regs := (s.journal.filter (fun c => c.1 / 131072 / 16 = 1)).foldl (fun (r : Map Nat) c => r.put (c.1 + w.idx * 0x10 * 131072) c.2) s.regs }

/-- A wick enters WARMING on a kind of start: 0 module start, 1 failover, 2 handover, 3 Snowdrop, 4 restore. DEDUCED (log entry 116). -/
def State.startWick (s : State) (w : Wick) (kind : Nat) (trial : Bool) : State :=
  let s := if s.arb.outgoing = some w then s.shutWick w else s
  let t := ((s.abortTest w).bistCut w true).enter w .warming
  let t := t.restarted w
  let t : State := { t with wave := { t.wave with buffer := [] } }
  let t := if trial ∧ t.on UPDATE.M_SCHEMA = true ∧ t.upd.wiped = false then
      (({ t with upd := { t.upd with wiped := true } } : State).settingsReset)
    else t
  let t : State := { t with upd := { t.upd with onTrial := (if trial then [w.idx] else []) ++ t.upd.onTrial.filter (· ≠ w.idx) } }
  let t := ((t.setPd (corePd w) true).setPd (radioPd w) true).restoreRegs w
  let (r, t) := if kind = 3 then t.draw else (t.get (if trial then UPDATE.M_SET_VER else UPDATE.INST_SET_VER), t)
  let t := t.setAll [(WCORE.START_KIND w, kind), (WCORE.RECOVERY w, b2n (kind = 3)), (WCORE.IMAGE_SLOT w, s.startSlot w trial),
    (WCORE.FW_VER w, r), (RADIO.TCXO_LOCK w, 1)]
  t.arm (tmStart w) (if kind = 3 then millis 3000 else millis 1550)

/-- The wicks that no main-image start may warm and a recovery start may (R330). -/
def State.barred (s : State) (w : Wick) : Bool := (s.role w = .cold || s.role w = .failed) && s.eligibility w = 2

/-- With no wick to warm, a BARRED wick starts on the recovery image, or no controller is left, once each has failed three recovery starts in a
row (R330, R332). DEDUCED (log entry 116). -/
def State.recover (s : State) (failed : Option Wick) : State :=
  let rank := fun (w : Wick) => 10000 * b2n (failed = some w) + 100 * s.get (PILOT.BOOT_FAILS w.idx) +
    10 * ((List.range 5).filter (bit (s.get (PILOT.LASTING w.idx)))).length + b2n (s.prefWick ≠ w)
  match leastOn? rank ([Wick.a, Wick.b].filter (fun w => s.barred w && decide (s.arb.snowRow.getD w.idx 0 < 3))) with
  | some w => s.startWick w 3 false
  | none => if s.arb.noController then s else (s.setArb { s.arb with noController := true, tried := s.base }).raise 0 7

/-- The arbiter chooses a wick where no wick holds AUTHOR and none is warming; `failed` is the wick whose start just failed, and
whether that was a recovery start (R309, R330, R333). -/
def State.consider (s : State) (failed : Option (Wick × Bool)) (kind : Nat) : State :=
  if s.author.isSome ∨ s.incoming.isSome then s
  else
    let snow := s.controller.isSome
    let rank := fun (w : Wick) => 1000 * s.eligibility w +
      (match failed with
       | some (f, _) => 10 * s.get (PILOT.BOOT_FAILS w.idx) + b2n (f = w)
       | none => b2n (s.prefWick ≠ w))
    match leastOn? rank ([Wick.a, Wick.b].filter (fun w => (s.role w = .cold || s.role w = .failed) && decide (s.eligibility w ≤ 1))) with
    | some w =>
      let trial := s.get UPDATE.ACT_STEP = 2 ∧ s.upd.alone = true ∧ s.upd.dry = some w.idx
      s.startWick w (if snow ∨ trial then 4 else kind) (decide trial)
    | none =>
      if snow then s
      else s.recover (match failed with
        | some (f, true) => some f
        | _ => none)

/-- A recovery start of a wick fails: it is counted, and counted in its row (R332). -/
def State.snowFailed (s : State) (w : Wick) : State :=
  let t := s.bump (PILOT.SNOW_FAILS w.idx) 1
  t.setArb { t.arb with snowRow := t.arb.snowRow.put w.idx (t.arb.snowRow.getD w.idx 0 + 1) }

/-- The row of failed recovery starts of a wick ends (R332). DEDUCED (log entry 116). -/
def State.snowHeld (s : State) (w : Wick) : State := s.setArb { s.arb with snowRow := s.arb.snowRow.del w.idx }

/-- A wick that is WARMING does not get READY (R329, R330, R332). -/
def State.failStart (s : State) (w : Wick) (reason : Nat) : State :=
  let n := w.idx
  let rec3 := s.get (WCORE.START_KIND w) = 3
  let t := if rec3 then s.snowFailed w else (s.bump (PILOT.BOOT_FAILS n) 1).set (PILOT.REASON n) reason
  let t := t.enter w (if rec3 ∨ 3 ≤ t.get (PILOT.BOOT_FAILS n) then .failed else .cold)
  let t := t.shutWick w
  let t := if t.get PILOT.HO_STATE = 1 then t.closeHandover 5 else t
  t.consider (some (w, rec3)) 1

/-! ### Planned handover (R317 to R321) -/

/-- Why a planned handover is refused, as CMD_STATUS; 0 where it is not. -/
def State.handoverCode (s : State) : Nat :=
  match s.author with
  | none => 3
  | some w => if s.incoming.isSome then 2 else if s.eligibility w.other = 0 then 0 else 1

/-- A planned handover begins, with its cause: 1 HOST, 2 REVERT, 3 LASTING, 4 UPDATE. -/
def State.startHandover (s : State) (cause : Nat) (trial : Bool) : State :=
  match s.author with
  | none => s
  | some w => (s.setAll [(PILOT.HO_STATE, 1), (PILOT.HO_CAUSE, cause), (PILOT.HO_DEFERS, 0)]).startWick w.other 2 trial

/-- A planned handover in WARMING or MIRROR is cancelled: its incoming wick becomes COLD (R321). -/
def State.cancelHandover (s : State) : State :=
  match s.incoming with
  | some w => ((s.enter w .cold).shutWick w).closeHandover 4
  | none => s

/-! ### Transient and lasting faults (R326, R327) -/

/-- The threshold of a fault class. -/
def faultThreshold : Nat → Field
  | 0 => PILOT.TH_ECC
  | 1 => PILOT.TH_LOCKSTEP
  | 2 => PILOT.TH_PLL
  | 3 => PILOT.TH_HB
  | _ => PILOT.TH_METER

/-- The window count of a fault class. -/
def faultCount (n : Nat) : Nat → Field
  | 0 => PILOT.W_ECC n
  | 1 => PILOT.W_LOCKSTEP n
  | 2 => PILOT.W_PLL n
  | 3 => PILOT.W_HB n
  | _ => PILOT.W_METER n

/-- The count of a class over its window. -/
def Arb.window (x : Arb) (w : Wick) (cls : Nat) : Nat := ((x.buckets.getD (5 * w.idx + cls) []).take 24).sum

/-- The registers that show the window counts of a wick. -/
def State.showWindows (s : State) (w : Wick) : State :=
  (List.range 5).foldl (fun (t : State) c => t.set (faultCount w.idx c) (min 255 (t.arb.window w c))) s

/-- A class of a wick becomes lasting (R326, R327). DEDUCED (log entry 123). -/
def State.becomeLasting (s : State) (w : Wick) (cls : Nat) : State :=
  let t := ((s.set (PILOT.LASTING w.idx) (s.get (PILOT.LASTING w.idx) ||| 2 ^ cls)).event srcPilot 0x0803 [w.idx, cls]).raise 0 4
  if cls = 4 then t
  else if t.role w = .cold then ((t.abortTest w).set (PILOT.REASON w.idx) 6).enter w .failed
  else if t.role w = .author ∧ t.handoverCode = 0 then t.startHandover 3 false
  else t

/-- A fault of a wick is counted under its class n times. DEDUCED (log entry 123). -/
def State.countFault (s : State) (w : Wick) (cls n : Nat) : State :=
  let l := s.arb.buckets.getD (5 * w.idx + cls) [0]
  let l := match l with
    | b :: r => min 255 (b + n) :: r
    | [] => [min 255 n]
  let t := s.setArb { s.arb with
    buckets := s.arb.buckets.put (5 * w.idx + cls) l
    soak := if s.arb.soak.has w.idx then s.arb.soak.put w.idx s.base else s.arb.soak }
  let t := t.showWindows w
  let th := t.get (faultThreshold cls)
  if th ≠ 0 ∧ th ≤ t.arb.window w cls ∧ bit (t.get (PILOT.LASTING w.idx)) cls = false then t.becomeLasting w cls else t

/-- A wick stops every action it takes outside itself: a frame it had keyed is cut off, its mailbox messages are revoked (R14, R91). -/
def State.stopWick (s : State) (w : Wick) : State :=
  if s.stopped w ∨ s.pdOn (corePd w) = false then s
  else
    let t := match w with
      | .a => { s with stoppedA := true }
      | .b => { s with stoppedB := true }
    let t := if t.link.onAir.has w.idx then (t.offAir w).bump (RADIO.TX_ABORTED w) 1 else t
    let t := ((t.dropGrant w).setArb { t.arb with lockStop := t.arb.lockStop.put w.idx s.base }).disarm (tmStable w)
    let t := (t.senderReset w.master).receiverReset w.master.id
    let t := t.countFault w 1 1
    if t.role w = .warming then t.failStart w 3 else t

/-- LOCKSTEP_MISMATCH. -/
def execLockstepMismatch (w : Wick) (s : State) : Host.Outcome State Fault Refusal := .next (s.stopWick w)

/-- SRAM_DOUBLE_ERROR: handled as a lockstep mismatch. -/
def execSramDoubleError (w : Wick) (s : State) : Host.Outcome State Fault Refusal := .next (s.stopWick w)

/-- n single-bit errors of a wick's SRAM are corrected (R15). -/
def State.eccCorrected (s : State) (w : Wick) (n : Nat) : State :=
  if s.pdOn (corePd w) then (s.bump (WCORE.ECC_CORR_CNT w) n).countFault w 0 n else s

/-- SRAM_ECC_CORRECTION. -/
def execSramEccCorrection (w : Wick) (s : State) : Host.Outcome State Fault Refusal := .next (s.eccCorrected w 1)

/-- PLL_UNLOCK: the radio PLL of a wick loses lock (R105). -/
def doPllUnlock (w : Wick) (s : State) : State :=
  if s.on (RADIO.PLL_LOCK w) then
    let t := ((s.set (RADIO.PLL_LOCK w) 0).bump (RADIO.PLL_UNLOCK_CNT w) 1).raise (w.page 1) 0
    ((t.cutShort w).releaseDemods w).countFault w 2 1
  else s

/-- PLL_UNLOCK. -/
def execPllUnlock (w : Wick) (s : State) : Host.Outcome State Fault Refusal := .next (doPllUnlock w s)

/-- The counts are saved to MRAM (R326), but while a final save runs, which holds them itself (R23). -/
def State.saveBuckets (s : State) : State := if s.saving then s else s.setArb { s.arb with savedBuckets := s.arb.buckets }

/-- FAULT_WINDOW_HOUR: each hour boundary of the base that has passed slides every window. -/
def doFaultWindowHour (s : State) : State :=
  let n := s.base / secs 3600 - s.arb.hour
  if n = 0 then s
  else
    let t := s.setArb { s.arb with
      hour := s.base / secs 3600
      buckets := s.arb.buckets.map (fun c => (c.1, (List.replicate (min n 24) 0 ++ c.2).take 24)) }
    ((t.showWindows .a).showWindows .b).saveBuckets

/-- FAULT_WINDOW_HOUR. -/
def execFaultWindowHour (s : State) : Host.Outcome State Fault Refusal := .next (doFaultWindowHour s)

/-! ### Checkpoints (R313) -/

/-- The bytes of the checkpoint at a sequence number: no more than a slot holds (R311). -/
def ckptImage (jseq : Nat) : List Byte := (Config.ckptBytes jseq).take slotSize

/-- The checkpoint that the AUTHOR would complete now, in the slot that the last one is not in (R311, R313). -/
def State.newCkpt (s : State) : Ckpt :=
  let slot := match s.arb.ckpts with
    | c :: _ => 1 - c.slot
    | [] => 0
  let c : Ckpt := { slot := slot, pages := s.journal, jseq := s.jseq, time := s.now, digest := (sha256 (ckptImage s.jseq)).take 8, crc := 0
                    base := s.base }
  { c with crc := crc32 c.bytes }

/-- The AUTHOR completes a controller checkpoint, but while a final save runs (R23): the ring forgets what neither checkpoint needs, and the
records that waited are written, and counted (R313). -/
def State.checkpoint (s : State) : State :=
  match s.author with
  | some w =>
    if s.saving then s
    else
      let ckpts := (s.newCkpt :: s.arb.ckpts).take 2
      let t := s.setArb { s.arb with ckpts := ckpts }
      let t := { t with ring := { recs := (s.ring.recs ++ s.ring.held).filter (fun r => decide (t.ringFloor < r.jseq)), held := [] } }
      let t := t.bump (WCORE.JRNL_WAIT_CNT w) s.ring.held.length
      (t.arm tmCtlCkpt (secs (s.get PILOT.CKPT_S))).raise (w.page 0) 0
  | none => s

/-- The KiB of the records since the newest checkpoint, a part of one counted whole, no more than the ring holds. -/
def State.sinceCkpt (s : State) : Nat := min 1280 ((s.ringUsed s.ckptJseq + 1023) / 1024)

/-- CONTROLLER_CHECKPOINT. DEDUCED (log entry 118). -/
def execControllerCheckpoint (s : State) : Host.Outcome State Fault Refusal :=
  .next (if s.authorRuns && (s.due tmCtlCkpt || decide (768 < s.sinceCkpt)) then s.checkpoint else s)

/-! ### Taking over (R44, R179, R210, R237, R290, R305, R315, R316, R356) -/

/-- What a new AUTHOR does with the campaign: an open load is lost, a collection restarts, STATE_CHANGE is raised once.
DEDUCED (log entry 113). -/
def State.campTakeover (s : State) (w : Wick) : State :=
  let x := { s.camp with load := none, op := none }
  let t := { s with camp := if x.until_.isSome ∧ (x.state = 3 ∨ (x.state = 7 ∧ x.rest = none))
    then { x with until_ := some (s.base + secs (s.get (CAMPAIGN.C_QUERY_S w) + 30)) } else x }
  if 1 ≤ x.state ∧ x.state ≤ 7 ∨ x.state = 10 then t.raise (w.page 0xA) 1 else t

/-- The silence of a sudden failover ends with a new AUTHOR (R315, R316, R324). -/
def State.failoverDone (s : State) : State :=
  match s.arb.silence with
  | some b =>
    let t := s.setArb { s.arb with
      silence := none, lost := []
      retest := s.arb.lost.foldl (fun (m : Map Nat) n => m.put n (s.base + secs 60)) s.arb.retest }
    ((t.bump PILOT.FAILOVER_CNT 1).set PILOT.LAST_SILENCE_MS (min (msShown (s.base - b)) 0xFFFF)).raise 0 1
  | none => s

/-- What the page registers of a wick that takes control hold of their own: PAGE_LOCK, and what WCORE and RADIO show of the wick itself.
DEDUCED (log entry 202). -/
def ownRegs (w : Wick) (key : Nat) : Bool :=
  isPageLock key || (WCORE.fields w ++ RADIO.fields w).any (fun f => f.acc = .ro && f.key = key)

/-- A wick's pages as a takeover leaves them: volatile fields at their reset values, every other restored from the journal (R44).
DEDUCED (log entry 202). -/
def State.freshPages (s : State) (w : Wick) : State :=
  State.restoreRegs { s with regs := s.regs.filter (fun c => !(onWickPage w c.1) || ownRegs w c.1) } w

/-- The pages of a MIRROR that becomes AUTHOR (R44). -/
def State.mirrorPages (s : State) (w : Wick) : State := if s.role w = .mirror then s.freshPages w else s

/-- Work on the banks that a new AUTHOR finds shows on its RADIO page: a preset load runs there again (R456). -/
def State.findBanks (s : State) (w : Wick) : State :=
  let t := s.readCommit
  if t.cfg.preset.isSome then t.set (RADIO.CMD_STATUS w) 1 else t

/-- Registers as records change them, one after another (R312). -/
def pagesOf (base : Map Nat) (l : List JRec) : Map Nat :=
  l.foldl (fun m r => match r.kind with
    | .page k v => m.put k v
    | _ => m) base

/-- A wick that started without a valid checkpoint takes control with the journalled state at its reset values, but for the registers
journalled since (R314). DEDUCED (log entry 117). -/
def State.lostTakes (s : State) (w : Wick) : State :=
  match s.arb.lostAt.get? w.idx with
  | some n =>
    let pages := pagesOf [] (s.ring.recs.filter (fun r => decide (n < r.jseq)))
    let t := s.journalLost
    ({ t with journal := pages, arb := { t.arb with lostAt := t.arb.lostAt.del w.idx } } : State).freshPages w
  | none => s

/-- What a change of AUTHOR leaves of the link engine: at the swap of a planned handover the plan of the taper trains and the copies due are
kept (R320). -/
def Link.passed (x : Link) (swap : Bool) : Link :=
  { x with acks := [], seen := [], taper := if swap then x.taper else none, copies := if swap then x.copies else [] }

/-- A wick enters the role AUTHOR, with its pages and the work on the banks it finds. -/
def State.enterAuthor (s : State) (w : Wick) (swap : Bool) : State :=
  let s := (((s.mirrorPages w).lostTakes w).dropSubmissions).snowHeld w
  let t := (((s.enter w .author).receiverReset 7).receiverBack 7).findBanks w
  { t with
    authorSince := if swap = true ∧ t.authorSince.isSome = true then t.authorSince else some s.base
    reg := { t.reg with lookups := [] }
    link := t.link.passed swap
    arb := { t.arb with noController := false }
    upd := { t.upd with tookAt := if t.upd.onTrial.contains w.idx then some t.base else t.upd.tookAt } }

/-- A wick becomes AUTHOR, at the swap of a planned handover or otherwise. DEDUCED (log entries 118, 120). -/
def State.takeAuthor (s : State) (w : Wick) (swap : Bool) : State :=
  let t := s.enterAuthor w swap
  let t := if swap then t else t.resumeSlots
  let t := if t.txn.results = [] then t else t.raise (w.page 3) 0
  let t := (t.waveTakeover.campTakeover w).fabTakeover
  (t.failoverDone).arm tmCtlCkpt (secs (s.get PILOT.CKPT_S))

/-- A recovery wick takes up its reduced service (R180, R290, R331). -/
def State.takeSnowdrop (s : State) (w : Wick) : State :=
  let t := ((s.dropSubmissions.enter w .snowdrop).receiverReset 7).receiverBack 7
  let t := { t with
    reg := { t.reg with lookups := [] }
    link := t.link.passed false
    wave := { t.wave with tracks := [], waves := [], preSet := [] }
    arb := { t.arb with noController := false, silence := none, lost := [] } }
  ((t.endSession 5).shelveSlots).fabTakeover.raise 0 6

/-! ### READY (R310, R314, R318, R320, R333) -/

/-- The records that a starting wick applies: in JSEQ order from a number on, up to the first whose CRC fails or whose JSEQ breaks the
sequence (R314). -/
def applied (n : Nat) : List JRec → List JRec
  | [] => []
  | r :: l => if r.jseq ≤ n then applied n l else if r.jseq = n + 1 ∧ r.valid = true then r :: applied (n + 1) l else []

/-- The journal as a wick finds it that starts where no controller runs: the newest valid checkpoint and the records after it; what follows a
record that was cut short, and records that still waited, are discarded, and with them what they say of the registers (R314). The change
that any other such record describes was never made. DEDUCED (log entry 203). -/
def State.replay (s : State) (w : Wick) : State :=
  let n := s.ckptJseq
  let recs := s.ring.recs.filter (fun r => decide (n < r.jseq))
  let l := applied n recs
  if l.length = recs.length ∧ s.ring.held = [] then s
  else
    let base := match s.newestCkpt with
      | some c => c.pages
      | none => []
    let pages := pagesOf base l
    let t : State := { s with journal := pages, jseq := n + l.length, ring := { recs := s.ring.recs.filter (fun (r : JRec) => decide (r.jseq ≤ n)) ++ l, held := [] } }
    t.freshPages w

/-- A wick reaches READY: its PLL is locked and the records since the checkpoint are applied in some ms. Where no checkpoint is valid and the
ring holds records it has started from reset values: STATE_LOST is logged (R314). DEDUCED (log entries 115, 116). -/
def State.readied (s : State) (w : Wick) (ms : Nat) : State :=
  let s := if s.controller = none then s.replay w else s
  let t := (s.disarm (tmStart w)).setAll
    [(RADIO.PLL_LOCK w, 1), (WCORE.REPLAY_RECS w, min (s.jseq - s.ckptJseq) 0xFFFF), (WCORE.REPLAY_MS w, ms)]
  let t := t.setArb { t.arb with readyAt := t.arb.readyAt.put w.idx s.base }
  let t := t.receiverBack w.master.id
  if s.newestCkpt = none ∧ s.ring.recs ≠ [] then
    (t.setArb { t.arb with lostAt := t.arb.lostAt.put w.idx s.jseq }).event w.master.id 0x0801 [w.idx]
  else t

/-- WICK_READY. A recovery start, tried only where no controller is, takes SNOWDROP while none is (R13, R330). DEDUCED (log entry 115). -/
def doWickReady (w : Wick) (ms : Nat) (s : State) : State :=
  if s.role w = .warming ∧ s.due (tmStart w) = false then
    let t := s.readied w ms
    if t.get (WCORE.START_KIND w) = 3 ∧ t.controller = none then (t.lostTakes w).takeSnowdrop w
    else if t.author = some w.other then
      let at_ := nextMultiple (s.now + s.get PILOT.MIRROR_BEACONS * s.active.beaconTicks) s.active.beaconTicks + 328
      ((t.enter w .mirror).set PILOT.HO_STATE 2).set2 PILOT.SWAP_AT_LO PILOT.SWAP_AT_HI at_
    else
      let t := if t.role w.other = .snowdrop then ((t.enter w.other .failed).shutWick w.other).snowHeld w.other else t
      t.takeAuthor w false
  else s

/-- WICK_READY; `ms` is the time the replay took. -/
def execWickReady (w : Wick) (ms : BitVec 16) (s : State) : Host.Outcome State Fault Refusal := .next (doWickReady w ms.toNat s)

/-- START_DEADLINE_EXPIRY: the deadline passes, or an image of the wick fails verification. -/
def doStartDeadlineExpiry (w : Wick) (invalid : Bool) (s : State) : State :=
  if s.role w = .warming ∧ (invalid = true ∨ s.due (tmStart w) = true) then s.failStart w (if invalid then 2 else 1) else s

/-- START_DEADLINE_EXPIRY. -/
def execStartDeadlineExpiry (w : Wick) (invalid : Bool) (s : State) : Host.Outcome State Fault Refusal :=
  .next (doStartDeadlineExpiry w invalid s)

/-- BOOT_STABLE. -/
def execBootStable (w : Wick) (s : State) : Host.Outcome State Fault Refusal :=
  .next (if s.due (tmStable w) then (s.disarm (tmStable w)).set (PILOT.BOOT_FAILS w.idx) 0 else s)

/-! ### Heartbeats and loss (R308, R315, R316, R326, R329) -/

/-- HEARTBEAT. One that comes after the loss timer has run out does not restart it: the wick is lost (R308). -/
def execHeartbeat (w : Wick) (s : State) : Host.Outcome State Fault Refusal :=
  .next (if (s.role w).beats && !s.stopped w && !s.due (tmLoss w) then
    (s.setArb { s.arb with beat := s.arb.beat.put w.idx s.base }).arm (tmLoss w) 6552 else s)

/-- A wick is declared lost. DEDUCED (log entries 119, 122). -/
def State.declareLost (s : State) (w : Wick) : State :=
  let n := w.idx
  let snow := s.role w = .snowdrop
  let early := match s.arb.readyAt.get? n with
    | some b => decide (s.base < b + secs 60)
    | none => false
  let t := s.set (PILOT.NEEDS_BIST n) 1
  let t := if early = false then t.snowHeld w
    else if snow then t.snowFailed w
    else (t.bump (PILOT.BOOT_FAILS n) 1).set (PILOT.REASON n) 4
  let t := if s.isController w then ({ t with authorSince := none } : State).receiverReset 7 else t
  let t := (t.enter w (if snow ∨ 3 ≤ t.get (PILOT.BOOT_FAILS n) then .failed else .cold)).shutWick w
  let recent := match s.arb.lockStop.get? n with
    | some b => decide (s.base ≤ b + 6554)
    | none => false
  if recent then t else t.countFault w 3 1

/-- Where the AUTHOR is lost, control passes on. DEDUCED (log entry 122). -/
def State.authorLost (s : State) (w : Wick) (beat : Nat) (lost : List Nat) : State :=
  let t := s.setArb { s.arb with silence := some beat, lost := lost }
  let t := if t.handing then t.closeHandover 5 else t
  if t.role w.other = .mirror then t.takeAuthor w.other false
  else if t.role w.other = .warming then t
  else if t.eligibility w.other ≤ 1 ∧ (t.role w.other = .cold ∨ t.role w.other = .failed) then t.startWick w.other 1 false
  else if t.eligibility w ≤ 1 then t.startWick w 1 false
  else t.recover none

/-- LOSS_TIMER_EXPIRY: every wick whose loss timer has run out is declared lost in this cycle. DESIGN CHOICE (log entry 2). -/
def doLossTimerExpiry (s : State) : State :=
  let l := [Wick.a, Wick.b].filter (fun w => s.due (tmLoss w))
  if l = [] then s
  else
    let t := l.foldl (fun (t : State) w => t.declareLost w) s
    match s.author with
    | some w =>
      if l.contains w then t.authorLost w (s.arb.beat.getD w.idx s.base) (l.map Wick.idx)
      else if t.handing then t.closeHandover 5 else t
    | none => t.consider none 1

/-- LOSS_TIMER_EXPIRY. -/
def execLossTimerExpiry (s : State) : Host.Outcome State Fault Refusal := .next (doLossTimerExpiry s)

/-- The role of a code. -/
def Role.code : Role → Nat
  | .off => 0
  | .cold => 1
  | .warming => 2
  | .mirror => 3
  | .author => 4
  | .snowdrop => 5
  | .failed => 6

/-- VOTER_DISAGREEMENT: a voter that held another role for a wick than the other two is reset to theirs (R18). DEDUCED (log entry 125). -/
def execVoterDisagreement (voter : Fin 3) (w : Wick) (held : Fin 7) (s : State) : Host.Outcome State Fault Refusal :=
  .next (if held.val = (s.role w).code then s else s.event srcPilot 0x0101 [voter.val, held.val])

/-! ### The swap (R320) -/

/-- HANDOVER_SWAP_INSTANT; `ready`: the MIRROR is READY with the newest record. DEDUCED (log entries 119, 120). -/
def doHandoverSwapInstant (ready : Bool) (s : State) : State :=
  match s.author, s.mirror with
  | some o, some m =>
    let at_ := s.get2 PILOT.SWAP_AT_LO PILOT.SWAP_AT_HI
    if s.now < at_ ∨ s.get PILOT.HO_STATE ≠ 2 then s
    else if ready = true ∧ s.stopped m = false then
      let lasting := s.get PILOT.HO_CAUSE = 3
      let t := s.jotAs .roleEnd
      let t := if lasting then t.set (PILOT.REASON o.idx) 6 else t
      let t := t.enter o (if lasting then .failed else .cold)
      let t := t.setArb { t.arb with outgoing := some o, lastSwap := at_ }
      (((t.takeAuthor m true).set PILOT.HO_STATE 3).bump PILOT.HANDOVER_CNT 1).checkpoint
    else if s.get PILOT.HO_DEFERS < 3 then
      (s.bump PILOT.HO_DEFERS 1).set2 PILOT.SWAP_AT_LO PILOT.SWAP_AT_HI (at_ + s.active.beaconTicks)
    else ((s.enter m .cold).shutWick m).closeHandover 5
  | _, _ => s

/-- HANDOVER_SWAP_INSTANT. -/
def execHandoverSwapInstant (ready : Bool) (s : State) : Host.Outcome State Fault Refusal := .next (doHandoverSwapInstant ready s)

/-- OUTGOING_DOMAINS_OFF. -/
def doOutgoingDomainsOff (s : State) : State :=
  match s.arb.outgoing with
  | some w => s.shutWick w
  | none => s

/-- OUTGOING_DOMAINS_OFF. -/
def execOutgoingDomainsOff (s : State) : Host.Outcome State Fault Refusal := .next (doOutgoingDomainsOff s)

/-! ### Commands of the PILOT page (R317, R321, R324, R333, R335) -/

/-- A command written to the PILOT page, with the status it leaves. -/
def State.pilotCommand (s : State) (m : Master) (k : State → Nat × State) : State :=
  s.write m 0 0x04C [] (fun s => (k s).2.set PILOT.CMD_STATUS (k s).1)

/-- Whether the swap instant of a planned handover has come: from then on nothing cancels it (R321, R328). -/
def State.swapCome (s : State) : Bool :=
  decide (s.get PILOT.HO_STATE = 2) && decide (s.get2 PILOT.SWAP_AT_LO PILOT.SWAP_AT_HI ≤ s.now)

/-- CMD = CANCEL. -/
def doCancel (m : Master) (s : State) : State :=
  s.pilotCommand m (fun s =>
    if s.get PILOT.HO_STATE = 3 ∨ s.swapCome = true then (4, s)
    else if s.handing then (0, s.cancelHandover) else (5, s))

/-- CANCEL. -/
def execCancel (m : Master) (s : State) : Host.Outcome State Fault Refusal := .next (doCancel m s)

/-- A self-test is asked for on a wick: refused unless it is COLD, and under the conditions of R431; it waits for a BIST run that goes on. -/
def State.askTest (s : State) (w : Wick) : State :=
  let n := w.idx
  if s.arb.testing.has n then s
  else if s.bist.isSome then s.setArb { s.arb with retest := s.arb.retest.put n s.base }
  else
    let s := s.setArb { s.arb with retest := s.arb.retest.del n }
    if s.role w ≠ .cold then s.report w 0 2 0
    else if s.bistConditions true = false then
      (s.report w 0 2 0).setArb { (s.report w 0 2 0).arb with retest := s.arb.retest.put n (s.base + secs 600) }
    else
      (((s.setArb { s.arb with testing := s.arb.testing.put n s.base }).set (PILOT.SELFTEST_RUN n) 1).setPd (corePd w) true).setPd
        (radioPd w) true

/-- CMD = SELFTEST_NOW. DEDUCED (log entry 121). -/
def doSelftestNow (m : Master) (w : Wick) (s : State) : State :=
  s.pilotCommand m (fun s =>
    if s.arb.testing.has w.idx ∨ s.bist.isSome then (2, s) else (if s.role w = .cold then 0 else 1, s.askTest w))

/-- SELFTEST_NOW. -/
def execSelftestNow (m : Master) (w : Wick) (s : State) : Host.Outcome State Fault Refusal := .next (doSelftestNow m w s)

/-- The base cycle of a wick's next periodic self-test, once it has been COLD. -/
def State.testDue (s : State) (w : Wick) : Option Nat :=
  let n := w.idx
  match s.arb.testDone.get? n, s.arb.leftAuthor.get? n, s.arb.firstCold.get? n with
  | none, none, some c => some (c + secs 60)
  | none, none, none => none
  | d, l, _ => some (max (d.getD 0) (l.getD 0) + secs (3600 * s.get PILOT.SELFTEST_H))

/-- SELFTEST_DUE: a periodic, post-failover or repeated self-test of a wick. -/
def doSelftestDue (w : Wick) (s : State) : State :=
  match s.arb.retest.get? w.idx with
  | some b => if b ≤ s.base then s.askTest w else s
  | none =>
    match s.testDue w with
    | some b => if b ≤ s.base ∧ s.role w = .cold then s.askTest w else s
    | none => s

/-- SELFTEST_DUE. -/
def execSelftestDue (w : Wick) (s : State) : Host.Outcome State Fault Refusal := .next (doSelftestDue w s)

/-- SELFTEST_REPORT: a self-test that runs ends, with the steps that passed and whether the dry boot was reached. -/
def doSelftestReport (w : Wick) (steps : Nat) (dryRan : Bool) (dur : Nat) (s : State) : State :=
  let n := w.idx
  if s.arb.testing.has n then
    let pass := steps = 31
    let t := s.report w steps (if pass then 0 else 1) dur
    let t := t.setArb { t.arb with testDone := t.arb.testDone.put n s.base }
    let t := if pass then
        (t.set (PILOT.NEEDS_BIST n) 0).setArb { t.arb with failed := t.arb.failed.filter (· ≠ n), soak := t.arb.soak.put n s.base }
      else t.setArb { t.arb with failed := n :: t.arb.failed.filter (· ≠ n) }
    let t := if bit steps 2 then t.set (PILOT.BOOT_FAILS n) 0
      else if dryRan then (t.bump (PILOT.BOOT_FAILS n) 1).set (PILOT.REASON n) 5 else t
    let t := if 3 ≤ t.get (PILOT.BOOT_FAILS n) ∧ t.role w = .cold then t.enter w .failed else t
    t.consider none 0
  else s

/-- SELFTEST_REPORT. -/
def execSelftestReport (w : Wick) (steps : BitVec 5) (dryRan : Bool) (dur : BitVec 16) (s : State) :
    Host.Outcome State Fault Refusal := .next (doSelftestReport w steps.toNat dryRan dur.toNat s)

/-- The wick a self-test runs on. -/
def State.tested (s : State) : Option Wick := [Wick.a, Wick.b].find? (fun w => s.arb.testing.has w.idx)

/-- CMD = HANDOVER; `same` is the end of a self-test that completes in the same cycle: completion wins, and the handover begins after it
(R317). -/
def doHandover (m : Master) (same : Option TestEnd) (s : State) : State :=
  let s := match same, s.tested with
    | some e, some w => doSelftestReport w e.steps.toNat e.dryRan e.dur.toNat s
    | _, _ => s
  s.pilotCommand m (fun s => (s.handoverCode, if s.handoverCode = 0 then s.startHandover 1 false else s))

/-- HANDOVER. DESIGN CHOICE (log entry 6). -/
def execHandover (m : Master) (s : State) (same : Option TestEnd := none) : Host.Outcome State Fault Refusal :=
  .next (doHandover m same s)

/-- A wick is restored: its counts and lasting classes clear and it becomes COLD; it is warmed where no AUTHOR exists, and is
tested otherwise (R333). DEDUCED (log entry 124). -/
def State.restoreWick (s : State) (w : Wick) (trial : Bool) : State :=
  let n := w.idx
  let t := s.setAll [(PILOT.BOOT_FAILS n, 0), (PILOT.SNOW_FAILS n, 0), (PILOT.REASON n, 0), (PILOT.LASTING n, 0), (PILOT.NEEDS_BIST n, 1)]
  if s.role w = .snowdrop then
    (((t.receiverReset 7).enter w .cold).shutWick w).startWick w 4 trial
  else
    let t := if s.role w = .failed then t.enter w .cold else t
    let u := if trial then t else t.consider none 1
    if u.role w = .cold then u.askTest w else u

/-- CMD = RESTORE. -/
def doRestore (m : Master) (w : Wick) (s : State) : State :=
  s.pilotCommand m (fun s =>
    if s.role w = .cold ∨ s.role w = .failed ∨ s.role w = .snowdrop then (0, s.restoreWick w false) else (6, s))

/-- RESTORE. -/
def execRestore (m : Master) (w : Wick) (s : State) : Host.Outcome State Fault Refusal := .next (doRestore m w s)

/-- A wick's metering carries FAULT or no longer does (R323). -/
def State.setMeterFault (s : State) (w : Wick) (v : Bool) : State :=
  let t := (s.set (PILOT.METER_FAULT w.idx) (b2n v)).set (METER.FAULT w) (b2n v)
  if v = false ∧ s.on (PILOT.METER_FAULT w.idx) = true ∧ s.arb.soak.has w.idx = true then
    t.setArb { t.arb with soak := t.arb.soak.put w.idx s.base }
  else t

/-- CMD = FAULT_CLR. -/
def doFaultClr (m : Master) (w : Wick) (s : State) : State :=
  s.pilotCommand m (fun s =>
    (0, (s.set (PILOT.LASTING w.idx) (setBits (s.get (PILOT.LASTING w.idx)) 4 1 0)).setMeterFault w false))

/-- FAULT_CLR. -/
def execFaultClr (m : Master) (w : Wick) (s : State) : Host.Outcome State Fault Refusal := .next (doFaultClr m w s)

/-- CMD = COUNT_CLR. -/
def doCountClr (m : Master) (w : Wick) (s : State) : State :=
  s.pilotCommand m (fun s =>
    (0, (s.setArb { s.arb with buckets := s.arb.buckets.filter (fun c => c.1 / 5 ≠ w.idx) }).showWindows w))

/-- COUNT_CLR. -/
def execCountClr (m : Master) (w : Wick) (s : State) : Host.Outcome State Fault Refusal := .next (doCountClr m w s)

/-! ### Revert, retry, enabling (R309, R328, R332) -/

/-- SOAK_COMPLETE: the preferred wick takes control back once every condition holds. -/
def doSoakComplete (s : State) : State :=
  let p := s.prefWick
  match s.arb.soak.get? p.idx with
  | some b =>
    if s.isAuthor p = false ∧ s.on PILOT.REVERT_INHIBIT = false ∧ s.eligibility p = 0 ∧ b + secs (s.get PILOT.SOAK_S) ≤ s.base ∧
        s.on (PILOT.METER_FAULT p.idx) = false ∧ s.handoverCode = 0 then s.startHandover 2 false
    else s
  | none => s

/-- SOAK_COMPLETE. -/
def execSoakComplete (s : State) : Host.Outcome State Fault Refusal := .next (doSoakComplete s)

/-- RECOVERY_RETRY: with no controller, a recovery start is tried every 600 s, alternating between the wicks. DEDUCED (log entry 116). -/
def doRecoveryRetry (s : State) : State :=
  if s.arb.noController = true ∧ s.arb.tried + secs 600 ≤ s.base ∧ s.controller = none ∧ s.incoming = none then
    let s := s.setArb { s.arb with tried := s.base }
    let first : Wick := if s.arb.triedWick = 0 then .b else .a
    match [first, first.other].find? s.barred with
    | some w => (s.setArb { s.arb with triedWick := w.idx }).startWick w 3 false
    | none => s
  else s

/-- RECOVERY_RETRY. -/
def execRecoveryRetry (s : State) : Host.Outcome State Fault Refusal := .next (doRecoveryRetry s)

/-- WICK_EN of one wick takes a written value, or keeps 1 while the wick is active. -/
def State.enableWick (s : State) (w : Wick) (v : Bool) : State :=
  let r := s.role w
  if v then
    let t := s.set (wickEn w) 1
    if s.on (wickEn w) = false ∧ r = .off then 
      let u := t.enter w (if t.eligibility w = 2 then .failed else .cold)
      if u.power.waiting then u else u.consider none 0
    else t
  else if r = .warming ∨ r.beats then s.set PILOT.CMD_STATUS 1
  else
    let t := s.set (wickEn w) 0
    if r = .off then t else (t.abortTest w).enter w .off

/-- A write of WICK_EN_A and WICK_EN_B. -/
def doWickEnWrite (m : Master) (a b : Bool) (s : State) : State :=
  s.write m 0 0x044 [] (fun s => (s.enableWick .a a).enableWick .b b)

/-- WICK_EN_WRITE. -/
def execWickEnWrite (m : Master) (a b : Bool) (s : State) : Host.Outcome State Fault Refusal := .next (doWickEnWrite m a b s)

/-- A write of REVERT_INHIBIT. -/
def doRevertInhibitWrite (m : Master) (v : Bool) (s : State) : State :=
  s.write m 0 0x044 [] (fun s =>
    let t := s.set PILOT.REVERT_INHIBIT (b2n v)
    if v = true ∧ s.handing = true ∧ s.get PILOT.HO_CAUSE = 2 ∧ s.swapCome = false then t.cancelHandover else t)

/-- REVERT_INHIBIT_WRITE. -/
def execRevertInhibitWrite (m : Master) (v : Bool) (s : State) : Host.Outcome State Fault Refusal := .next (doRevertInhibitWrite m v s)

end Sys2Proof.Machine
end

