-- ==== Sys2Proof/Machine/Compare.lean ====
section
/-! DEFINITION. The comparison of the two wicks' metering: hidden faults in the standby (R322, R323). -/

namespace Sys2Proof.Machine

/-- The seconds that count: both wicks delivered them, and neither carries SETTLING, OVERLOAD, FLL_UNLOCK or TIME_STEP; the last
120 s, the newest first. -/
def State.countedSeconds (s : State) : List (Series × Series) :=
  let a := s.meter.domA.series
  let newest := (a.map Series.second).foldl max ((s.meter.domB.series.map Series.second).foldl max 0)
  a.filterMap (fun x =>
    match s.meter.domB.series.find? (fun y => y.second = x.second) with
    | some y => if newest < x.second + 120 ∧ x.flags &&& 0x113 = 0 ∧ y.flags &&& 0x113 = 0 then some (x, y) else none
    | none => none)

/-- A quantity of the comparison: what it is (0 P, 1 V, 2 I), its phase (0 for the total), its means on both wicks, its floor. -/
structure Quantity where
  kind : Nat
  phase : Nat
  meanA : Rat
  meanB : Rat
  floor : Rat
deriving DecidableEq, Repr

/-- The mean of a quantity over seconds. -/
def meanOf (l : List Series) (f : Series → Int) : Rat := ((l.map f).sum : Rat) / ((l.length : Nat) : Rat)

/-- The quantities compared over some seconds. -/
def State.quantities (s : State) (l : List (Series × Series)) : List Quantity :=
  let a := l.map Prod.fst
  let b := l.map Prod.snd
  let mk := fun (kind phase : Nat) (floor : Rat) (f : Series → Int) =>
    ({ kind := kind, phase := phase, meanA := meanOf a f, meanB := meanOf b f, floor := floor } : Quantity)
  let fl : Rat := ((1000 * s.get PILOT.CMP_FLOOR_W : Nat) : Rat)
  s.phases.map (fun x => mk 0 (x + 1) fl (fun y => y.p.getD x 0)) ++
  [mk 0 0 (fl * ((s.phases.length : Nat) : Rat)) (fun y => y.p.getD 3 0)] ++
  s.phases.map (fun x => mk 1 (x + 1) 0 (fun y => (y.v.getD x 0 : Int))) ++
  s.phases.map (fun x => mk 2 (x + 1) 0 (fun y => (y.i.getD x 0 : Int)))

/-- The magnitude of a ratio. -/
def ratAbs (x : Rat) : Rat := if x < 0 then -x else x

/-- The difference of a quantity's means. -/
def Quantity.diff (q : Quantity) : Rat := ratAbs (q.meanA - q.meanB)

/-- The deviation of a quantity in 0.001 % of the larger mean. -/
def Quantity.dev (q : Quantity) : Rat :=
  let larger := if ratAbs q.meanA < ratAbs q.meanB then ratAbs q.meanB else ratAbs q.meanA
  if larger = 0 then 0 else q.diff / larger * 100000

/-- Whether a quantity makes an excursion: more than 0.5 %, and for power more than its floor. -/
def Quantity.out (q : Quantity) : Bool := decide (500 < q.dev) && (q.kind ≠ 0 || decide (q.floor < q.diff))

/-- The quantity of a list that deviates most. -/
def worst? : List Quantity → Option Quantity
  | [] => none
  | q :: t => match worst? t with
    | some r => if q.dev < r.dev then some r else some q
    | none => some q

/-- The wick an excursion is blamed on (R323). DEDUCED (log entry 103). -/
def State.blame (s : State) : Wick :=
  let bad := fun (w : Wick) => !s.on (METER.FLL_LOCK w) || s.on (METER.CAL_DEFAULT w)
  let ppm := fun (w : Wick) => (toSigned 16 (s.get (PILOT.REF_DEV_PPM w.idx))).natAbs
  if bad .a && !bad .b then .a
  else if bad .b && !bad .a then .b
  else if ppm .b + 200 ≤ ppm .a then .a
  else if ppm .a + 200 ≤ ppm .b then .b
  else s.cw.other

/-- An excursion begins: it is counted under METER_CMP and logged, and the blamed wick's metering carries FAULT. -/
def State.excursionBegins (s : State) (q : Quantity) : State :=
  let w := s.blame
  let t := s.setArb { s.arb with excursion := true, blamed := w.idx :: s.arb.blamed.filter (· ≠ w.idx), absent := 0 }
  let t := (t.setMeterFault w true).countFault w 4 1
  (t.event s.srcCtl 0x0510 [q.kind, q.phase, (quant q.dev).toNat]).raise 0 5

/-- METER_COMPARE: the controller compares the series, with the deviation of each converter reference in ppm. DEDUCED (log entry 103). -/
def doMeterCompare (refA refB : Nat) (s : State) : State :=
  let s := (s.set (PILOT.REF_DEV_PPM 0) refA).set (PILOT.REF_DEV_PPM 1) refB
  let l := s.countedSeconds
  match l with
  | [] => s
  | (newest, _) :: _ =>
    if s.controllerRuns = false ∨ s.arb.cmpSecond = some newest.second then s
    else
      let fresh := (l.filter (fun x => match s.arb.cmpSecond with
        | some n => decide (n < x.1.second)
        | none => true)).length
      let s := s.setArb { s.arb with cmpSecond := some newest.second }
      if l.length < 60 then s
      else
        let qs := s.quantities (l.take 60)
        let dev := match worst? qs with
          | some q => min (quant q.dev).toNat 0xFFFF
          | none => 0
        let s := (s.set (PILOT.CMP_DEV 0) dev).set (PILOT.CMP_DEV 1) dev
        match worst? (qs.filter Quantity.out) with
        | some q => if s.arb.excursion then s.setArb { s.arb with absent := 0 } else s.excursionBegins q
        | none =>
          let n := s.arb.absent + fresh
          let t := s.setArb { s.arb with excursion := false, absent := n }
          if n < 60 then t
          else ([Wick.a, Wick.b].filter (fun w => s.arb.blamed.contains w.idx && !bit (s.get (PILOT.LASTING w.idx)) 4)).foldl
            (fun (u : State) w =>
              let u := u.setMeterFault w false
              u.setArb { u.arb with blamed := u.arb.blamed.filter (· ≠ w.idx) }) t

/-- METER_COMPARE. -/
def execMeterCompare (refA refB : BitVec 16) (s : State) : Host.Outcome State Fault Refusal :=
  .next (doMeterCompare refA.toNat refB.toNat s)

end Sys2Proof.Machine
end

