-- ==== Sys2Proof/Machine/Time.lean ====
section
/-! DEFINITION. Segment time: its sources, GNSS, the PTP boundary clock, trust, steps and slews (R350 to R355, R358). -/

namespace Sys2Proof.Machine

/-- The clock takes a value. -/
def State.setClock (s : State) (x : Clock) : State := { s with clock := x }

/-- EPOCH_S. -/
def State.epochS (s : State) : Nat := s.get2 TIME.EPOCH_S_LO TIME.EPOCH_S_HI

/-! ### Steps and trust (R353, R354) -/

/-- Segment time steps by a number of ticks. -/
def State.stepTime (s : State) (ticks : Int) : State :=
  let v := ofSigned 48 ticks
  (((s.meterStep (ofSigned 48 ((s.now : Int) + ticks))).bump TIME.STEP_CNT 1).event srcPilot 0x0903 [v % 2 ^ 24, v / 2 ^ 24]).raise 0xD 1

/-- Whether segment time is to be trusted (R353). -/
def State.trustHolds (s : State) : Bool :=
  let src := s.get TIME.SOURCE
  src = 0 || src = 2 || (src = 1 && decide (s.get TIME.GM_CLASS ≤ 13)) ||
    (3 ≤ src && decide (s.get TIME.ERR_US ≤ 1000 * s.get TIME.TRUST_LIMIT_MS))

/-- The module's own clockClass (R351). DEDUCED (log entry 126). -/
def State.ownClass (s : State) : Nat :=
  if s.on TIME.TRUSTED = false then 248 else if s.get TIME.SOURCE = 0 then 6 else if s.get TIME.SOURCE = 3 then 13 else 7

/-- Trust is judged: a change of it is shown, raised, counted and logged. DEDUCED (log entry 126). -/
def State.judgeTrust (s : State) : State :=
  let v := s.trustHolds
  let t := if v = s.on TIME.TRUSTED then s
    else
      let t := ((s.set TIME.TRUSTED (b2n v)).set TIME.UTC_VALID (b2n v)).raise 0xD 0
      let t := t.event srcPilot (if v then 0x0901 else 0x0902) [s.get TIME.SOURCE]
      if v then t else t.bump TIME.TRUST_LOSS_CNT 1
  t.set TIME.CLOCK_CLASS t.ownClass

/-! ### The best master clock algorithm (R351) -/

/-- What two announced clocks are compared by, the more significant first; the lower is better. -/
def clockRank (x : Announce) : List Nat := [x.prio1, x.cls, x.accuracy, x.variance, x.prio2, x.gm, x.steps, x.sender]

/-- Whether a list of numbers comes before another. -/
def before : List Nat → List Nat → Bool
  | a :: t, b :: u => decide (a < b) || (a = b && before t u)
  | _, _ => false

/-- MOD_UID. -/
def State.uid (s : State) : Nat := s.get2 (FABRIC.MOD_UID_LO s.cw) (FABRIC.MOD_UID_HI s.cw)

/-- This module's own clock. While PTP is its source its time is the grandmaster's, and it offers class 248. -/
def State.ownClock (s : State) : Announce :=
  { prio1 := s.get TIME.PRIO1, cls := if s.get TIME.SOURCE = 1 then 248 else s.ownClass, accuracy := 0xFE, variance := 0xFFFF, prio2 := 128
    gm := s.uid, steps := 0, utcOff := 0, utcValid := false, sender := s.uid }

/-- A PTP port that is off. -/
def PtpPort.off : PtpPort :=
  { state := 0, foreign := none, last := 0, before := none, sync := none, t1 := none, t3 := none, delay := none, sent := [] }

/-- A PTP port. -/
def State.port (s : State) (p : Nat) : PtpPort := s.clock.ports.getD p PtpPort.off

/-- A PTP port takes a value. -/
def State.setPort (s : State) (p : Nat) (x : PtpPort) : State := s.setClock { s.clock with ports := s.clock.ports.put p x }

/-- Whether a backbone port is on: the fabric and the port are enabled, PD11 is on (R342, R363). -/
def State.portOn (s : State) (p : Nat) : Bool :=
  s.on (HDR.ENABLE (s.cw.page 0xB)) && s.on (if p = 0 then FABRIC.P0_EN s.cw else FABRIC.P1_EN s.cw) && s.pdOn 11

/-- Whether a backbone port carries frames: it is on and not in CONFLICT (R342). -/
def State.portRuns (s : State) (p : Nat) : Bool := s.portOn p && !s.fab.conflicts.has p

/-- The foreign master of a port, where two of its Announces have come within 8 s and it is no clock of this module. -/
def State.foreign (s : State) (p : Nat) : Option Announce :=
  match (s.port p).foreign, (s.port p).before with
  | some x, some b => if (s.port p).last ≤ b + secs 8 ∧ x.steps < 255 ∧ x.gm ≠ s.uid then some x else none
  | _, _ => none

/-- The port with the best foreign master. -/
def State.bestPort (s : State) : Option (Nat × Announce) :=
  match s.foreign 0, s.foreign 1 with
  | some x, some y => if before (clockRank y) (clockRank x) then some (1, y) else some (0, x)
  | some x, none => some (0, x)
  | none, some y => some (1, y)
  | none, none => none

/-- The state a port takes under the standard's state decision algorithm. -/
def State.portState (s : State) (p : Nat) : Nat :=
  let own := s.ownClock
  if s.portRuns p = false then 0
  else if own.cls < 128 then
    (match s.foreign p with
     | some x => if before (clockRank x) (clockRank own) then 4 else 2
     | none => 2)
  else match s.bestPort with
    | some (q, x) => if before (clockRank own) (clockRank x) then 2 else if p = q then 3 else if (s.foreign p).isSome then 4 else 2
    | none => 2

/-- The port states are set; a port that is no longer SLAVE forgets what it measured. -/
def State.evaluatePorts (s : State) : State :=
  let t := [0, 1].foldl (fun (t : State) p =>
    let n := s.portState p
    t.setPort p (if n = 3 then { s.port p with state := n } else { s.port p with state := n, sync := none, t1 := none, t3 := none, delay := none })) s
  if t.clock.ports.any (fun c => c.2.state = 3) then t else t.setClock { t.clock with ptpOff := none }

/-- The SLAVE port, if there is one. -/
def State.slavePort (s : State) : Option Nat := ([0, 1] : List Nat).find? (fun p => (s.port p).state = 3)

/-! ### PTP messages (R351) -/

/-- The timer of a port's Announce receipt. -/
def tmAnnounce (p : Nat) : Nat := 140 + p

/-- A SLAVE port measures: the offset of its master, once a Sync, its time and the path delay are known. -/
def State.measure (s : State) (p : Nat) : State :=
  match (s.port p).sync, (s.port p).t1, (s.port p).delay with
  | some (_, t2), some t1, some d => s.setClock { s.clock with ptpOff := some (t1 + d - t2) }
  | _, _, _ => s

/-- PTP_MESSAGE_RECEIVED. A MASTER port answers a Delay_Req with a Delay_Resp of its sequence number. DEDUCED (log entry 126). -/
def doPtpMessageReceived (p : Nat) (m : PtpMsg) (s : State) : State :=
  let x := s.port p
  let ours := fun (d : Nat) => d = s.get TIME.DOMAIN
  if s.portRuns p = false then s
  else match m with
  | .announce d a =>
    if ours d then
      let same : Bool := match x.foreign with
        | some y => decide (y.sender = a.sender)
        | none => false
      let better : Bool := match x.foreign with
        | some y => before (clockRank a) (clockRank y)
        | none => true
      if same || better then
        ((s.setPort p { x with foreign := some a, before := if same then some x.last else none, last := s.base }).arm (tmAnnounce p) (secs 6)).evaluatePorts
      else s
    else s
  | .sync d seq two t1 t2 =>
    if ours d = true ∧ x.state = 3 then (s.setPort p { x with sync := some (seq, t2), t1 := if two then none else some t1 }).measure p else s
  | .followUp d seq t1 =>
    if ours d = true ∧ x.state = 3 ∧ x.sync.map Prod.fst = some seq then (s.setPort p { x with t1 := some t1 }).measure p else s
  | .delayResp d seq t4 =>
    (match x.t3, x.sync, x.t1 with
     | some (q, t3), some (_, t2), some t1 =>
       if ours d = true ∧ x.state = 3 ∧ q = seq then
         (s.setPort p { x with delay := some (((t2 - t1) + (t4 - t3)) / 2), t3 := none }).measure p
       else s
     | _, _, _ => s)
  | .delayReq d q => if ours d = true ∧ x.state = 2 then s.setPort p { x with sent := x.sent.put 3 (q, s.base) } else s
  | .other => s

/-- PTP_MESSAGE_RECEIVED. -/
def execPtpMessageReceived (p : Fin 2) (m : PtpMsg) (s : State) : Host.Outcome State Fault Refusal := .next (doPtpMessageReceived p.val m s)

/-- PTP_MESSAGE_SEND: a port sends a message whose interval has passed: Sync every second and Announce every 2 s on a MASTER port,
Delay_Req every second on a SLAVE port, with its time stamp in ns. DEDUCED (log entry 126). -/
def doPtpMessageSend (p : Nat) (k : PtpTx) (t3 : Int) (s : State) : State :=
  let x := s.port p
  let (key, state, span) := match k with
    | .sync => (0, 2, 1)
    | .announce => (1, 2, 2)
    | .delayReq => (2, 3, 1)
  let (seq, due) := match x.sent.get? key with
    | some (n, b) => ((n + 1) % 2 ^ 16, b + secs span)
    | none => (0, 0)
  if s.portRuns p = true ∧ x.state = state ∧ due ≤ s.base then
    let x := { x with sent := x.sent.put key (seq, s.base) }
    s.setPort p (match k with
      | .delayReq => { x with t3 := some (seq, t3) }
      | _ => x)
  else s

/-- PTP_MESSAGE_SEND. -/
def execPtpMessageSend (p : Fin 2) (k : PtpTx) (t3 : BitVec 64) (s : State) : Host.Outcome State Fault Refusal :=
  .next (doPtpMessageSend p.val k t3.toInt s)

/-- A port loses its foreign master. -/
def State.dropForeign (s : State) (p : Nat) : State :=
  ((s.setPort p { s.port p with foreign := none, before := none }).disarm (tmAnnounce p)).evaluatePorts

/-- ANNOUNCE_RECEIPT_TIMEOUT. -/
def execAnnounceReceiptTimeout (p : Fin 2) (s : State) : Host.Outcome State Fault Refusal :=
  .next (if s.due (tmAnnounce p.val) then s.dropForeign p.val else s)

/-! ### GNSS (R352) -/

/-- The GNSS input takes a value. -/
def State.setGnss (s : State) (x : Gnss) : State := s.setClock { s.clock with gnss := x }

/-- GNSS_PPS_EDGE: an edge some µs after the one before it, some ns into a tick. -/
def doGnssPpsEdge (us ns : Nat) (s : State) : State :=
  if s.on TIME.GNSS_EN then
    let g := s.clock.gnss
    let inTime := decide (999900 ≤ us ∧ us ≤ 1000100) && g.edge.isSome
    let t := if g.edge.isSome ∧ inTime = false then s.bump TIME.PPS_MISS_CNT 1 else s
    t.setGnss { g with edge := some s.base, edgeAt := s.now, edgeNs := ns, named := false, run := if inTime && g.named then g.run else 0 }
  else s

/-- GNSS_PPS_EDGE. -/
def execGnssPpsEdge (us : Word) (ns : BitVec 15) (s : State) : Host.Outcome State Fault Refusal := .next (doGnssPpsEdge us.toNat ns.toNat s)

/-- NMEA_SENTENCE: an RMC or ZDA sentence with its checksum judged, the UTC second it names, and RMC's status. -/
def doNmeaSentence (rmc sumOk : Bool) (utc : Nat) (statusA : Bool) (s : State) : State :=
  let g := s.clock.gnss
  if s.on TIME.GNSS_EN = false then s
  else if sumOk = false then s.bump TIME.GNSS_ERR_CNT 1
  else
    let g := if rmc then { g with statusA := statusA } else g
    match g.edge with
    | none => s.setGnss g
    | some e =>
      if s.base < e + millis 10 ∨ e + millis 950 < s.base then s.setGnss g
      else
        let agrees := match g.name with
          | some n => decide (utc = if g.named then n else n + 1)
          | none => true
        let t := if agrees then s else s.bump TIME.GNSS_ERR_CNT 1
        let run := if agrees then (if g.named then g.run else g.run + 1) else 0
        let g := { g with named := true, name := some utc, run := run, agreed := if agrees then s.base else g.agreed
                          valid := g.valid || (decide (10 ≤ run) && g.statusA) }
        let true_ : Int := ((utc : Int) + (s.get TIME.LEAP_S : Int) - (s.epochS : Int)) * 32768
        let off : Int := (true_ - (g.edgeAt : Int)) * 1953125 / 64 - (g.edgeNs : Int)
        (t.setGnss g).setClock { t.clock with gnss := g, gnssOff := if agrees then some off else t.clock.gnssOff }

/-- NMEA_SENTENCE. -/
def execNmeaSentence (rmc sumOk : Bool) (utc : BitVec 48) (statusA : Bool) (s : State) : Host.Outcome State Fault Refusal :=
  .next (doNmeaSentence rmc sumOk utc.toNat statusA s)

/-- GNSS_LOSS: 3 s without an edge or without agreement. -/
def doGnssLoss (s : State) : State :=
  let g := s.clock.gnss
  if g.valid ∧ (g.edge.getD 0 + secs 3 ≤ s.base ∨ g.agreed + secs 3 ≤ s.base) then
    (s.setClock { s.clock with gnss := { g with valid := false, run := 0 }, gnssOff := none }).raise 0xD 4
  else s

/-- GNSS_LOSS. -/
def execGnssLoss (s : State) : Host.Outcome State Fault Refusal := .next (doGnssLoss s)

/-! ### Choosing a source (R353, R354) -/

/-- The air-link neighbour that may give time: TRUSTED, its SOURCE not AIR, the lowest CLOCK_CLASS, then the lowest address. -/
def State.airSource (s : State) : Option Neighbour :=
  leastOn? (fun n => n.clockClass * 65536 + n.addr)
    (s.fab.neighbours.filter (fun n => n.up && n.link = 2 && bit n.tflags 0 && bits n.tflags 1 3 != 2 && s.clock.airOff.has n.addr))

/-- The source whose rule holds first: 0 GNSS, 1 PTP, 2 AIR, 3 HOST, 4 HOLDOVER. -/
def State.pickSource (s : State) : Nat :=
  if s.on (HDR.ENABLE 0xD) = false then 4
  else if s.clock.gnss.valid then 0
  else if s.slavePort.isSome then 1
  else if s.airSource.isSome then 2
  else if s.get TIME.SOURCE = 3 then 3 else 4

/-- The last offset of a source in ns. -/
def State.offsetOf (s : State) (src : Nat) : Option Int :=
  if src = 0 then s.clock.gnssOff
  else if src = 1 then s.clock.ptpOff
  else if src = 2 then (match s.airSource with
    | some n => s.clock.airOff.get? n.addr
    | none => none)
  else none

/-- The registers that describe the grandmaster and the offset from UTC. -/
def State.showMaster (s : State) (src : Nat) : State :=
  match src, s.slavePort with
  | 1, some p =>
    let x := (s.port p).foreign.getD s.ownClock
    ((s.setAll [(TIME.GM_CLASS, x.cls), (TIME.STEPS_REMOVED, x.steps + 1), (TIME.SLAVE_PORT, p + 1),
      (TIME.UTC_OFF_S, if x.utcValid then x.utcOff else s.get TIME.LEAP_S), (TIME.OFF_FROM_GM, b2n x.utcValid)])).set2 TIME.GM_ID_LO TIME.GM_ID_HI x.gm
  | n, _ => s.setAll [(TIME.SLAVE_PORT, if n = 2 then 3 else 0), (TIME.UTC_OFF_S, s.get TIME.LEAP_S), (TIME.OFF_FROM_GM, 0)]

/-- A source is chosen; a new one sets its error bound (R353). -/
def State.chooseSource (s : State) : State :=
  let old := s.get TIME.SOURCE
  let src := s.pickSource
  let t := s.showMaster src
  let t := if src = old then t
    else
      let t := (t.set TIME.SOURCE src).raise 0xD 2
      let t := t.setClock { t.clock with aligned := false, wasTrusted := s.on TIME.TRUSTED }
      if src = 0 then t.set TIME.ERR_US 1
      else if src = 1 then t.set TIME.ERR_US (10 * t.get TIME.STEPS_REMOVED)
      else if src = 2 then t.set TIME.ERR_US 200
      else t
  t.judgeTrust

/-- Segment time follows its source over some seconds: a step, or a slew of at most 20 ppm (R354). -/
def State.follow (s : State) (n : Nat) : State :=
  let src := s.get TIME.SOURCE
  match s.offsetOf src with
  | none => s
  | some off =>
    let s := s.set TIME.OFFSET_NS (ofSigned 32 (if off < -(2 ^ 31 - 1) then -(2 ^ 31 - 1) else if 2 ^ 31 - 1 < off then 2 ^ 31 - 1 else off))
    let used := fun (t : State) (x : Int) => t.setClock { t.clock with
      aligned := true
      gnssOff := if src = 0 then some x else t.clock.gnssOff
      ptpOff := if src = 1 then some x else t.clock.ptpOff
      airOff := match src, t.airSource with
        | 2, some a => t.clock.airOff.put a.addr x
        | _, _ => t.clock.airOff }
    if 1000 * s.get TIME.STEP_US ≤ off.natAbs ∨ (s.clock.aligned = false ∧ s.clock.wasTrusted = false) then
      let ticks : Int := (2 * off * 64 + 1953125) / (2 * 1953125)
      used (if ticks = 0 then s else s.stepTime ticks) 0
    else
      let most : Int := 20000 * (n : Int)
      let adj : Int := if off < -most then -most else if most < off then most else off
      let sum : Int := s.clock.part + adj * 64
      let ticks : Int := sum / 1953125
      let t := used s (off - adj)
      { t.setClock { t.clock with part := sum - ticks * 1953125 } with now := ofSigned 48 ((s.now : Int) + ticks) }

/-- TIME_SOURCE_SELECT: once a second. While no source disciplines the base, the error bound grows. -/
def doTimeSourceSelect (s : State) : State :=
  let n := (s.base - s.clock.chosen) / 32768
  if n = 0 then s
  else
    let t := s.setClock { s.clock with chosen := s.clock.chosen + secs n }
    let rate := if s.on PWR.TCXO_RUN then 2 else 20
    let t := if 3 ≤ s.get TIME.SOURCE then t.bump TIME.ERR_US (rate * n) else t
    let t := (t.evaluatePorts.chooseSource).follow n
    if t.get TIME.SOURCE < 3 ∧ t.on PWR.TCXO_RUN = true then
      let (r, t) := t.draw
      t.set TIME.TRIM_PPB (r % 2 ^ 32)
    else t

/-- TIME_SOURCE_SELECT. -/
def execTimeSourceSelect (s : State) : Host.Outcome State Fault Refusal := .next (doTimeSourceSelect s)

/-! ### Writes (R350, R355) -/

/-- A write of EPOCH_S steps segment time by the change. -/
def doEpochSWrite (m : Master) (v : Nat) (s : State) : State :=
  s.write m 0xD 0x044 [] (fun s =>
    let d : Int := ((s.epochS : Int) - (v : Int)) * 32768
    let t := s.set2 TIME.EPOCH_S_LO TIME.EPOCH_S_HI v
    if d = 0 then t else t.stepTime d)

/-- EPOCH_S_WRITE. -/
def execEpochSWrite (m : Master) (v : BitVec 48) (s : State) : Host.Outcome State Fault Refusal := .next (doEpochSWrite m v.toNat s)

/-- TIME_SET: the present UTC is SET_UTC_S. `gained`: GNSS, PTP or AIR becomes the source in the cycle of the write, which refuses it. -/
def doTimeSet (m : Master) (gained : Bool) (s : State) : State :=
  s.write m 0xD 0x008 (if m = .hostS ∨ m = .remote then [] else [0x1]) (fun s =>
    if gained = true ∨ s.pickSource ≤ 2 ∨ s.get TIME.SOURCE ≤ 2 then s.set TIME.SET_STATUS 1
    else
      let utc := s.get2 TIME.SET_UTC_S_LO TIME.SET_UTC_S_HI
      let want : Int := ((utc : Int) + (s.get TIME.UTC_OFF_S : Int) - (s.epochS : Int)) * 32768
      let t := s.stepTime (want - (s.now : Int))
      let t := t.setAll [(TIME.SET_STATUS, 0), (TIME.ERR_US, 1000 * s.get TIME.SET_ERR_MS)]
      let t := if s.on (HDR.ENABLE 0xD) = true ∧ s.get TIME.SOURCE ≠ 3 then (t.set TIME.SOURCE 3).raise 0xD 2 else t
      t.judgeTrust)

/-- TIME_SET. DESIGN CHOICE (log entry 6). -/
def execTimeSet (m : Master) (s : State) (gained : Bool := false) : Host.Outcome State Fault Refusal := .next (doTimeSet m gained s)

end Sys2Proof.Machine
end

