-- ==== Sys2Proof/Machine/Fabric.lean ====
section
/-! DEFINITION. The Camrus fabric: frames, neighbours, link-state routes, forwarding, event forwarding, the gateway's side of remote page access (R337 to R349, R356, R357). -/

namespace Sys2Proof.Machine

/-- The fabric takes a value. -/
def State.setFab (s : State) (x : Fab) : State := { s with fab := x }

/-- Whether the fabric engine runs: in the wick that holds AUTHOR or SNOWDROP, while ENABLE is 1. -/
def State.fabRuns (s : State) : Bool := s.controllerRuns && s.on (HDR.ENABLE (s.cw.page 0xB))

/-- Whether the vault holds a fabric key (R339). -/
def State.fabKeyed (s : State) : Bool := s.keys.has 1

/-- FAB_ADDR. -/
def State.fabAddr (s : State) : Nat := s.get (FABRIC.FAB_ADDR s.cw)

/-- Whether the module takes part in routing: it has an address that no conflict has taken from it (R337, R338). -/
def State.routes (s : State) : Bool := s.fabRuns && s.fabAddr != 0 && !s.on (FABRIC.ADDR_CONFLICT s.cw)

/-! ### Frames (R337, R339 to R341) -/

/-- The MAC address of a module on both ports. DEDUCED (log entry 127). -/
def macOf (uid : Nat) : List Byte := leBytes 1 2 ++ beBytes 5 uid

/-- The group address of the fabric. -/
def fabGroup : List Byte := [0x03, 0xC4, 0, 0, 0, 1]

/-- The nonce of a backbone frame. -/
def fabNonce (cnt lver uid : Nat) : List Byte := leBytes 4 cnt ++ leBytes 1 lver ++ leBytes 8 uid

/-- A backbone frame of a wick. DEDUCED (log entry 127). -/
def State.fabFrame (s : State) (w : Wick) (m : FabMsg) : List Byte :=
  let cnt := s.link.fabCnt.getD w.idx 0
  let lver := 16 * w.idx
  let aad := leBytes 1 lver ++ leBytes 1 m.ltype ++ leBytes 2 s.fabAddr ++ leBytes 4 cnt ++ leBytes 2 m.odest ++ leBytes 2 m.osrc ++
    leBytes 2 (m.hops % 2048) ++ leBytes 2 m.body.length
  fabGroup ++ macOf s.uid ++ beBytes 2 (s.get (FABRIC.ETHERTYPE w)) ++ aad ++
  ccmSeal (s.slotKey 1) (fabNonce cnt lver s.uid) aad m.body

/-- A message goes out on a backbone port, under the next value of the wick's fabric counter. -/
def State.sendPort (s : State) (p : Nat) (m : FabMsg) : State :=
  if s.portRuns p && s.fabKeyed then
    let t := s.setFab { s.fab with sent := s.fab.sent.put p (s.fabFrame s.cw m) }
    t.takeFabCnt s.cw
  else s

/-- The channel air-link frames are sent on: the first that carries AIRLINK. -/
def Bank.airChan (b : Bank) : Option Nat := b.chans.find? (fun c => (b.chan c).airlink)

/-- A message is asked of the ledger for the air link: none where the transmitter is not free or the ledger refuses, so that it is tried
again; a message that the air link cannot carry is dropped. -/
def State.sendAir (s : State) (dest : Nat) (m : FabMsg) : Option State :=
  match s.active.airChan with
  | none => some s
  | some c =>
    let w := s.cw
    if s.linkOn w = false ∨ s.on (FABRIC.AIR_EN w) = false ∨ s.fabKeyed = false ∨ 217 < m.body.length then some s
    else if s.radioFree w = false ∨ (s.grant? w).isSome then none
    else
      let f : OutFrame :=
        { ty := 0xF, dest := dest, seq := 0, retry := 0, ackReq := false, copy := false, keySel := 0, nodeId := 0, joinKey := [], ttl := 0
          payload := leBytes 1 m.ltype ++ leBytes 2 m.odest ++ leBytes 2 m.osrc ++ leBytes 2 (m.hops % 2048) ++ m.body }
      let r : Req := { channel := c, cls := 1, psdu := f.psduLen, wake := 0, air := true }
      let (code, t) := s.askLedger w r
      if code = 0 then some (t.holdGrant w (t.grantOf r (some f) .air false)) else none

/-- The last counter accepted from a sender is at least a value: the frame is not taken (R340). -/
def State.fabStale (s : State) (uid txw cnt : Nat) : Bool :=
  match s.fab.counters.get? (2 * uid + txw) with
  | some c => decide (cnt ≤ c)
  | none => false

/-- A frame's counter is accepted. -/
def State.fabCounted (s : State) (uid txw cnt : Nat) : State :=
  s.setFab { s.fab with counters := s.fab.counters.put (2 * uid + txw) cnt }

/-- A frame that arrives on a backbone port is checked, and its message taken out (R339, R340); a port in CONFLICT only hears hellos (R342). -/
def State.takeFrame (s : State) (x : FabRx) : Option FabMsg × State :=
  let num := fun (off n : Nat) => leNat ((x.frame.drop off).take n)
  let uid := x.uid.toNat
  let lver := num 14 1
  let cnt := num 18 4
  let len := num 28 2
  let da := x.frame.take 6
  if s.fabRuns = false ∨ s.portOn x.port.val = false ∨ (s.fab.conflicts.has x.port.val = true ∧ num 15 1 ≠ 1) ∨
      s.fabKeyed = false ∨ (da ≠ fabGroup ∧ da ≠ macOf s.uid) ∨
      leNat ((x.frame.drop 12).take 2).reverse ≠ s.get (FABRIC.ETHERTYPE s.cw) ∨ lver % 16 ≠ 0 ∨ 1400 < len ∨ x.frame.length < 38 + len then (none, s)
  else
    match ccmOpen (s.slotKey 1) (fabNonce cnt lver uid) ((x.frame.drop 14).take 16) ((x.frame.drop 30).take (len + 8)) with
    | none => (none, s.bump (FABRIC.RX_AUTH_ERR s.cw) 1)
    | some body =>
      if s.fabStale uid (bits lver 4 1) cnt then (none, s.bump (FABRIC.RX_AUTH_ERR s.cw) 1)
      else
        (some { ltype := num 15 1, odest := num 22 2, osrc := num 24 2, hops := num 26 2 % 2048, body := body, via := some (x.port.val, num 16 2) },
         s.fabCounted uid (bits lver 4 1) cnt)

/-! ### The link-state database (R338, R344) -/

/-- The body of an LSA. -/
def Lsa.bytes (l : Lsa) : List Byte :=
  leBytes 8 l.uid ++ leBytes 2 l.addr ++ leBytes 2 l.seg ++ leBytes 4 l.seq ++ leBytes 1 (b2n l.withdrawn) ++ leBytes 1 l.links.length ++
  l.links.flatMap (fun k => leBytes 2 k.1 ++ leBytes 1 k.2.1 ++ leBytes 1 k.2.2)

/-- The LSA a body spells. -/
def parseLsa (b : List Byte) (base : Nat) : Lsa :=
  let num := fun (off n : Nat) => leNat ((b.drop off).take n)
  { uid := num 0 8, addr := num 8 2, seg := num 10 2, seq := num 12 4, withdrawn := bit (num 16 1) 0
    links := (List.range (min (num 17 1) ((b.length - 18) / 4))).map (fun k => (num (18 + 4 * k) 2, num (20 + 4 * k) 1, num (21 + 4 * k) 1))
    since := base }

/-- The neighbours that are UP. -/
def State.upNeighbours (s : State) : List Neighbour := s.fab.neighbours.filter Neighbour.up

/-- An LSA is flooded on every link but one. -/
def State.flood (s : State) (except : Option Nat) (l : Lsa) : State :=
  let m := fun (via : Nat × Nat) => ({ ltype := 2, odest := 0xFFFF, osrc := l.addr, hops := 0, body := l.bytes, via := some via } : FabMsg)
  let ports := ([0, 1] : List Nat).filter (fun p => s.portRuns p && except != some p)
  let air := if except = some 2 then [] else s.upNeighbours.filter (fun n => n.link = 2)
  s.setFab { s.fab with queue := s.fab.queue ++ ports.map (fun p => m (p, 0xFFFF)) ++ air.map (fun n => m (2, n.addr)) }

/-- The timer of the next periodic LSA. -/
def tmLsa : Nat := 145

/-- This module's LSA as it stands now. -/
def State.ownLsa (s : State) : Lsa :=
  { uid := s.uid, addr := s.fabAddr, seg := s.get (FABRIC.SEG_ID s.cw), seq := s.fab.lsaSeq, withdrawn := false
    links := (s.upNeighbours.filter (fun n => n.addr ≠ 0)).map
      (fun n => (n.addr, if n.link = 2 then s.get (FABRIC.AIR_COST s.cw) else 1, b2n (n.link = 2)))
    since := s.base }

/-- The database holds an LSA, in place of an older one of its origin. -/
def State.storeLsa (s : State) (l : Lsa) : State :=
  s.setFab { s.fab with lsas := l :: s.fab.lsas.filter (fun x => x.uid ≠ l.uid), stale := true }

/-- The module originates an LSA. -/
def State.originate (s : State) : State :=
  if s.routes then
    let t := s.setFab { s.fab with lsaSeq := s.fab.lsaSeq + 1 }
    let l := t.ownLsa
    ((t.storeLsa l).flood none l).arm tmLsa (secs 900)
  else s

/-- The module withdraws its LSA, if it has one (R337, R338). -/
def State.withdraw (s : State) : State :=
  match s.fab.lsas.find? (fun x => x.uid = s.uid && !x.withdrawn) with
  | none => s
  | some l =>
    let l := { l with seq := s.fab.lsaSeq + 1, withdrawn := true, links := [], since := s.base }
    ((s.setFab { s.fab with lsaSeq := s.fab.lsaSeq + 1 }).storeLsa l).flood none l

/-- Conflicts over this module's address and segment are judged: the lower MOD_UID keeps them (R338). DEDUCED (log entry 133). -/
def State.judgeConflicts (s : State) : State :=
  let w := s.cw
  let rival := fun (f : Lsa → Bool) => s.fab.lsas.any (fun l => !l.withdrawn && decide (l.uid < s.uid) && f l)
  let t := if s.fabAddr ≠ 0 ∧ s.on (FABRIC.ADDR_CONFLICT w) = false ∧ rival (fun l => l.addr = s.fabAddr) = true then
      (s.withdraw.set (FABRIC.ADDR_CONFLICT w) 1).raise (w.page 0xB) 3
    else s
  if s.get (FABRIC.SEG_ID w) ≠ 0xFFFF ∧ s.on (FABRIC.SEG_CONFLICT w) = false ∧ rival (fun l => l.seg = s.get (FABRIC.SEG_ID w)) = true then
    (t.set (FABRIC.SEG_CONFLICT w) 1).raise (w.page 0xB) 3
  else t

/-- A write of FAB_ADDR and SEG_ID: the old LSA is withdrawn and a new one originated (R337). DEDUCED (log entry 133). -/
def doFabAddrWrite (m : Master) (w : Wick) (addr seg : Nat) (s : State) : State :=
  s.write m (w.page 0xB) 0x040 (s.controlCode w) (fun s =>
    let t := s.withdraw.store (FABRIC.FAB_ADDR w) (if 1 ≤ addr ∧ addr ≤ 0x400 then addr else 0)
    let t := (t.store (FABRIC.SEG_ID w) seg).setAll [(FABRIC.ADDR_CONFLICT w, 0), (FABRIC.SEG_CONFLICT w, 0)]
    t.judgeConflicts.originate)

/-- FAB_ADDR_WRITE. -/
def execFabAddrWrite (m : Master) (w : Wick) (addr seg : BitVec 16) (s : State) : Host.Outcome State Fault Refusal :=
  .next (doFabAddrWrite m w addr.toNat seg.toNat s)

/-- LSA_ORIGINATE. -/
def execLsaOriginate (s : State) : Host.Outcome State Fault Refusal :=
  .next (if s.due tmLsa || !s.armed tmLsa then s.originate else s)

/-- An LSA that arrives: a newer one is stored and flooded (R344). -/
def State.takeLsa (s : State) (m : FabMsg) (link : Nat) : State :=
  let l := parseLsa m.body s.base
  let newer : Bool := match s.fab.lsas.find? (fun x => x.uid = l.uid) with
    | some x => decide (x.seq < l.seq)
    | none => true
  if decide (l.uid = s.uid) || !newer then s else ((s.storeLsa l).flood (some link) l).judgeConflicts

/-- LSA_RECEIVED. -/
def execLsaReceived (x : FabRx) (s : State) : Host.Outcome State Fault Refusal :=
  .next (match s.takeFrame x with
    | (some m, t) => if m.ltype = 2 then t.takeLsa m x.port.val else t
    | (none, t) => t)

/-- LSA_EXPIRE: an LSA not refreshed for 3,600 s is discarded. -/
def doLsaExpire (s : State) : State :=
  let l := s.fab.lsas.filter (fun x => x.uid = s.uid || decide (s.base < x.since + secs 3600))
  if l.length = s.fab.lsas.length then s else s.setFab { s.fab with lsas := l, stale := true }

/-- LSA_EXPIRE. -/
def execLsaExpire (s : State) : Host.Outcome State Fault Refusal := .next (doLsaExpire s)

/-- A DB_REQUEST is answered with every LSA held. -/
def State.answerDb (s : State) (link addr : Nat) : State :=
  let m := fun (l : Lsa) => ({ ltype := 2, odest := 0xFFFF, osrc := l.addr, hops := 0, body := l.bytes, via := some (link, addr) } : FabMsg)
  s.setFab { s.fab with queue := s.fab.queue ++ s.fab.lsas.map m }

/-- DB_REQUEST_RECEIVED. -/
def execDbRequestReceived (x : FabRx) (s : State) : Host.Outcome State Fault Refusal :=
  .next (match s.takeFrame x with
    | (some m, t) => if m.ltype = 3 then t.answerDb x.port.val 0xFFFF else t
    | (none, t) => t)

/-! ### Neighbours (R342, R343) -/

/-- Whether a link's hellos run. -/
def State.linkRuns (s : State) (link : Nat) : Bool :=
  s.fabRuns && (if link = 2 then s.linkOn s.cw && s.on (FABRIC.AIR_EN s.cw) else s.portRuns link && !s.fab.down.contains link)

/-- The ms between the hellos of a link. -/
def State.helloMs (s : State) (link : Nat) : Nat :=
  if link = 2 then 1000 * s.get (FABRIC.AIR_HELLO_S s.cw) else s.get (FABRIC.HELLO_MS s.cw)

/-- The body of a hello on a link; an interval that needs more than 16 bits is sent as the largest.
DESIGN CHOICE (log entry 210). -/
def State.helloBody (s : State) (link : Nat) : List Byte :=
  let heard := ((s.fab.heard.filter (fun h => h.1 = link)).map (fun h => h.2.1)).take 16
  leBytes 8 s.uid ++ leBytes 2 s.fabAddr ++ leBytes 2 (s.get (FABRIC.SEG_ID s.cw)) ++ leBytes 6 s.epochS ++ leBytes 1 (s.get TIME.DOMAIN) ++
  leBytes 2 (min (s.helloMs link) 0xFFFF) ++ leBytes 1 (s.get TIME.CLOCK_CLASS) ++
  leBytes 1 (b2n (s.on TIME.TRUSTED) + 2 * s.get TIME.SOURCE) ++ leBytes 1 heard.length ++ heard.flatMap (leBytes 8)

/-- HELLO_SEND. -/
def doHelloSend (link : Nat) (s : State) : State :=
  if s.linkRuns link && (s.due (tmHello link) || !s.armed (tmHello link)) then
    let m : FabMsg := { ltype := 1, odest := 0xFFFF, osrc := s.fabAddr, hops := 0, body := s.helloBody link, via := none }
    if link = 2 then
      match s.sendAir 0xFFFF m with
      | some t => t.arm (tmHello 2) (millis (s.helloMs 2))
      | none => s
    else (s.sendPort link m).arm (tmHello link) (millis (s.helloMs link))
  else s

/-- HELLO_SEND; link 0 and 1 are the ports, 2 is the air link. -/
def execHelloSend (link : Fin 3) (s : State) : Host.Outcome State Fault Refusal := .next (doHelloSend link.val s)

/-- Neighbours changed: the interrupt, a new LSA, new routes. -/
def State.neighboursChanged (s : State) : State :=
  (({ s with fab := { s.fab with stale := true } } : State).raise (s.cw.page 0xB) 0).originate

/-- A port that hears two modules takes state CONFLICT: it has no neighbour. -/
def State.portConflict (s : State) (p : Nat) : State :=
  let kept := s.fab.neighbours.filter (fun n => n.link ≠ p)
  let t := s.setFab { s.fab with conflicts := s.fab.conflicts.put p s.base, neighbours := kept }
  let t := if s.fab.conflicts.has p then t else t.raise (s.cw.page 0xB) 3
  if kept.length = s.fab.neighbours.length then t else (t.neighboursChanged).dropForeign p

/-- A hello that arrives on a link is judged (R342). DEDUCED (log entry 131). -/
def State.takeHello (s : State) (link rssi : Nat) (b : List Byte) : State :=
  let num := fun (off n : Nat) => leNat ((b.drop off).take n)
  let uid := num 0 8
  let interval := num 19 2
  let rivals := s.fab.heard.filter (fun h => h.1 = link && h.2.1 != uid)
  let s := s.setFab { s.fab with heard := (link, uid, s.base) :: s.fab.heard.filter (fun h => !(h.1 = link && h.2.1 = uid)) }
  let within := if s.fab.conflicts.has link then secs 10 else millis interval
  if num 12 6 ≠ s.epochS ∨ num 18 1 ≠ s.get TIME.DOMAIN then s.bump (FABRIC.EPOCH_MISMATCH_CNT s.cw) 1
  else if link ≠ 2 ∧ rivals.any (fun h => decide (s.base ≤ h.2.2 + within)) = true then s.portConflict link
  else if s.fab.conflicts.has link then s
  else
    let heard := (List.range (num 23 1)).map (fun k => num (24 + 8 * k) 8)
    let up := heard.contains s.uid && (link != 2 || decide (rssi ≤ s.get (FABRIC.AIR_RSSI_MAX s.cw)))
    let old := s.fab.neighbours.find? (fun n => n.link = link && n.uid = uid)
    let n : Neighbour :=
      { uid := uid, link := link, addr := num 8 2, seg := num 10 2, interval := interval, clockClass := num 21 1, tflags := num 22 1
        rssi := rssi, since := s.base, up := up }
    let rest := s.fab.neighbours.filter (fun m => !(m.link = link && m.uid = uid))
    let all := rest ++ [n]
    let air := (sortOn Neighbour.rssi (all.filter (fun m => m.link = 2))).take 16
    let t := s.setFab { s.fab with neighbours := all.filter (fun m => m.link ≠ 2) ++ air }
    let was := old.any Neighbour.up
    let now := t.fab.neighbours.any (fun m => m.link = link && m.uid = uid && m.up)
    let ends := fun (s : State) => sortOn id (s.upNeighbours.map (fun n => (n.uid * 4 + n.link) * 2 ^ 16 + n.addr))
    let t := if ends t = ends s then t else t.neighboursChanged
    if now = true ∧ was = false then t.setFab { t.fab with queue := t.fab.queue ++ [dbRequest t.fabAddr link n.addr] } else t

/-- HELLO_RECEIVED on a backbone port. -/
def execHelloReceived (x : FabRx) (s : State) : Host.Outcome State Fault Refusal :=
  .next (match s.takeFrame x with
    | (some m, t) => if m.ltype = 1 then t.takeHello x.port.val 0 m.body else t
    | (none, t) => t)

/-- The base cycle at which a neighbour is declared absent, unless it is heard. -/
def Neighbour.absentAt (n : Neighbour) : Nat := n.since + millis (3 * n.interval + 100)

/-- Whether a module heard on a link, and no neighbour, is heard no longer: this link's own interval has passed three times.
DEDUCED (log entry 131). -/
def State.unheard (s : State) (h : Nat × Nat × Nat) : Bool :=
  decide (h.2.2 + millis (3 * s.helloMs h.1 + 100) ≤ s.base) && !s.fab.neighbours.any (fun n => n.link = h.1 && n.uid = h.2.1)

/-- NEIGHBOUR_ABSENT: the neighbours whose third hello is missing. `same` names those whose hello is processed in the cycle of the
declaration: they stay UP. -/
def doNeighbourAbsent (same : List (Nat × Nat)) (s : State) : State :=
  let s := s.setFab { s.fab with heard := s.fab.heard.filter (fun h => !s.unheard h) }
  let (gone, kept) := s.fab.neighbours.partition (fun n => decide (n.absentAt ≤ s.base) && !same.contains (n.link, n.uid))
  if gone = [] ∨ s.fabRuns = false then s
  else
    let t := s.setFab { s.fab with
      neighbours := kept
      heard := s.fab.heard.filter (fun h => !gone.any (fun n => n.link = h.1 && n.uid = h.2.1)) }
    let up := gone.filter Neighbour.up
    if up = [] then t
    else
      let t := (t.bump (FABRIC.ABSENT_CNT s.cw) up.length).neighboursChanged
      let t := (up.filter (fun n => n.link ≠ 2)).foldl (fun (t : State) n => t.dropForeign n.link) t
      t.evaluatePorts.chooseSource

/-- NEIGHBOUR_ABSENT. DESIGN CHOICE (log entry 6). -/
def execNeighbourAbsent (s : State) (same : List (Fin 3 × BitVec 64) := []) : Host.Outcome State Fault Refusal :=
  .next (doNeighbourAbsent (same.map (fun n => (n.1.val, n.2.toNat))) s)

/-- PORT_CONFLICT_CLEAR: 10 s have passed with only one module heard. -/
def doPortConflictClear (p : Nat) (s : State) : State :=
  match s.fab.conflicts.get? p with
  | some b => if b + secs 10 ≤ s.base then s.setFab { s.fab with conflicts := s.fab.conflicts.del p } else s
  | none => s

/-- PORT_CONFLICT_CLEAR. -/
def execPortConflictClear (p : Fin 2) (s : State) : Host.Outcome State Fault Refusal := .next (doPortConflictClear p.val s)

/-! ### Routes (R344, R345) -/

/-- The origin of an address: of the LSAs that name it, the one with the lowest MOD_UID. -/
def State.originOf (s : State) (addr : Nat) : Option Lsa :=
  leastOn? Lsa.uid (s.fab.lsas.filter (fun l => !l.withdrawn && l.addr = addr))

/-- The addresses of the database. -/
def State.fabAddrs (s : State) : List Nat := (((s.fab.lsas.filter (fun l => !l.withdrawn && l.addr ≠ 0)).map Lsa.addr).dedup).take 1024

/-- The links from a module that both ends list: the far address, the cost, the kind. -/
def State.linksFrom (s : State) (addr : Nat) (airToo : Bool) : List (Nat × Nat × Nat) :=
  match s.originOf addr with
  | none => []
  | some l => l.links.filter (fun k => (airToo || k.2.2 = 0) &&
      (match s.originOf k.1 with
       | some r => r.links.any (fun q => q.1 = addr && q.2.2 = k.2.2)
       | none => false))

/-- Whether a route is better than another: cheaper, then fewer hops, then the lower next hop. -/
def Route.better (a b : Route) : Bool := before [a.cost, a.hops, a.next] [b.cost, b.hops, b.next]

/-- A route is entered where it is better than the one held. -/
def offerRoute (t : Map Route) (dest : Nat) (r : Route) : Map Route :=
  match t.get? dest with
  | some q => if r.better q then t.put dest r else t
  | none => t.put dest r

/-- One round of the tree's growth: every route is extended by the links of its end. -/
def State.extendRoutes (s : State) (airToo : Bool) (t : Map Route) : Map Route :=
  t.foldl (fun (u : Map Route) c =>
    (s.linksFrom c.1 airToo).foldl (fun (u : Map Route) k =>
      if k.1 = s.fabAddr then u
      else offerRoute u k.1 { cost := c.2.cost + k.2.1, hops := c.2.hops + 1, next := c.2.next, link := c.2.link }) u) t

/-- Some rounds of growth. -/
def State.growRoutes (s : State) (airToo : Bool) : Nat → Map Route → Map Route
  | 0, t => t
  | n + 1, t =>
    let u := s.extendRoutes airToo t
    if u = t then t else State.growRoutes s airToo n u

/-- A shortest-path tree from this module. DEDUCED (log entry 132). -/
def State.spf (s : State) (airToo : Bool) : Map Route :=
  let first := (s.linksFrom s.fabAddr airToo).foldl (fun (t : Map Route) k =>
    match s.upNeighbours.find? (fun n => n.addr = k.1 && (n.link = 2) == (k.2.2 = 1)) with
    | some n => offerRoute t k.1 { cost := k.2.1, hops := 1, next := k.1, link := n.link }
    | none => t) []
  s.growRoutes airToo s.fabAddrs.length first

/-- ROUTE_COMPUTE. DEDUCED (log entry 132). -/
def doRouteCompute (s : State) : State :=
  if s.fab.stale && s.routes then
    let small := s.spf true
    let big := s.spf false
    let t := s.setFab { s.fab with small := small, big := big, stale := false }
    if small = s.fab.small ∧ big = s.fab.big then t else t.raise (s.cw.page 0xB) 1
  else s

/-- ROUTE_COMPUTE. -/
def execRouteCompute (s : State) : Host.Outcome State Fault Refusal := .next (doRouteCompute s)

/-- The route of a message, along the tree that fits its size. -/
def State.routeOf (s : State) (dest size : Nat) : Option Route := (if size ≤ 217 then s.fab.small else s.fab.big).get? dest

/-- A message goes out on a link to a neighbour; none where the air link cannot take it now. -/
def State.sendOn (s : State) (link dest : Nat) (m : FabMsg) : Option State :=
  if link = 2 then s.sendAir dest m else some (s.sendPort link m)

/-- A message that arrives for another module joins the queue (R340, R345). -/
def State.transit (s : State) (m : FabMsg) : State :=
  if s.routes = false ∨ m.odest = s.fabAddr ∨ m.odest = 0xFFFF ∨ 1024 ≤ m.hops + 1 then s
  else s.setFab { s.fab with queue := s.fab.queue ++ [{ m with hops := m.hops + 1, via := none }] }

/-- FABRIC_FORWARD: a frame for another module that arrives is queued; the first message of the queue goes out, or has no route. -/
def doFabricForward (x : Option FabRx) (s : State) : State :=
  let s := match x with
    | none => s
    | some x => (match s.takeFrame x with
      | (some m, t) => t.transit m
      | (none, t) => t)
  if s.fabRuns = false then s
  else match s.fab.queue with
    | [] => s
    | m :: rest =>
      let t := s.setFab { s.fab with queue := rest }
      match m.via with
      | some (link, addr) => (t.sendOn link addr m).getD s
      | none =>
        if t.routes = false ∨ m.odest = t.fabAddr then t
        else match t.routeOf m.odest m.body.length with
          | some r => (t.sendOn r.link r.next m).getD s
          | none => t.bump (FABRIC.NO_ROUTE_CNT t.cw) 1

/-- FABRIC_FORWARD. -/
def execFabricForward (x : Option FabRx) (s : State) : Host.Outcome State Fault Refusal := .next (doFabricForward x s)

/-! ### Event forwarding (R347) -/

/-- The bytes of a record of the event log. -/
def Log.record (l : Log) (n : Nat) : List Byte := l.area.read (n % 65536 * 32) 32

/-- How far a sequence number is ahead of another. -/
def seqAhead (a b : Nat) : Nat := (a + 2 ^ 32 - b % 2 ^ 32) % 2 ^ 32

/-- EVENT_FWD_SEND: the next record is forwarded while fewer than 8 are unacknowledged; records already overwritten are skipped. -/
def doEventFwdSend (s : State) : State :=
  let w := s.cw
  match s.log.newest, s.fab.fwdNext with
  | some n, some next =>
    if s.fabRuns = false ∨ s.on (FABRIC.EVT_FWD_EN w) = false ∨ s.get (FABRIC.EVT_FWD_ADDR w) = 0 ∨ 2 ^ 31 ≤ seqAhead n next then s
    else
      let behind := seqAhead n next
      let lost := if 65536 ≤ behind then behind - 65535 else 0
      let next := (next + lost) % 2 ^ 32
      let acked := if lost = 0 then s.fab.fwdAcked else (next + 2 ^ 32 - 1) % 2 ^ 32
      let s := s.bump (FABRIC.FWD_LOST w) lost
      let open_ := seqAhead next acked - 1
      if 8 ≤ open_ then s
      else
        let t := s.fabPost 0x20 (s.get (FABRIC.EVT_FWD_ADDR w)) (leBytes 2 (s.get (FABRIC.SEG_ID w)) ++ s.log.record next)
        t.setFab { t.fab with fwdNext := some ((next + 1) % 2 ^ 32), fwdAcked := acked, fwdSince := if open_ = 0 then s.base else s.fab.fwdSince }
  | _, _ => s

/-- EVENT_FWD_SEND. -/
def execEventFwdSend (s : State) : Host.Outcome State Fault Refusal := .next (doEventFwdSend s)

/-- EVENT_FWD_RESEND: 10 s without an EVENT_ACK. -/
def doEventFwdResend (s : State) : State :=
  match s.fab.fwdNext with
  | some next =>
    let open_ := seqAhead next s.fab.fwdAcked - 1
    if open_ = 0 ∨ s.base < s.fab.fwdSince + secs 10 then s
    else
      let t := s.setFab { s.fab with fwdNext := some ((s.fab.fwdAcked + 1) % 2 ^ 32), fwdSince := s.base }
      (List.range (min open_ 8)).foldl (fun (t : State) _ => doEventFwdSend t) t
  | none => s

/-- EVENT_FWD_RESEND. -/
def execEventFwdResend (s : State) : Host.Outcome State Fault Refusal := .next (doEventFwdResend s)

/-- The highest number without a gap, once the numbers held above it are counted. -/
def gapless : Nat → Nat → List Nat → Nat × List Nat
  | 0, h, l => (h, l)
  | n + 1, h, l => if l.contains ((h + 1) % 2 ^ 32) then gapless n ((h + 1) % 2 ^ 32) (l.filter (· ≠ (h + 1) % 2 ^ 32)) else (h, l)

/-- A collector takes a forwarded record and acknowledges. DEDUCED (log entry 130). -/
def State.collect (s : State) (osrc : Nat) (b : List Byte) : State :=
  if s.on (FABRIC.EVT_COLLECT s.cw) = false ∨ b.length < 34 then s
  else
    let seq := leNat ((b.drop 26).take 4)
    let fresh := s.fab.collected.get? osrc = none
    let (h, l) := s.fab.collected.getD osrc ((seq + 2 ^ 32 - 1) % 2 ^ 32, [])
    let held := fresh = false ∧ (2 ^ 31 ≤ seqAhead seq (h + 1) ∨ l.contains seq = true)
    let (h2, l2) := if held then (h, l) else gapless (l.length + 1) h (seq :: l)
    let t := if held then s else s.packet 0 3 ((osrc + 2 ^ 16 * leNat (b.take 2)) :: toWords ((b.drop 2).take 32))
    let t := t.setFab { t.fab with collected := t.fab.collected.put osrc (h2, l2) }
    t.fabPost 0x21 osrc (leBytes 4 h2)

/-- EVENT_FWD_RECEIVED. -/
def execEventFwdReceived (x : FabRx) (s : State) : Host.Outcome State Fault Refusal :=
  .next (match s.takeFrame x with
    | (some m, t) => if m.ltype = 0x20 ∧ m.odest = t.fabAddr then t.collect m.osrc m.body else t
    | (none, t) => t)

/-- An EVENT_ACK is taken in. -/
def State.acked (s : State) (osrc : Nat) (b : List Byte) : State :=
  match s.fab.fwdNext with
  | some next =>
    let a := leNat (b.take 4)
    let gain := seqAhead a s.fab.fwdAcked
    if osrc = s.get (FABRIC.EVT_FWD_ADDR s.cw) ∧ gain ≠ 0 ∧ gain < seqAhead next s.fab.fwdAcked then
      s.setFab { s.fab with fwdAcked := a, fwdSince := s.base }
    else s
  | none => s

/-- EVENT_ACK_RECEIVED. -/
def execEventAckReceived (x : FabRx) (s : State) : Host.Outcome State Fault Refusal :=
  .next (match s.takeFrame x with
    | (some m, t) => if m.ltype = 0x21 ∧ m.odest = t.fabAddr then t.acked m.osrc m.body else t
    | (none, t) => t)

/-! ### Remote page access at the gateway (R348, R349) -/

/-- The message command byte of an RPA_CMD: 0x82 READ and 0x81 WRITE; the model's own for the others. PRESUMED (log entry 128). -/
def rpaByte (cmd : Nat) : Nat := if cmd = 1 then 0x82 else if cmd = 2 then 0x81 else 0x80 + cmd

/-- The body of a request: the payload is RPA_DATA's first bytes, for a WRITE its length, for an OPEN the public key and the tag.
PRESUMED (log entry 128). -/
def State.rpaBody (s : State) (w : Wick) (cmd : Nat) : List Byte :=
  let data := s.wordBytes (FABRIC.RPA_DATA w) 128
  let n := if cmd = 2 then s.get (FABRIC.RPA_LEN w) else if cmd = 4 then 80 else 0
  leBytes 2 s.fab.rpaSession ++ leBytes 1 (rpaByte cmd) ++ leBytes 3 (s.get (FABRIC.RPA_ADDR w)) ++ leBytes 2 (s.get (FABRIC.RPA_LEN w)) ++
  data.take n ++ leBytes 4 (s.get (FABRIC.RPA_CTR w)) ++ s.wordBytes (FABRIC.RPA_CMAC w) 2

/-- The outcome of a request is shown (R349). DEDUCED (log entry 128). -/
def State.rpaOutcome (s : State) (w : Wick) (status : Nat) : State := (s.set (FABRIC.RPA_STATUS w) status).raise (w.page 0xB) 2

/-- A write of RPA_CMD. -/
def State.rpaCommand (s : State) (m : Master) (w : Wick) (cmd : Nat) : State :=
  s.write m (w.page 0xB) 0x114 (s.controlCode w) (fun s =>
    let target := s.get (FABRIC.RPA_TARGET w)
    let body := s.rpaBody w cmd
    if s.get (FABRIC.RPA_STATUS w) = 1 then s
    else if s.fabRuns = false ∨ target = s.fabAddr then s.rpaOutcome w 5
    else if (s.routeOf target body.length).isNone then s.rpaOutcome w 4
    else
      let t := (s.fabPost 0x30 target body).set (FABRIC.RPA_STATUS w) 1
      t.setFab { t.fab with rpa := some { ctr := s.get (FABRIC.RPA_CTR w), cmd := cmd, since := s.base } })

/-- RPA_CMD = READ. -/
def execRpaRead (m : Master) (w : Wick) (s : State) : Host.Outcome State Fault Refusal := .next (s.rpaCommand m w 1)
/-- RPA_CMD = WRITE. -/
def execRpaWrite (m : Master) (w : Wick) (s : State) : Host.Outcome State Fault Refusal := .next (s.rpaCommand m w 2)
/-- RPA_CMD = OPEN_CHAL. -/
def execRpaOpenChal (m : Master) (w : Wick) (s : State) : Host.Outcome State Fault Refusal := .next (s.rpaCommand m w 3)
/-- RPA_CMD = OPEN. -/
def execRpaOpen (m : Master) (w : Wick) (s : State) : Host.Outcome State Fault Refusal := .next (s.rpaCommand m w 4)
/-- RPA_CMD = CLOSE. -/
def execRpaClose (m : Master) (w : Wick) (s : State) : Host.Outcome State Fault Refusal := .next (s.rpaCommand m w 5)

/-- The answer to the outstanding request is shown. -/
def State.rpaAnswer (s : State) (b : List Byte) : State :=
  let w := s.cw
  match s.fab.rpa with
  | some r =>
    if leNat ((b.drop 2).take 4) = r.ctr ∧ 16 ≤ b.length then
      let data := (b.drop 8).take (b.length - 16)
      let t := s.setFab { s.fab with rpa := none, rpaSession := if r.cmd = 4 then leNat (b.take 2) else s.fab.rpaSession }
      let t := t.set (FABRIC.RPA_FSTATUS w) (leNat ((b.drop 6).take 2))
      ((t.setWords (FABRIC.RPA_RCMAC w) 0 (toWords (b.drop (b.length - 8)))).setWords (FABRIC.RPA_DATA w) 0 (toWords (data.take 512))).rpaOutcome w 2
    else s
  | none => s

/-- A response that arrives. -/
def doRpaResponseReceived (x : FabRx) (s : State) : State :=
  match s.takeFrame x with
  | (some m, t) => if m.ltype = 0x31 ∧ m.odest = t.fabAddr then t.rpaAnswer m.body else t
  | (none, t) => t

/-- RPA_RESPONSE_RECEIVED. -/
def execRpaResponseReceived (x : FabRx) (s : State) : Host.Outcome State Fault Refusal := .next (doRpaResponseReceived x s)

/-- RPA_TIMEOUT, with the frame that arrives in its cycle: a response wins. -/
def doRpaTimeout (same : Option FabRx) (s : State) : State :=
  let s := match same with
    | some x => doRpaResponseReceived x s
    | none => s
  match s.fab.rpa with
  | some r =>
    if r.since + millis (s.get (FABRIC.RPA_TIMEOUT_MS s.cw)) ≤ s.base then
      (s.setFab { s.fab with rpa := none }).rpaOutcome s.cw 3
    else s
  | none => s

/-- RPA_TIMEOUT. DESIGN CHOICE (log entry 6). -/
def execRpaTimeout (s : State) (same : Option FabRx := none) : Host.Outcome State Fault Refusal := .next (doRpaTimeout same s)

/-- RPA_IDLE_EXPIRY: RPA_IDLE_S without an accepted request. -/
def execRpaIdleExpiry (s : State) : Host.Outcome State Fault Refusal :=
  .next (if s.fab.remote.state = 2 ∧ s.fab.remote.since + secs (s.get (FABRIC.RPA_IDLE_S s.cw)) ≤ s.base then s.endRemote else s)

/-! ### The ports' PHYs (R452) -/

/-- PHY_STATUS_POLL: a port's PHY answers its basic status register, whose bit 2 is link up; where no PHY answers, the port is judged by
its hellos alone. -/
def doPhyStatusPoll (p v : Nat) (s : State) : State :=
  if s.pdOn 11 then
    let rest := s.fab.down.filter (· ≠ p)
    s.setFab { s.fab with down := if v = 0xFFFF ∨ bit v 2 = true then rest else p :: rest }
  else s

/-- PHY_STATUS_POLL. -/
def execPhyStatusPoll (p : Fin 2) (v : BitVec 16) (s : State) : Host.Outcome State Fault Refusal :=
  .next (doPhyStatusPoll p.val v.toNat s)

end Sys2Proof.Machine
end

