-- ==== Sys2Proof/Machine/Restart.lean ====
section
/-! DEFINITION. Which register fields a start keeps (R44, R335, R380, R405, R406, R421, R436). -/

namespace Sys2Proof.Machine

/-- The fields of the PILOT page, of one wick, that stand in the boot-counter area (R335). -/
def bootFields (n : Nat) : List Field :=
  [PILOT.BOOT_FAILS n, PILOT.SNOW_FAILS n, PILOT.REASON n, PILOT.LASTING n, PILOT.NEEDS_BIST n, PILOT.W_ECC n, PILOT.W_LOCKSTEP n,
   PILOT.W_PLL n, PILOT.W_HB n, PILOT.W_METER n, PILOT.HR_LBIST n, PILOT.HR_MBIST n, PILOT.HR_DRYBOOT n, PILOT.HR_DIGEST n] ++
  [PILOT.HR_RADIO n, PILOT.HR_CODE n, PILOT.HR_DUR n, PILOT.HR_TIME n]

/-- What is no setting and yet survives every start: the boot counters, the count of starts, supply and domain levels, the tamper inputs,
the records of the vault and of the Snuffer line, the update commit area. -/
def lastingFields : List Field :=
  bootFields 0 ++ bootFields 1 ++
  [PWR.START_CNT, PWR.VIN_OK, PWR.VIO_OK, PWR.HOLD_READY, PWR.XTAL_OK, PWR.PFAIL_LEVEL, PWR.PD_ON, PWR.PD_SLEEP, PWR.VIN_MV,
   PWR.VHOLD_MV, PWR.VIO_MV, CABINET_IO.GPIO_IN] ++
  [TAMPER.SNUFFED, TAMPER.LAST_CAUSE, TAMPER.LAST_TIME, TAMPER.SNUFF_CNT, TAMPER.LOOP_OK, TAMPER.LID_CLOSED, TAMPER.MARK_PENDING,
   VAULT.SEG_EPOCH, VAULT.NEXT_READY, VAULT.ROLL_ARMED, VAULT.ROLL_AT_LO, VAULT.ROLL_AT_HI] ++
  [UPDATE.U_STATE, UPDATE.ACT_STEP, UPDATE.V_CODE, UPDATE.V_PART, UPDATE.M_SET_VER, UPDATE.M_PARTS, UPDATE.M_OVERLAP, UPDATE.M_SCHEMA,
   UPDATE.M_RESET_MASK, UPDATE.INST_SET_VER, UPDATE.COMMIT_STATE, UPDATE.LAST_REASON, UPDATE.SLOT_A, UPDATE.SLOT_B, UPDATE.COMMIT_CNT]

/-- What a RESET_N start leaves besides, while PD0 kept power: segment time's trust, source and offset (R367). -/
def timeFields : List Field :=
  [TIME.TRUSTED, TIME.UTC_VALID, TIME.SOURCE, TIME.ERR_US, TIME.CLOCK_CLASS, TIME.UTC_OFF_S, TIME.GM_CLASS, TIME.STEPS_REMOVED, TIME.GM_ID_LO,
   TIME.GM_ID_HI, TIME.TRIM_PPB, TIME.SET_STATUS]

/-- The numbers of the fields of a page that a start keeps. -/
def keptKeys (page : Nat) (locks : Bool) : List Nat :=
  (((headerFields page ++ pageFields page).filter (fun f => f.keep)) ++ lastingFields.filter (fun f => f.page = page)).map Field.key ++
  (if locks then [HDR.NS_LOCK page, HDR.HOST_LOCK page, HDR.SET_BY page].map Field.key else [])

/-- The volatile fields of a page return to their reset values; PAGE_LOCK is kept or cleared. -/
def State.resetPage (s : State) (page : Nat) (locks : Bool) (also : List Field) : State :=
  let kept := keptKeys page locks ++ also.map Field.key
  { s with regs := s.regs.filter (fun c => c.1 / 131072 != page || kept.contains c.1) }

/-- Several pages. DESIGN CHOICE (log entry 162). -/
def State.resetPages (s : State) (pages : List Nat) (locks : Bool) : State := pages.foldl (fun (t : State) p => t.resetPage p locks []) s

/-- What a first power-up or a factory reset leaves: supply and domain levels, the tamper inputs, the records of the vault and of the
Snuffer line, the update commit area (R371). -/
def factoryKeys : List Nat :=
  ((lastingFields.filter (fun f => !(bootFields 0 ++ bootFields 1 ++ [PWR.START_CNT]).contains f)) ++
    [UPDATE.STG_LEN, UPDATE.PROBATION_S, FABRIC.MOD_UID_LO .a, FABRIC.MOD_UID_HI .a, FABRIC.MOD_UID_LO .b, FABRIC.MOD_UID_HI .b]).map Field.key

/-- Every register but those returns to its reset value. -/
def State.resetAll (s : State) : State := { s with regs := s.regs.filter (fun c => factoryKeys.contains c.1) }

end Sys2Proof.Machine
end

