-- ==== Sys2Proof/Machine/Session.lean ====
section
/-! DEFINITION. The end of the host link's secure session (R80), which several families bring about. -/

namespace Sys2Proof.Machine

/-- The timer of a lockout (R78). -/
def tmLockout : Nat := 151

/-- A new challenge is drawn (R77); a generator that has failed refuses it (R387). DESIGN CHOICE (log entry 209). -/
def State.newChallenge (s : State) : State :=
  if s.vault.rngDown then s
  else
    let (c, t) := s.drawBytes 16
    t.setWords HOSTLINK.SESS_CHALLENGE 0 (toWords c)

/-- Whether a secure session is open. -/
def State.sessionOpen (s : State) : Bool := s.hl.key.isSome

/-- The secure session ends, if one is open: its key is forgotten, SESS_END is raised, the locks of the secure port are released, its
messages are revoked, a new challenge is drawn (R50, R77, R80, R90, R91). -/
def State.endSecure (s : State) : State :=
  if s.sessionOpen then
    let t := { s with hl := { s.hl with key := none }, vault := { s.vault with masks := s.vault.masks.del maskHost } }.set HOSTLINK.STATE (if s.hl.opening.isSome then 1 else 0)
    let t := (((t.raise 0xF 2).dropLocks .hostS).senderReset .hostS).receiverReset Master.hostS.id
    t.newChallenge
  else s

end Sys2Proof.Machine
end

