-- ==== Sys2Proof/Machine/Mss.lean ====
section
/-! DEFINITION. The management subsystem: its sensors, the event log, the built-in self-test, its restart (R422 to R436). -/

namespace Sys2Proof.Machine

/-! ### Sensors (R422, R423) -/

/-- The domain of a rail (R422, R24). -/
def railPd (n : Nat) : Nat := [0, 1, 2, 5, 3, 6, 4, 7].getD n 0

/-- The nominal voltage of a rail in mV. -/
def railNominal (n : Nat) : Nat := [900, 900, 800, 800, 1800, 1800, 1800, 1800].getD n 0

/-- Whether a rail's voltage lies within ±5 % of its nominal value. -/
def railOk (n v : Nat) : Bool := decide (95 * railNominal n ≤ 100 * v ∧ 100 * v ≤ 105 * railNominal n)

/-- A temperature reading: TEMP_HIGH starts above TEMP_HI_C and clears 5 °C below; a run of the BIST notes the highest. -/
def State.readTemp (s : State) (n v : Nat) : State :=
  let t := s.set (MSS.TEMP n) v
  let t := if t.bist.isSome && decide (toSigned 16 (t.get BIST.COND_TMAX) < toSigned 16 v) then t.set BIST.COND_TMAX v else t
  let hi : Int := 10 * t.get MSS.TEMP_HI_C
  if t.on (HDR.ENABLE 7) = false then { t with mss := { t.mss with hot := false } }
  else if t.mss.hot then
    (if t.temps.all (fun x => decide (x ≤ hi - 50)) then { t with mss := { t.mss with hot := false } } else t)
  else if hi < toSigned 16 v then
    (({ t with mss := { t.mss with hot := true } } : State).event Master.mss.id 0x0C01 [n, ofSigned 24 (toSigned 16 v)]).raise 7 0
  else t

/-- A humidity reading: HUMIDITY_HIGH starts at HUM_HI and clears 5 %RH below. -/
def State.readHumidity (s : State) (v : Nat) : State :=
  let t := s.set MSS.HUMIDITY v
  let hi := 10 * t.get MSS.HUM_HI
  if t.on (HDR.ENABLE 7) = false then { t with mss := { t.mss with damp := false } }
  else if t.mss.damp then (if v + 50 ≤ hi then { t with mss := { t.mss with damp := false } } else t)
  else if hi ≤ v then (({ t with mss := { t.mss with damp := true } } : State).event Master.mss.id 0x0C02 [v]).raise 7 1
  else t

/-- A light reading; ENCLOSURE_LIGHT starts or clears where it has stood on its side of the limit for 1 s. DESIGN CHOICE (log entry 144). -/
def State.readLight (s : State) (v : Nat) (held : Bool) : State :=
  let t := s.set MSS.LIGHT_LUX v
  let lit := decide (t.get MSS.LIGHT_THR_LUX < v)
  if t.on (HDR.ENABLE 7) = false then { t with mss := { t.mss with light := false } }
  else if held = false ∨ lit = t.mss.light then t
  else
    let t : State := { t with mss := { t.mss with light := lit } }
    if lit then (t.event Master.mss.id 0x0C03 [v]).raise 7 2 else t

/-- A rail reading; a rail that has stood outside its limits for 1 ms is a fault. A rail whose domain is off reads 0.
DESIGN CHOICE (log entry 144). -/
def State.readRail (s : State) (n v : Nat) (held : Bool) : State :=
  if s.pdOn (railPd n) = false then
    ((({ s with mss := { s.mss with rails := s.mss.rails.filter (· ≠ n) } } : State).set (MSS.RAIL_MV n) 0).set (MSS.RAIL_OK n) 0)
  else
    let t := (s.set (MSS.RAIL_MV n) v).set (MSS.RAIL_OK n) (b2n (railOk n v))
    if t.on (HDR.ENABLE 7) = false ∨ railOk n v = true then { t with mss := { t.mss with rails := t.mss.rails.filter (· ≠ n) } }
    else if held = false ∨ t.mss.rails.contains n = true then t
    else
      let t : State := { t with mss := { t.mss with rails := n :: t.mss.rails } }
      ((t.bump MSS.RAIL_FAULT_CNT 1).event Master.mss.id 0x0C04 [n, v]).raise 7 3

/-- SENSOR_CONDITION: a reading of the management subsystem, judged while its page is enabled. DESIGN CHOICE (log entry 144). -/
def doSensorCondition (r : Reading) (s : State) : State :=
  if s.pdOn 1 then
    match r with
    | .temp n v => s.readTemp n.val v.toNat
    | .humidity v => s.readHumidity v.toNat
    | .light v held => s.readLight v.toNat held
    | .rail n v held => s.readRail n.val v.toNat held
  else s

/-- SENSOR_CONDITION. -/
def execSensorCondition (r : Reading) (s : State) : Host.Outcome State Fault Refusal := .next (doSensorCondition r s)

/-! ### The event log (R424 to R429, R435) -/

/-- EVENT_ENQUEUE: a block raises an event of a listed code. -/
def doEventEnqueue (source code : Nat) (params : List Nat) (s : State) : State :=
  if code ∈ limitedCodes ∨ code ∈ fixedCodes then s.event source code params else s

/-- EVENT_ENQUEUE. -/
def execEventEnqueue (source : Byte) (code : BitVec 16) (params : List (BitVec 24)) (s : State) : Host.Outcome State Fault Refusal :=
  .next (doEventEnqueue source.toNat code.toNat (params.map BitVec.toNat) s)

/-- The bytes of an event's record under a sequence number. -/
def Event.record (e : Event) (lostBefore : Bool) (seq : Nat) : List Byte :=
  let body := leBytes 2 e.code ++ leBytes 1 (b2n e.trusted + 2 * b2n e.deferred + 4 * b2n lostBefore) ++ leBytes 1 e.source ++
    leBytes 6 e.time ++ leBytes 2 e.suppressed ++ (List.range 4).flatMap (fun i => leBytes 3 (e.params.getD i 0)) ++ leBytes 4 seq
  body ++ leBytes 4 (crc32 body)

/-- The sequence number of the next record. DEDUCED (log entry 149). -/
def Log.nextSeq (l : Log) : Nat :=
  match l.newest with
  | some n => (n + 1) % 2 ^ 32
  | none => 0

/-- EVENT_WRITE: the MSS writes the oldest event of the queue as a record, offers it to the EVENTS FIFO, and forwarding starts with it
where it has just been enabled (R347, R427). DEDUCED (log entry 130). -/
def doEventWrite (s : State) : State :=
  match s.log.queue with
  | [] => s
  | e :: rest =>
    if s.deferring then s
    else
      let seq := s.log.nextSeq
      let bytes := e.record s.log.lostBefore seq
      let l : Log :=
        { s.log with queue := rest, lostBefore := false, newest := some seq, area := s.log.area.write (seq % 65536 * 32) bytes }
      let t : State := { s with log := l }
      let fwd := t.on (FABRIC.EVT_FWD_EN t.cw)
      let next := if fwd then some (t.fab.fwdNext.getD seq) else none
      let acked := if fwd && t.fab.fwdNext.isNone then (seq + 2 ^ 32 - 1) % 2 ^ 32 else t.fab.fwdAcked
      let t := t.setFab { t.fab with fwdNext := next, fwdAcked := acked }
      let t := if t.on (HDR.ENABLE 6) then t.packet 0 1 (toWords bytes) else t
      t.raise 6 0

/-- EVENT_WRITE. -/
def execEventWrite (s : State) : Host.Outcome State Fault Refusal := .next (doEventWrite s)

/-- What the MSS finds in the log area at its start: NEWEST_SEQ, the highest RSEQ of a slot whose CRC passes and whose RSEQ matches it, and how
many slots have a bad CRC (R425). -/
def Log.scan (l : Log) : Option Nat × Nat :=
  let slots := (l.area.map (fun c => c.1 / 32)).dedup
  let sound := fun (n : Nat) => decide (crc32 ((l.record n).take 28) = leNat ((l.record n).drop 28))
  let seqs := ((slots.filter sound).map (fun n => (n, leNat (((l.record n).drop 24).take 4)))).filter (fun x => x.2 % 65536 = x.1)
  (seqs.foldl (fun (m : Option Nat) x => some (max (m.getD 0) x.2)) none, (slots.filter (fun n => !sound n)).length)

/-- The MSS scans the log area at its start (R425, R435). -/
def State.scanLog (s : State) : State :=
  let (newest, bad) := s.log.scan
  let t : State := { s with log := { s.log with newest := newest } }
  if bad = 0 then t else (t.bump EVLOG.CRC_ERR_CNT bad).raise 6 2

/-- TOKEN_REFILL: a token is added to a bucket every 60 / RL_RATE s since it last fell below full. DEDUCED (log entry 148). -/
def doTokenRefill (code : Nat) (s : State) : State :=
  match s.log.buckets.get? code with
  | none => s
  | some b =>
    let rate := s.log.rateOf code
    if secs 60 * (b.added + 1) ≤ (s.base - b.since) * rate then
      let m := if rate ≤ b.tokens + 1 then s.log.buckets.del code
        else s.log.buckets.put code { b with tokens := b.tokens + 1, added := b.added + 1 }
      { s with log := { s.log with buckets := m } }
    else s

/-- TOKEN_REFILL. -/
def execTokenRefill (code : BitVec 16) (s : State) : Host.Outcome State Fault Refusal := .next (doTokenRefill code.toNat s)

/-- A write of RL_RATE: the capacity of the code RL_CODE names, whose bucket is refilled; fixed and unknown codes ignore it. -/
def doRlRateWrite (m : Master) (v : Nat) (s : State) : State :=
  s.write m 6 0x054 [] (fun s =>
    let code := s.get EVLOG.RL_CODE
    if code ∈ limitedCodes then
      { s with log := { s.log with rate := s.log.rate.put code (max 1 v), buckets := s.log.buckets.del code } }
    else s)

/-- RL_RATE_WRITE. -/
def execRlRateWrite (m : Master) (v : Byte) (s : State) : Host.Outcome State Fault Refusal := .next (doRlRateWrite m v.toNat s)

/-- Whether the log holds the record of a sequence number. DEDUCED (log entry 149). -/
def Log.holds (l : Log) (seq : Nat) : Bool :=
  leNat ((l.record seq).take 2) ≠ 0 && leNat (((l.record seq).drop 24).take 4) = seq

/-- A write of R_SEQ: the record is fetched into R_DATA. -/
def doRSeqFetch (m : Master) (seq : Nat) (s : State) : State :=
  s.write m 6 0x058 [] (fun s =>
    let t := s.set EVLOG.R_SEQ seq
    if s.log.holds seq then
      let b := s.log.record seq
      let t := t.setWords EVLOG.R_DATA 0 (toWords b)
      if crc32 (b.take 28) = leNat (b.drop 28) then t.set EVLOG.R_STATUS 0
      else ((t.set EVLOG.R_STATUS 3).bump EVLOG.CRC_ERR_CNT 1).raise 6 2
    else (t.setWords EVLOG.R_DATA 0 (List.replicate 8 0)).set EVLOG.R_STATUS 2)

/-- R_SEQ_FETCH. -/
def execRSeqFetch (m : Master) (seq : Word) (s : State) : Host.Outcome State Fault Refusal := .next (doRSeqFetch m seq.toNat s)

/-! ### Built-in self-test (R430 to R433, R436) -/

/-- The first refusal of a START, as RUN_STATUS; 0 where it runs. `pll` says whether the core PLL of a wick target locks, `rival` whether the
MSS writes a START of its own in the same cycle, which wins. A TARGET that
the table does not list has no role. DEDUCED (log entry 146); DESIGN CHOICE (log entry 147). -/
def State.bistRefusal (s : State) (m : Master) (target : Nat) (pll rival : Bool) : Nat :=
  if m ≠ .mss ∧ m ≠ .hostS then 7
  else if s.on (HDR.ENABLE 8) = false then 11
  else if s.bist.isSome ∨ s.arb.testing ≠ [] ∨ (m = .hostS ∧ rival = true) then 6
  else if target = 0 ∨ 9 ≤ target ∨ s.bistRole target = false then 5
  else if s.bistConditions (bistDestructive target) = false ∨ ((bistWick target).isSome = true ∧ pll = false) then 4
  else 0

/-- A write of CMD = START. DESIGN CHOICE (log entry 147). -/
def doBistStart (m : Master) (pll rival : Bool) (s : State) : State :=
  s.write m 8 0x044 [] (fun s =>
    let target := s.get BIST.TARGET
    let code := s.bistRefusal m target pll rival
    if code ≠ 0 then s.set BIST.RUN_STATUS code
    else
      let t := match bistWick target with
        | some w =>
          if bistDestructive target then ((if s.arb.outgoing = some w then s.shutWick w else s).setPd (corePd w) true) else s
        | none => s
      let tmax := s.temps.foldl max (-32768)
      ({ t with bist := some { target := target, master := m.id, since := s.base } } : State).setAll
        [(BIST.RUN_STATUS, 1), (BIST.RUN_TARGET, target), (BIST.RUN_MASTER, m.id), (BIST.COND_VIN_MV, s.get PWR.VIN_MV),
         (BIST.COND_TMAX, ofSigned 16 tmax)])

/-- BIST_START. DESIGN CHOICE (log entry 6). -/
def execBistStart (m : Master) (pll : Bool) (s : State) (rival : Bool := false) : Host.Outcome State Fault Refusal := .next (doBistStart m pll rival s)

/-- BIST_CONDITION_CHECK. -/
def execBistConditionCheck (s : State) : Host.Outcome State Fault Refusal :=
  .next (if s.bist.isSome && !s.bistConditions false then s.bistEnd 4 0 else s)

/-- Whether a target is a scrub. -/
def bistScrub (target : Nat) : Bool := target = 3 || target = 6 || target = 7

/-- BIST_RUN_END: a run ends PASS or FAIL; `detail` is what FAIL_DETAIL shows of the target, for a scrub the corrections it made, which
count under R15. A double error that a wick's scrub meets stops the wick. The reads of MRAM_SCAN wait for every write (R23, R430). -/
def doBistRunEnd (pass : Bool) (detail : Nat) (s : State) : State :=
  match s.bist with
  | none => s
  | some r =>
    if r.target = 8 ∧ s.scanServed = false then s else
    let scrub := bistScrub r.target
    let t := s.bistEnd (if pass then 2 else 3) (if pass && !scrub then s.get BIST.FAIL_DETAIL else detail)
    match bistWick r.target with
    | some w =>
      if scrub then
        let t := if detail = 0 then t else t.eccCorrected w detail
        if pass then t else t.stopWick w
      else t
    | none => t

/-- BIST_RUN_END. -/
def execBistRunEnd (pass : Bool) (detail : Word) (s : State) : Host.Outcome State Fault Refusal :=
  .next (doBistRunEnd pass detail.toNat s)

/-- A write of CMD = ABORT, or of 0 to CTRL.ENABLE: a run ends ABORTED. `same`: the run completes in this cycle, with its outcome and its detail,
which stands. -/
def doBistAbort (m : Master) (disable : Bool) (same : Option (Bool × Nat)) (s : State) : State :=
  s.write m 8 (if disable then 0x008 else 0x044) [] (fun s =>
    let s := match same with
      | some (pass, detail) => doBistRunEnd pass detail s
      | none => s
    let t := if disable then s.set (HDR.ENABLE 8) 0 else s
    if t.bist.isSome then t.bistEnd 8 0
    else if disable then t
    else t.set BIST.RUN_STATUS (if t.get BIST.RUN_TARGET = 0 then 10 else 9))

/-- BIST_ABORT. DESIGN CHOICE (log entry 6). -/
def execBistAbort (m : Master) (disable : Bool) (s : State) (same : Option (Bool × Word) := none) : Host.Outcome State Fault Refusal :=
  .next (doBistAbort m disable (same.map (fun x => (x.1, x.2.toNat))) s)

/-- A write of FAIL_FLAGS clears the bits written 1. -/
def doFailFlagsClear (m : Master) (v same : Nat) (s : State) : State :=
  s.write m 8 0x050 [] (fun s =>
    s.set BIST.FAIL_FLAGS
      (((List.range 8).foldl (fun x n => if bit v (n + 1) then setBits x n 1 0 else x) (s.get BIST.FAIL_FLAGS)) ||| bits same 1 8))

/-- FAIL_FLAGS_CLEAR; `same` holds the bits that fall to a failure of the same cycle, which stay set (R10). DESIGN CHOICE (log entry 6). -/
def execFailFlagsClear (m : Master) (v : Word) (s : State) (same : Word := 0) : Host.Outcome State Fault Refusal :=
  .next (doFailFlagsClear m v.toNat same.toNat s)

/-! ### A restart of the MSS (R44, R50, R90, R91, R427, R434) -/

/-- Every event that waits was raised before a start: its record will carry DEFERRED (R424). DEDUCED (log entry 145). -/
def State.deferQueue (s : State) : State :=
  { s with log := { s.log with queue := s.log.queue.map (fun e => { e with deferred := true }) } }

/-- What the update path loses with an MSS that starts again: the pages it had open, an erase or a verification that ran. -/
def State.updateCut (s : State) : State :=
  let t : State := { s with upd := { s.upd with opened := [] } }
  if t.get UPDATE.U_STATE = 1 ∨ t.get UPDATE.U_STATE = 4 then t.set UPDATE.U_STATE 0 else t

/-- The MSS starts: its pages' volatile fields return to their reset values, their settings and locks stand; runs it led end, and so
does the packet it had open (R97); the events that wait are deferred. DEDUCED (log entry 145). -/
def State.mssStart (s : State) : State :=
  let t := (([Wick.a, .b].foldl (fun (t : State) w => t.abortTest w) (s.bistEnd 8 0)).updateCut).deferQueue
  let t := ((t.resetPages [6, 7, 8, 0xA] true).abandonPacket 0).scanLog
  let t := ((t.dropLocks .mss).senderReset .mss).receiverReset Master.mss.id
  { (t.receiverBack Master.mss.id) with mss := { hot := false, damp := false, light := false, rails := [], since := t.base } }

/-- The MSS restarts for a cause: 1 watchdog, 2 update, 3 uncorrectable SRAM error. DEDUCED (log entry 145). -/
def State.mssRestart (s : State) (cause : Nat) : State :=
  let n := min (s.get MSS.MSS_RESTARTS + 1) 0xFFFF
  let t := s.mssStart
  ((t.setAll [(MSS.MSS_RESTARTS, n), (MSS.LAST_RESTART, cause)]).event Master.mss.id 0x0C06 [cause]).raise 7 4

/-- MSS_RESTART: of a watchdog or, where `ecc`, of an uncorrectable error. An update restarts the MSS in its own step. -/
def execMssRestart (ecc : Bool) (s : State) : Host.Outcome State Fault Refusal :=
  .next (if s.pdOn 1 && !s.saving then s.mssRestart (if ecc then 3 else 1) else s)

end Sys2Proof.Machine
end

