-- ==== Sys2Proof/Machine/Vault.lean ====
section
/-! DEFINITION. The key vault: its root, its slots, import blobs, segment key epochs, the random generator (R383 to R398). -/

namespace Sys2Proof.Machine

/-- The vault takes a value. -/
def State.setVault (s : State) (x : Vault) : State := { s with vault := x }

/-! ### The root (R383 to R385) -/

/-- The device identity key: 320 bits derived from the root, brought into the range of a private key. -/
def State.deviceKey (s : State) : Nat := privateKey (beNat (derived s.vault.root [0x53, 0x43, 0x34, 0x4B, 0x2D, 0x49, 0x44] 40))

/-- The storage key. -/
def State.storeKey (s : State) : List Byte := derived s.vault.root [0x53, 0x43, 0x34, 0x4B, 0x2D, 0x53, 0x54] 32

/-- The public key of the device identity. -/
def State.devicePub (s : State) : List Byte := if s.vault.root = [] then [] else ecPublic s.deviceKey

/-- The key registers that hold something, with their length in bytes: the slots, the two derived ones, the two session registers (R386). -/
def State.keyRegisters (s : State) : List (Nat × Nat) :=
  s.keys.map (fun k => (k.1, k.2.key.length)) ++ (if s.vault.root = [] then [] else [(7, 32), (8, 32)]) ++
  (if s.hl.key.isSome then [(maskHost, 16)] else []) ++ (if s.fab.remote.key = [] then [] else [(maskRemote, 16)])

/-- A key register takes a fresh mask (R397). -/
def State.mask (s : State) (n len : Nat) : State :=
  let (b, t) := s.drawBytes len
  t.setVault { t.vault with masks := t.vault.masks.put n b }

/-- Every key register takes a fresh mask (R397). -/
def State.maskAll (s : State) : State := s.keyRegisters.foldl (fun t r => t.mask r.1 r.2) s

/-- The root is regenerated from the corrected pattern: its SHA-256 (R383). DESIGN CHOICE (log entry 134). -/
def State.rootBack (s : State) : State := ((s.setVault { s.vault with root := sha256 s.vault.pattern }).set VAULT.ROOT_OK 1).maskAll

/-- The vault enrols the PUF region: new helper data yields a new root, under which no sealed key half can be read (R385).
DESIGN CHOICE (log entry 134). -/
def State.enrol (s : State) : State :=
  let (p, t) := s.drawBytes 32
  State.rootBack { t with keys := [], vault := { t.vault with helper := true, pattern := p } }

/-- A root check is judged: the fourth failure leaves NO_ROOT. -/
def State.judgeRoot (s : State) (good : Bool) : State :=
  if good then s.rootBack
  else
    let t := s.setVault { s.vault with tries := s.vault.tries + 1 }
    if t.vault.tries = 4 then t.event srcVault 0x0A02 [] else t

/-- VAULT_POWER_ON: PD8 has been powered on; an overwrite that a snuff left unfinished is finished first; the commit words are read (R392).
DEDUCED (log entry 138); DESIGN CHOICE (log entry 134). -/
def doVaultPowerOn (good : Bool) (permille : Nat) (lost : List Nat) (s : State) : State :=
  if s.pdOn 8 = false ∨ s.vault.root ≠ [] ∨ 0 < s.vault.tries then s
  else
    let t := s.set VAULT.RNG_OK 1
    let t := if t.on TAMPER.MARK_PENDING then (t.set TAMPER.MARK_PENDING 0).setVault { t.vault with helper := false } else t
    let t := (t.keys.filter (fun k => lost.contains k.1)).foldl (fun (t : State) k =>
      ({ t with keys := t.keys.del k.1 } : State).event srcVault 0x0A04 [k.1]) t
    let t := if t.keys.has (2 + (t.get VAULT.SEG_EPOCH + 1) % 2) then t else t.set VAULT.NEXT_READY 0
    if t.vault.helper then
      let t := t.set VAULT.PUF_ERR_PERMILLE permille
      let t := if 80 < permille then (t.event srcVault 0x0A01 [permille]).raise 9 5 else t
      t.judgeRoot good
    else t.enrol

/-- VAULT_POWER_ON: whether the first root check passes, the error rate corrected, the slots whose commit word has a bad CRC. -/
def execVaultPowerOn (good : Bool) (permille : BitVec 10) (lost : List (Fin 7)) (s : State) : Host.Outcome State Fault Refusal :=
  .next (doVaultPowerOn good permille.toNat (lost.map Fin.val) s)

/-- ROOT_RETRY: after a failed check the region is power-cycled and tried again, three times at most (R384).
DESIGN CHOICE (log entry 134). -/
def doRootRetry (good : Bool) (s : State) : State :=
  if s.pdOn 8 = true ∧ s.vault.root = [] ∧ 1 ≤ s.vault.tries ∧ s.vault.tries ≤ 3 then
    (s.bump VAULT.ROOT_RETRY_CNT 1).judgeRoot good
  else s

/-- ROOT_RETRY. -/
def execRootRetry (good : Bool) (s : State) : Host.Outcome State Fault Refusal := .next (doRootRetry good s)

/-- VAULT_STATE. -/
def State.vaultState (s : State) : Nat :=
  if s.on VAULT.ROOT_OK = false then 0 else if s.on TAMPER.SNUFFED then 3 else if s.keys.has 0 && s.keys.has 6 then 2 else 1

/-! ### Slots (R386, R390) -/

/-- The type of a slot: 1 AES-128, 2 AES-256, 3 P-256 public, 4 P-256 private, 0 none. DEDUCED (log entry 137). -/
def slotType (n : Nat) : Nat :=
  if n = 0 ∨ n = 4 ∨ n = 8 then 2 else if n = 1 ∨ n = 2 ∨ n = 3 then 1 else if n = 5 ∨ n = 6 then 3 else if n = 7 then 4 else 0

/-- The bytes of a key of a type. -/
def keyBytes (ty : Nat) : Nat := if ty = 1 then 16 else if ty = 2 then 32 else 64

/-- The check value of a key. -/
def checkValue (ty : Nat) (k : List Byte) : List Byte :=
  if ty = 1 ∨ ty = 2 then (cmac k (leBytes 16 0)).take 4 else (sha256 k).take 4

/-! ### Import blobs (R388 to R391, R396) -/

/-- The window address of a channel's message. -/
def State.messageAt (s : State) (ch : Nat) : Nat := s.get (MBOX.OFFSET ch) + (if 8 ≤ ch then 0x20000 else 0)

/-- Whether a message with an opcode waits on a channel for the MSS, which has heard its doorbell. -/
def State.mssMessage (s : State) (ch op : Nat) : Bool :=
  s.on (MBOX.PENDING ch) && s.on (MBOX.ANNOUNCED ch) && s.get (MBOX.RECEIVER ch) = 1 && s.get (MBOX.OPCODE ch) = op && s.pdOn 1

/-- A number in a blob. -/
def blobNum (b : List Byte) (off n : Nat) : Nat := leNat ((b.drop off).take n)

/-- The key a blob carries, if its tag holds; no key comes of an ephemeral key that is no point of the curve. DESIGN CHOICE (log entry 135). -/
def State.blobKey (s : State) (b : List Byte) : Option (List Byte) :=
  let n := keyBytes (blobNum b 4 1)
  let z := ecShared s.deviceKey ((b.drop 24).take 64)
  let kw := cmac z (leBytes 1 1 ++ [0x53, 0x43, 0x34, 0x4B, 0x2D, 0x4B, 0x57] ++ (b.drop 3).take 1 ++ (b.drop 8).take 4)
  if onCurve ((b.drop 24).take 64) = false then none else gcmOpen kw ((b.drop 88).take 12) (b.take 100) ((b.drop 100).take (n + 16))

/-- Whether the signature of a blob holds: under the provisioning authority's key, or, for slot 6 while it is empty, under the key it
carries. -/
def State.blobSigned (s : State) (b : List Byte) : Bool :=
  let n := keyBytes (blobNum b 4 1)
  let check := fun (k : List Byte) => ecdsaVerify k (sha256 (b.take (116 + n))) ((b.drop (116 + n)).take 64)
  match s.keys.get? 6 with
  | some k => check k.key
  | none => if blobNum b 3 1 = 6 then (match s.blobKey b with
      | some k => check k
      | none => false)
    else false

/-- The committed generation of a slot; 0 while it is empty. -/
def State.slotGen (s : State) (n : Nat) : Nat :=
  match s.keys.get? n with
  | some k => k.gen
  | none => 0

/-- Whether an import into a slot is refused because an epoch uses it (R396). -/
def State.slotInUse (s : State) (n : Nat) : Bool :=
  let e := s.get VAULT.SEG_EPOCH
  (n = 2 + e % 2 && s.keys.has n) || (n = 2 + (e + 1) % 2 && s.on VAULT.ROLL_ARMED)

/-- The return code of an import, the first that applies; with 0, the key. DESIGN CHOICE (log entry 135). -/
def State.importCode (s : State) (b : List Byte) (kat : Bool) : Nat × List Byte :=
  let ty := blobNum b 4 1
  let n := blobNum b 3 1
  let known := 1 ≤ ty ∧ ty ≤ 3
  if b.length < 5 ∨ (known ∧ b.length ≠ 180 + keyBytes ty) then (0x0101, [])
  else if blobNum b 0 2 ≠ 0x4B49 ∨ blobNum b 2 1 ≠ 1 ∨ ¬known ∨ (n ≤ 6 ∧ slotType n ≠ ty) ∨ blobNum b 5 3 ≠ 0 then (0x0102, [])
  else if 7 ≤ n then (0x0103, [])
  else if s.on VAULT.ROOT_OK = false then (0x0104, [])
  else if (b.drop 16).take 8 ≠ (sha256 s.devicePub).take 8 then (0x0105, [])
  else if s.blobSigned b = false then (0x0106, [])
  else if blobNum b 8 4 ≤ s.slotGen n then (0x0107, [])
  else if s.slotInUse n then (0x0108, [])
  else match s.blobKey b with
    | none => (0x0109, [])
    | some k =>
      if kat = false ∨ (ty = 3 ∧ onCurve k = false) ∨ checkValue ty k ≠ (b.drop 12).take 4 then (0x010A, [])
      else if s.saving then (0x010C, [])
      else (0, k)

/-- A slot is committed with a new key (R391); provisioning ends where it was the last key that a snuff's end needs (R404).
DESIGN CHOICE (log entry 135). -/
def State.commitKey (s : State) (n gen : Nat) (k : List Byte) : State :=
  let half := match s.keys.get? n with
    | some o => !o.half
    | none => false
  let t := ({ s with keys := s.keys.put n { gen := gen, half := half, key := k } }.bump VAULT.IMPORT_CNT 1)
  let t := (t.event srcVault 0x0A03 [n, gen % 2 ^ 24, gen / 2 ^ 24]).raise 9 0
  let t := if n = 2 + (t.get VAULT.SEG_EPOCH + 1) % 2 then t.set VAULT.NEXT_READY 1 else t
  let t := t.mask n k.length
  if t.on TAMPER.SNUFFED && t.keys.has 0 && t.keys.has 6 then
    ((t.set TAMPER.SNUFFED 0).event srcVault 0x0A06 []).raise 0xB 3
  else t

/-- VAULT_IMPORT: the MSS checks the blob of a channel's message, and the vault replaces the slot. DESIGN CHOICE (log entry 135). -/
def doVaultImport (ch : Nat) (kat : Bool) (s : State) : State :=
  if s.mssMessage ch 0x0102 then
    let b := s.window.read (s.messageAt ch) (s.get (MBOX.LENGTH ch))
    let (code, k) := s.importCode b kat
    let t := if code = 0 then s.commitKey (blobNum b 3 1) (blobNum b 8 4) k else s.bump VAULT.IMPORT_FAIL_CNT 1
    (t.setAll [(VAULT.LAST_IMP_SLOT, blobNum b 3 1), (VAULT.LAST_IMP_CODE, code)]).closeMessage ch code
  else s

/-- VAULT_IMPORT: `kat` says whether the engine passes its test vector. -/
def execVaultImport (ch : Fin 16) (kat : Bool) (s : State) : Host.Outcome State Fault Refusal := .next (doVaultImport ch.val kat s)

/-- VAULT_IDENTITY: the MSS writes the device identity's public key into the message area. DEDUCED (log entry 136). -/
def doVaultIdentity (ch : Nat) (s : State) : State :=
  if s.mssMessage ch 0x0101 then
    if s.get (MBOX.LENGTH ch) < 64 then s.closeMessage ch 0x0101
    else if s.on VAULT.ROOT_OK = false then s.closeMessage ch 0x0104
    else ({ s with window := s.window.write (s.messageAt ch) (s.devicePub.take 64) } : State).closeMessage ch 0
  else s

/-- VAULT_IDENTITY. -/
def execVaultIdentity (ch : Fin 16) (s : State) : Host.Outcome State Fault Refusal := .next (doVaultIdentity ch.val s)

/-! ### Segment key epochs (R393 to R395) -/

/-- A command of the VAULT page, with the status it leaves: commands are accepted from the MSS and the secure port (R405). -/
def State.vaultCommand (s : State) (m : Master) (k : State → Nat × State) : State :=
  s.write m 9 0x058 [] (fun s =>
    if m = .mss ∨ m = .hostS then (k s).2.set VAULT.KEY_STATUS (k s).1 else s.set VAULT.KEY_STATUS 7)

/-- KEY_CMD = PUSH. -/
def doPush (m : Master) (s : State) : State :=
  s.vaultCommand m (fun s =>
    if s.author = none then (3, s)
    else if s.on VAULT.NEXT_READY = false then (1, s)
    else if s.on VAULT.ROLL_ARMED then (4, s)
    else (0, ({ s with keyLeft := s.registeredList } : State).jot))

/-- PUSH. -/
def execPush (m : Master) (s : State) : Host.Outcome State Fault Refusal := .next (doPush m s)

/-- KEY_CMD = ROLL: the roll is armed for the first beacon boundary at least 100 ms ahead. -/
def doRoll (m : Master) (force : Bool) (s : State) : State :=
  s.vaultCommand m (fun s =>
    if s.author = none then (3, s)
    else if s.on VAULT.NEXT_READY = false then (1, s)
    else if s.on VAULT.ROLL_ARMED then (4, s)
    else if s.keyLeft ≠ [] ∧ force = false then (2, s)
    else
      let t := (s.set VAULT.ROLL_ARMED 1).set2 VAULT.ROLL_AT_LO VAULT.ROLL_AT_HI (nextMultiple (s.now + 3277) s.active.beaconTicks)
      (0, (t.setVault { t.vault with rolled := false }).jot))

/-- ROLL. -/
def execRoll (m : Master) (force : Bool) (s : State) : Host.Outcome State Fault Refusal := .next (doRoll m force s)

/-- Whether the instant of an armed roll has come. DEDUCED (log entry 140). -/
def State.rollDue (s : State) : Bool := s.on VAULT.ROLL_ARMED && decide (s.get2 VAULT.ROLL_AT_LO VAULT.ROLL_AT_HI ≤ s.now)

/-- KEY_CMD = CANCEL. DEDUCED (log entry 140). -/
def doKeyCancel (m : Master) (s : State) : State :=
  s.vaultCommand m (fun s =>
    if s.rollDue then (5, s)
    else if s.on VAULT.ROLL_ARMED then (0, (s.set VAULT.ROLL_ARMED 0).jot)
    else if s.vault.rolled then (5, s) else (6, s))

/-- KEY_CANCEL. -/
def execKeyCancel (m : Master) (s : State) : Host.Outcome State Fault Refusal := .next (doKeyCancel m s)

/-- The timer of the grace after a roll. DEDUCED (log entry 141). -/
def tmGrace : Nat := 152

/-- ROLL_INSTANT: the epoch advances, both frame counters restart from 0, the previous key is tried for three beacon intervals more.
DEDUCED (log entry 141). -/
def doRollInstant (s : State) : State :=
  if s.rollDue then
    let t := s.setAll [(VAULT.SEG_EPOCH, (s.get VAULT.SEG_EPOCH + 1) % 256), (VAULT.ROLL_ARMED, 0), (VAULT.NEXT_READY, 0)]
    let t := { t with
      keyLeft := []
      link := { t.link with fcnt := [], fcntCeiling := [], records := [] }
      vault := { t.vault with rolled := true } }
    (t.arm tmGrace (3 * t.active.beaconTicks)).raise 9 1
  else s

/-- ROLL_INSTANT. -/
def execRollInstant (s : State) : Host.Outcome State Fault Refusal := .next (doRollInstant s)

/-- ROLL_GRACE_END. DEDUCED (log entry 141). -/
def execRollGraceEnd (s : State) : Host.Outcome State Fault Refusal :=
  .next (if s.due tmGrace then s.disarm tmGrace else s)

/-! ### Masks and the random generator (R387, R397) -/

/-- The timer of the next re-masking. -/
def tmMask : Nat := 153

/-- What a key register holds beside its mask: the key XOR the mask. -/
def State.maskedKey (s : State) (n : Nat) (key : List Byte) : List Byte := xorBytes key (s.vault.masks.getD n [])

/-- REMASK: every key register holds the same key under a new mask, which the random generator supplies. DESIGN CHOICE (log entry 209). -/
def doRemask (s : State) : State :=
  if s.pdOn 8 && (s.due tmMask || !s.armed tmMask) then
    let t := s.arm tmMask (secs (s.get VAULT.REMASK_S))
    if s.vault.rngDown then t else t.maskAll
  else s

/-- REMASK. -/
def execRemask (s : State) : Host.Outcome State Fault Refusal := .next (doRemask s)

/-- RNG_HEALTH_FAIL. -/
def execRngHealthFail (s : State) : Host.Outcome State Fault Refusal :=
  .next (if s.pdOn 8 then ((s.set VAULT.RNG_OK 0).bump VAULT.RNG_FAIL_CNT 1).setVault { s.vault with rngDown := true } else s)

/-- RNG_RESTART_DONE. -/
def execRngRestartDone (s : State) : Host.Outcome State Fault Refusal :=
  .next (if s.pdOn 8 then (s.set VAULT.RNG_OK 1).setVault { s.vault with rngDown := false } else s)

end Sys2Proof.Machine
end

