-- ==== Sys2Proof/Machine/Tamper.lean ====
section
/-! DEFINITION. The tamper inputs and the Snuffer line (R399 to R404, R406). -/

namespace Sys2Proof.Machine

/-! ### The Snuffer line (R402, R403) -/

/-- Whether a snuff has not run to its end. DEDUCED (log entry 139). -/
def State.snuffing (s : State) : Bool := s.on TAMPER.MARK_PENDING || (s.on TAMPER.SNUFFED && s.vault.root.isEmpty && !s.vault.helper)

/-- The Snuffer line fires for a cause; during a snuff the trigger is only counted. DEDUCED (log entries 138, 139). -/
def State.fireSnuffer (s : State) (cause : Nat) : State :=
  let t := s.bump TAMPER.SNUFF_CNT 1
  if s.snuffing then t
  else
    let t := { t with keys := [], keyLeft := [], vault := { t.vault with root := [], snKey := [], masks := [] } }
    let t := t.setAll [(TAMPER.SNUFFED, 1), (TAMPER.MARK_PENDING, 1), (TAMPER.LAST_CAUSE, cause), (TAMPER.LAST_TIME, s.now / 65536),
      (VAULT.ROOT_OK, 0), (VAULT.NEXT_READY, 0)]
    let t := (t.endSecure).endRemote
    (t.event srcPilot 0x0A05 [cause, t.get TAMPER.SNUFF_CNT]).raise 0xB 0

/-- Whether the loop is armed, and whether the lid is. -/
def State.loopArmed (s : State) : Bool := s.on (HDR.ENABLE 0xB) && s.on TAMPER.LOOP_EN
/-- Whether the lid is armed. -/
def State.lidArmed (s : State) : Bool := s.on (HDR.ENABLE 0xB) && s.on TAMPER.LID_EN

/-- Whether a cause of LAST_CAUSE holds now. -/
def State.causeHolds (s : State) (c : Nat) : Bool :=
  if c = 1 ∨ c = 4 then s.loopArmed && !s.on TAMPER.LOOP_OK
  else if c = 2 ∨ c = 5 then s.lidArmed && !s.on TAMPER.LID_CLOSED
  else c = 3 && s.vault.snKey.any (fun k => decide (s.base ≤ k.2 + secs 1))

/-- SNUFFER_FIRE: the line fires for the causes of one cycle, of which LAST_CAUSE records the lowest. -/
def doSnufferFire (causes : List Nat) (s : State) : State :=
  match minimum? (causes.filter s.causeHolds) with
  | some c => s.fireSnuffer c
  | none => s

/-- SNUFFER_FIRE. -/
def execSnufferFire (causes : List (Fin 6)) (s : State) : Host.Outcome State Fault Refusal :=
  .next (doSnufferFire (causes.map Fin.val) s)

/-- SNUFF_OVERWRITE_DONE: the helper data and every sealed half are overwritten. DEDUCED (log entry 138). -/
def doSnuffOverwriteDone (s : State) : State :=
  if s.on TAMPER.MARK_PENDING then (s.set TAMPER.MARK_PENDING 0).setVault { s.vault with helper := false, pattern := [] } else s

/-- SNUFF_OVERWRITE_DONE. -/
def execSnuffOverwriteDone (s : State) : Host.Outcome State Fault Refusal := .next (doSnuffOverwriteDone s)

/-- PUF_REENROL_DONE: a new root, and with it a new device identity. DESIGN CHOICE (log entry 134). -/
def doPufReenrolDone (s : State) : State :=
  if s.snuffing && !s.on TAMPER.MARK_PENDING && s.pdOn 8 then s.enrol else s

/-- PUF_REENROL_DONE. -/
def execPufReenrolDone (s : State) : Host.Outcome State Fault Refusal := .next (doPufReenrolDone s)

/-! ### The inputs (R399) -/

/-- The next bit of TLOOP_OUT: random, except that no three consecutive bits are equal. -/
def State.driveLoop (s : State) : State :=
  let (r, t) := s.draw
  let b := match s.vault.out with
    | x :: y :: _ => if x = y then !x else decide (r % 2 = 1)
    | _ => decide (r % 2 = 1)
  t.setVault { t.vault with out := (b :: s.vault.out).take 2 }

/-- LOOP_SAMPLE: TLOOP_IN is compared with the bit that TLOOP_OUT drives; the loop is broken when three of the last nine samples differ.
Then the next bit is driven. DEDUCED (log entry 142). -/
def doLoopSample (level : Bool) (s : State) : State :=
  let same := level = s.vault.out.headD false
  let l := ((!same) :: s.vault.loop).take 9
  let t := (s.setVault { s.vault with loop := l }).driveLoop
  let t := if same then t else t.bump TAMPER.LOOP_ERR_CNT 1
  let ok := decide ((l.filter id).length < 3)
  let t := t.set TAMPER.LOOP_OK (b2n ok)
  if s.on TAMPER.LOOP_OK = true ∧ ok = false ∧ s.loopArmed = true then t.fireSnuffer 1 else t

/-- LOOP_SAMPLE: the level of TLOOP_IN. -/
def execLoopSample (level : Bool) (s : State) : Host.Outcome State Fault Refusal := .next (doLoopSample level s)

/-- LID_OPEN: LID_N has been high for 5 ms. DEDUCED (log entry 142). -/
def doLidOpen (s : State) : State :=
  if s.on TAMPER.LID_CLOSED then
    let t := s.set TAMPER.LID_CLOSED 0
    if s.lidArmed then t.fireSnuffer 2 else t
  else s

/-- LID_OPEN. -/
def execLidOpen (s : State) : Host.Outcome State Fault Refusal := .next (doLidOpen s)

/-- LID_CLOSE: LID_N falls; the lid was open, or the high was too short and is counted. DEDUCED (log entry 142). -/
def execLidClose (s : State) : Host.Outcome State Fault Refusal :=
  .next (if s.on TAMPER.LID_CLOSED then s.bump TAMPER.LID_BOUNCE_CNT 1 else s.set TAMPER.LID_CLOSED 1)

/-! ### The controls (R400, R401) -/

/-- A write of TAMPER CTRL: arming a broken source is refused, and disarming by any master but the MSS and the secure port. -/
def doTamperArmWrite (m : Master) (en loop lid : Bool) (s : State) : State :=
  let mine := m = .mss ∨ m = .hostS
  let clears := (s.on (HDR.ENABLE 0xB) && !en) || (s.on TAMPER.LOOP_EN && !loop) || (s.on TAMPER.LID_EN && !lid)
  s.write m 0xB 0x008 [] (fun s =>
    if clears = true ∧ ¬mine then (s.countErr 0xB m 0xB 0x008 0x1).set TAMPER.ARM_STATUS 3
    else
      let badLoop := !s.on TAMPER.LOOP_OK
      let badLid := !s.on TAMPER.LID_CLOSED
      let loop2 := loop && (s.on TAMPER.LOOP_EN || !badLoop)
      let lid2 := lid && (s.on TAMPER.LID_EN || !badLid)
      let en2 := en && (s.on (HDR.ENABLE 0xB) || !((loop2 && badLoop) || (lid2 && badLid)))
      let status := if loop && badLoop && (!s.on TAMPER.LOOP_EN || (en && !en2 && loop2)) then 1
        else if lid && badLid && (!s.on TAMPER.LID_EN || (en && !en2 && lid2)) then 2 else 0
      s.setAll [(TAMPER.LOOP_EN, b2n loop2), (TAMPER.LID_EN, b2n lid2), (HDR.ENABLE 0xB, b2n en2), (TAMPER.ARM_STATUS, status)])

/-- TAMPER_ARM_WRITE: ENABLE, LOOP_EN and LID_EN as written. -/
def execTamperArmWrite (m : Master) (en loop lid : Bool) (s : State) : Host.Outcome State Fault Refusal :=
  .next (doTamperArmWrite m en loop lid s)

/-- A write of the host snuff's registers: refused unless the MSS or the secure port makes it. -/
def State.snuffWrite (s : State) (m : Master) (k : State → State) : State :=
  s.write m 0xB 0x040 [] (fun s =>
    if m = .mss ∨ m = .hostS then k s else (s.countErr 0xB m 0xB 0x040 0x1).set TAMPER.ARM_STATUS 3)

/-- A write of SN_KEY. DEDUCED (log entry 143). -/
def doSnKeyWrite (m : Master) (v : Nat) (s : State) : State :=
  s.snuffWrite m (fun s => s.setVault { s.vault with snKey := if v = 0x5E1F then s.vault.snKey.put m.id s.base else s.vault.snKey.del m.id })

/-- SN_KEY_WRITE. -/
def execSnKeyWrite (m : Master) (v : BitVec 16) (s : State) : Host.Outcome State Fault Refusal := .next (doSnKeyWrite m v.toNat s)

/-- A write of SN_CMD: with a matching key of the same master, at most 1 s old, the line fires. DEDUCED (log entry 143). -/
def doSnCmd (m : Master) (s : State) : State :=
  s.snuffWrite m (fun s =>
    match s.vault.snKey.get? m.id with
    | some b =>
      if s.base ≤ b + secs 1 then
        ((s.setVault { s.vault with snKey := s.vault.snKey.del m.id }).set TAMPER.ARM_STATUS 0).fireSnuffer 3
      else s.set TAMPER.ARM_STATUS 4
    | none => s.set TAMPER.ARM_STATUS 4)

/-- SN_CMD. -/
def execSnCmd (m : Master) (s : State) : Host.Outcome State Fault Refusal := .next (doSnCmd m s)

end Sys2Proof.Machine
end

