-- ==== Sys2Proof/Machine/Update.lean ====
section
/-! DEFINITION. Module firmware update: staging, verification and application, activation, commit, rollback, the reload of metering (R407 to R421). -/

namespace Sys2Proof.Machine

/-- The update path takes a value. -/
def State.setUpd (s : State) (x : Upd) : State := { s with upd := x }

/-! ### Installed images (R407) -/

/-- Where an image stands: wick, slot, part type. -/
def imageKey (w : Wick) (slot ty : Nat) : Nat := (2 * w.idx + slot) * 8 + ty

/-- The committed slot of a wick. -/
def State.slotOf (s : State) (w : Wick) : Nat := s.get (match w with | .a => UPDATE.SLOT_A | .b => UPDATE.SLOT_B)

/-- The image of a part type in a wick's committed slot: until a package replaces it, the one the module was made with.
DESIGN CHOICE (log entry 176). -/
def State.installed (s : State) (w : Wick) (ty : Nat) : FwImage :=
  s.upd.images.getD (imageKey w (s.slotOf w) ty) { version := Config.madeVersion ty, size := 0, hash := Config.madeHash ty }

/-- The largest image of a part type (R407). -/
def largestImage (ty : Nat) : Nat := [0, 6291456, 524288, 524288, 196608, 65536, 65536].getD ty 0

/-- The commit record as its word of MRAM holds it (R408); the slots that are not committed stand in it as the trial slots.
DEDUCED (log entry 211). -/
def State.commitRecord (s : State) : List Byte :=
  let trial := s.get UPDATE.COMMIT_STATE = 1
  let body := leBytes 2 0x4355 ++ leBytes 1 (s.get UPDATE.COMMIT_STATE) ++
    leBytes 1 (if s.get UPDATE.COMMIT_STATE = 3 then s.get UPDATE.LAST_REASON else 0) ++
    leBytes 1 (s.get UPDATE.SLOT_A) ++ leBytes 1 (s.get UPDATE.SLOT_B) ++ leBytes 1 (1 - s.get UPDATE.SLOT_A) ++
    leBytes 1 (1 - s.get UPDATE.SLOT_B) ++ leBytes 4 (s.get (if trial then UPDATE.M_SET_VER else UPDATE.INST_SET_VER)) ++
    leBytes 4 s.upd.prevVer ++ leBytes 4 s.upd.commits ++ (s.upd.recDigest ++ leBytes 8 0).take 8
  body ++ leBytes 4 (crc32 body)

/-! ### Commands of the UPDATE page (R421) -/

/-- A command of the UPDATE page, with the status it leaves: guarded by lock 28, refused while the path is disabled.
DEDUCED (log entry 21). -/
def State.updateCommand (s : State) (m : Master) (k : State → Nat × State) : State :=
  s.write m 0xA 0x044 (if s.guardHeld m 28 then [0x3] else []) (fun s =>
    if s.on (HDR.ENABLE 0xA) then (k s).2.set UPDATE.CMD_STATUS (k s).1 else s.set UPDATE.CMD_STATUS 1)

/-! ### Staging (R411, R412) -/

/-- The pages a package of a length occupies. -/
def stagingPages (len : Nat) : Nat := (len + 4095) / 4096

/-- CMD = BEGIN. -/
def doBeginUpdate (m : Master) (s : State) : State :=
  s.updateCommand m (fun s =>
    let u := s.get UPDATE.U_STATE
    let len := s.get UPDATE.STG_LEN
    if ¬(u = 0 ∨ u = 5 ∨ u = 6 ∨ u = 8 ∨ u = 9) then (2, s)
    else if s.on TAMPER.SNUFFED then (3, s)
    else if len < 1024 ∨ 25165824 < len then (4, s)
    else (0, (s.setUpd { s.upd with pkg := [], missing := List.range (stagingPages len), opened := [] }).set UPDATE.U_STATE 1))

/-- BEGIN. -/
def execBeginUpdate (m : Master) (s : State) : Host.Outcome State Fault Refusal := .next (doBeginUpdate m s)

/-- STAGING_ERASE_DONE. -/
def execStagingEraseDone (s : State) : Host.Outcome State Fault Refusal :=
  .next (if s.get UPDATE.U_STATE = 1 ∧ s.pdOn 1 = true then (s.set UPDATE.U_STATE 2).raise 0xA 0 else s)

/-- The words of a page that lie below the package's length. -/
def pageWords (len page : Nat) : Nat := (min (len - 4096 * page) 4096 + 3) / 4

/-- A word of the package is taken in at an offset: a word of a page already written is a repeat; a page is written once all its words
are there. DEDUCED (log entry 150). -/
def State.stageWord (s : State) (off v : Nat) : State :=
  let len := s.get UPDATE.STG_LEN
  let page := off / 4096
  let words := s.upd.opened.getD page []
  if len ≤ off then s.bump UPDATE.STG_REFUSED_CNT 1
  else if s.upd.missing.contains page = false then s.bump UPDATE.STG_DUP_CNT 1
  else if s.upd.opened.has page = false ∧ 16 ≤ s.upd.opened.length then s.bump UPDATE.STG_REFUSED_CNT 1
  else
    let i := off % 4096 / 4
    let words := if words.contains i then words else i :: words
    let pkg := s.upd.pkg.write off ((leBytes 4 v).take (len - off))
    if words.length < pageWords len page then s.setUpd { s.upd with pkg := pkg, opened := s.upd.opened.put page words }
    else
      let missing := s.upd.missing.filter (· ≠ page)
      let t := s.setUpd { s.upd with pkg := pkg, opened := s.upd.opened.del page, missing := missing }
      if missing = [] then (t.set UPDATE.U_STATE 3).raise 0xA 1 else t

/-- A word written to the STG_DATA aperture. DEDUCED (log entries 21, 150). -/
def doStgDataWrite (m : Master) (off v : Nat) (s : State) : State :=
  s.write m 0xA off (if s.guardHeld m 28 then [0x3] else []) (fun s =>
    if s.get UPDATE.U_STATE ≠ 2 then s.bump UPDATE.STG_REFUSED_CNT 1
    else
      let o := s.get UPDATE.STG_OFFSET
      (s.stageWord o v).set UPDATE.STG_OFFSET (o + 4))

/-- STG_DATA_WRITE: a word written at word k of the aperture. -/
def execStgDataWrite (m : Master) (k : Fin 128) (v : Word) (s : State) : Host.Outcome State Fault Refusal :=
  .next (doStgDataWrite m (0x400 + 4 * k.val) v.toNat s)

/-! ### Verification and application (R409, R410, R413) -/

/-- CMD = VERIFY. -/
def doVerify (m : Master) (s : State) : State :=
  s.updateCommand m (fun s =>
    if s.get UPDATE.U_STATE = 3 ∨ s.get UPDATE.U_STATE = 9 then (0, s.set UPDATE.U_STATE 4) else (2, s))

/-- VERIFY. -/
def execVerify (m : Master) (s : State) : Host.Outcome State Fault Refusal := .next (doVerify m s)

/-- A part entry as its 128 bytes give it. -/
def partOf (b : List Byte) : Part :=
  let num := fun (off n : Nat) => leNat ((b.drop off).take n)
  { type := num 0 1, flags := num 1 1, mask := num 2 2, version := num 4 4, compatMin := num 8 4, compatMax := num 12 4
    offset := num 16 4, length := num 20 4, head := b.take 24, iv := (b.drop 24).take 12, tag := (b.drop 36).take 16
    baseHash := (b.drop 52).take 32, newHash := (b.drop 84).take 32 }

/-- Whether every byte is 0. DEDUCED (log entry 154). -/
def zeros (b : List Byte) : Bool := b.all (· = 0)

/-- Whether a part entry is malformed on its own. -/
def partBad (p : Part) (entry : List Byte) (sigEnd pkgLen : Nat) : Bool :=
  decide (p.type = 0 ∨ 6 < p.type ∨ 4 ≤ p.flags ∨ 256 ≤ p.mask ∨ p.length = 0 ∨ p.offset % 16 ≠ 0 ∨ p.offset < sigEnd ∨
    pkgLen < p.offset + p.length) || !zeros (entry.drop 116) || (bit p.flags 1 && (p.mask = 0 || bit p.flags 0))

/-- Whether a part repeats a type or overlaps another's bytes. -/
def partClash (l : List Part) (i : Nat) (p : Part) : Bool :=
  (l.take i).any (fun q => decide (q.type = p.type ∨ (q.offset < p.offset + p.length ∧ p.offset < q.offset + q.length)))

/-- The first part that fails a check. -/
def firstPart (l : List Part) (bad : Nat → Part → Bool) : Option Nat :=
  (List.range l.length).find? (fun i => match l[i]? with
    | some p => bad i p
    | none => false)

/-- An image a package makes of a part: its size and SHA-256, or the check it fails.
DEDUCED (log entry 154); DESIGN CHOICE (log entry 155). -/
def State.applyPart (s : State) (key : List Byte) (p : Part) : Nat ⊕ FwImage :=
  match gcmOpen key p.iv p.head (s.upd.pkg.read p.offset p.length ++ p.tag) with
  | none => .inl 7
  | some d =>
    match Config.applyDelta p.baseHash d with
    | none => .inl 8
    | some (size, hash) =>
      if largestImage p.type < size then .inl 8
      else if hash ≠ p.newHash then .inl 9
      else .inr { version := p.version, size := size, hash := hash }

/-- The parts that applying found to fail a check. -/
def firstFailing (l : List (Nat ⊕ FwImage)) (code : Nat) : Option Nat :=
  (List.range l.length).find? (fun i => match l[i]? with
    | some (.inl c) => decide (c = code)
    | _ => false)

/-- The parts of the staged package, in the order of its manifest. -/
def State.stagedParts (s : State) : List Part :=
  (List.range (min (s.upd.pkg.num 6 2) 6)).map (fun i => partOf (s.upd.pkg.read (128 + 128 * i) 128))

/-- Whether the manifest header is malformed. -/
def State.headerBad (s : State) : Bool :=
  let u := s.upd.pkg
  decide (u.num 0 4 ≠ 0x52444854 ∨ u.num 4 2 ≠ 1 ∨ u.num 6 2 = 0 ∨ 6 < u.num 6 2 ∨ u.num 8 4 ≠ s.get UPDATE.STG_LEN) ||
    !zeros (u.read 76 52)

/-- The package key. -/
def State.packageKey (s : State) : Option (List Byte) :=
  match s.keys.get? 4 with
  | some k => gcmOpen k.key (s.upd.pkg.read 16 12) (s.upd.pkg.read 0 16) (s.upd.pkg.read 28 32 ++ s.upd.pkg.read 60 16)
  | none => none

/-- The checks of a verification, in their order: the first that fails with its part, or the images of the parts.
DEDUCED (log entry 152). -/
def State.checkPackage (s : State) (norFails : Option Nat) : (Nat × Nat) ⊕ List FwImage :=
  let l := s.stagedParts
  let body := 128 + 128 * l.length
  let entry := fun (i : Nat) => s.upd.pkg.read (128 + 128 * i) 128
  let signed := match s.keys.get? 5 with
    | some k => ecdsaVerify k.key (sha256 (s.upd.pkg.read 0 body)) (s.upd.pkg.read body 64)
    | none => false
  let both := fun (p : Part) (f : FwImage → Bool) => f (s.installed .a p.type) || f (s.installed .b p.type)
  if s.headerBad then .inl (2, 0)
  else match firstPart l (fun i p => partBad p (entry i) (body + 64) (s.get UPDATE.STG_LEN) || partClash l i p) with
  | some i => .inl (2, i)
  | none =>
    if signed = false then .inl (3, 0)
    else match s.packageKey with
    | none => .inl (4, 0)
    | some key =>
      match firstPart l (fun _ p => both p (fun x => decide (x.version < p.compatMin ∨ p.compatMax < x.version))) with
      | some i => .inl (5, i)
      | none =>
        match firstPart l (fun _ p => !zeros p.baseHash && both p (fun x => x.hash != p.baseHash)) with
        | some i => .inl (6, i)
        | none =>
          let made := l.map (s.applyPart key)
          match firstFailing made 7, firstFailing made 8, firstFailing made 9, norFails with
          | some i, _, _, _ => .inl (7, i)
          | none, some i, _, _ => .inl (8, i)
          | none, none, some i, _ => .inl (9, i)
          | none, none, none, some i => .inl (0xA, i)
          | none, none, none, none => .inr (made.filterMap Sum.getRight?)

/-- The inactive slot of both wicks is emptied. DEDUCED (log entry 153). -/
def State.eraseInactive (s : State) : Map FwImage :=
  [Wick.a, Wick.b].foldl (fun (m : Map FwImage) w =>
    (List.range 8).foldl (fun (m : Map FwImage) ty => m.del (imageKey w (1 - s.slotOf w) ty)) m) s.upd.images

/-- The new set in the inactive slot of both wicks: the package's images, and the committed ones of the parts it does not carry. -/
def State.applyImages (s : State) (parts : List Part) (made : List FwImage) : Map FwImage :=
  [Wick.a, Wick.b].foldl (fun (m : Map FwImage) w =>
    (List.range 6).foldl (fun (m : Map FwImage) i =>
      let ty := i + 1
      let x := match (parts.zip made).find? (fun p => p.1.type = ty) with
        | some p => p.2
        | none => s.installed w ty
      m.put (imageKey w (1 - s.slotOf w) ty) x) m) s.eraseInactive

/-- VERIFY_DONE: the check ends; `norFails` names a part at which an erase or write of an inactive slot failed.
DEDUCED (log entries 152, 153). -/
def doVerifyDone (norFails : Option Nat) (s : State) : State :=
  if s.get UPDATE.U_STATE ≠ 4 ∨ s.pdOn 1 = false then s
  else match s.checkPackage norFails with
  | .inl (code, part) =>
    let t := if 8 ≤ code then s.setUpd { s.upd with images := s.eraseInactive } else s
    (t.setAll [(UPDATE.U_STATE, 6), (UPDATE.V_CODE, code), (UPDATE.V_PART, part)]).event Master.mss.id 0x0B02 [code, part]
  | .inr made =>
    let l := s.stagedParts
    let flag := fun (f : Part → Bool) => b2n (l.any f)
    let t := s.setUpd { s.upd with
      images := s.applyImages l made, parts := l
      digest := (sha256 (s.upd.pkg.read 0 (192 + 128 * l.length))).take 8 }
    (t.setAll [(UPDATE.U_STATE, 5), (UPDATE.V_CODE, 1), (UPDATE.V_PART, 0), (UPDATE.M_SET_VER, s.upd.pkg.num 12 4),
      (UPDATE.M_PARTS, l.foldl (fun v p => v ||| 2 ^ (p.type - 1)) 0), (UPDATE.M_OVERLAP, b2n (l.all (fun p => bit p.flags 0))),
      (UPDATE.M_SCHEMA, flag (fun p => bit p.flags 1)), (UPDATE.M_RESET_MASK, l.foldl (fun v p => v ||| p.mask % 256) 0)]).raise 0xA 0

/-- VERIFY_DONE. -/
def execVerifyDone (norFails : Option (Fin 6)) (s : State) : Host.Outcome State Fault Refusal :=
  .next (doVerifyDone (norFails.map Fin.val) s)

/-! ### Activation (R414, R420) -/

/-- Whether STATE is TRIAL. -/
def State.trial (s : State) : Bool := s.get UPDATE.COMMIT_STATE = 1

/-- A parameter of more than 24 bits as an event carries it, low part first. -/
def wide (v : Nat) : List Nat := [v % 2 ^ 24, v / 2 ^ 24]

/-- Whether a wick holds AUTHOR and the other is not ELIGIBLE. -/
def State.standbyBad (s : State) : Bool :=
  match s.author with
  | some w => s.eligibility w.other ≠ 0
  | none => false

/-- CMD = ACTIVATE. -/
def doUpdateActivate (m : Master) (confirm : Bool) (s : State) : State :=
  s.updateCommand m (fun s =>
    if s.get UPDATE.U_STATE ≠ 5 then (2, s)
    else if s.on TAMPER.SNUFFED then (3, s)
    else if s.on UPDATE.M_SCHEMA = true ∧ confirm = false then (5, s)
    else if s.handing = true ∨ s.incoming.isSome = true then (6, s)
    else if s.standbyBad then (7, s)
    else
      let t := s.setAll [(UPDATE.U_STATE, 7), (UPDATE.ACT_STEP, 1), (UPDATE.COMMIT_STATE, 1), (UPDATE.LAST_REASON, 0)]
      let t := t.setUpd { t.upd with
        prevVer := s.get UPDATE.INST_SET_VER, recDigest := s.upd.digest, onTrial := [], meterTrial := [], mssTrial := false, wiped := false, alone := s.author.isNone
        dry := none, switchAt := none, tookAt := none }
      (0, (t.event Master.mss.id 0x0B03 (wide (s.get UPDATE.M_SET_VER))).raise 0xA 2))

/-- UPDATE_ACTIVATE. -/
def execUpdateActivate (m : Master) (confirm : Bool) (s : State) : Host.Outcome State Fault Refusal :=
  .next (doUpdateActivate m confirm s)

/-- An update dry boot of a wick begins: its domains are powered, or, where no wick held AUTHOR, it is restored and tests itself. -/
def State.dryBoot (s : State) (w : Wick) : State :=
  let t := s.setUpd { s.upd with dry := some w.idx }
  if t.upd.alone then t.restoreWick w true
  else
    let t := if t.arb.outgoing = some w then t.shutWick w else t
    if t.role w = .cold then ((t.abortTest w).setPd (corePd w) true).setPd (radioPd w) true else t

/-- An update dry boot ends: the wick's domains go off where it is COLD still. -/
def State.dryEnd (s : State) : State :=
  match s.upd.dry with
  | none => s
  | some n =>
    let w : Wick := if n = 0 then .a else .b
    let t := s.setUpd { s.upd with dry := none }
    let t := if t.upd.alone then t.abortTest w else t
    if t.role w = .cold ∨ t.role w = .failed then (t.setPd (corePd w) false).setPd (radioPd w) false else t

/-- The instant of a cold switch: 10 ms after the first beacon boundary at least 2 s ahead. -/
def State.coldSwitchAt (s : State) : Nat := nextMultiple (s.now + 65536) s.active.beaconTicks + 328

/-- Control is to pass to the other wick on the trial set, or back to it: by a planned handover or by a cold switch. The arbiter refuses the planned
handover of an activation as any other (R317); the way back is open even to a LAST_RESORT wick (R416). -/
def State.switchOver (s : State) (trial : Bool) : State :=
  if s.on UPDATE.M_OVERLAP then (if trial ∧ s.handoverCode ≠ 0 then s else s.startHandover 4 trial) else s.setUpd { s.upd with switchAt := some s.coldSwitchAt }

/-- A cold switch: the AUTHOR becomes COLD and the other wick is warmed. DEDUCED (log entry 157). -/
def State.coldSwitch (s : State) (trial : Bool) : State :=
  let s := s.setUpd { s.upd with switchAt := none }
  match s.author with
  | none => s
  | some o =>
    let t := ((({ s.jotAs .roleEnd with authorSince := none } : State).receiverReset 7).enter o .cold)
    (t.shutWick o).startWick o.other 2 trial

/-- The step in progress. DEDUCED (log entry 156). -/
def State.setStep (s : State) (n : Nat) : State := (s.set UPDATE.ACT_STEP n).raise 0xA 2

/-- The wick that an activation moves to: the one a dry boot of step 2 names. -/
def State.standby (s : State) : Wick :=
  match s.author, s.controller with
  | some w, _ => w.other
  | none, some w => w.other
  | none, none => s.prefWick

/-- The wick of an update dry boot. -/
def State.dryWick (s : State) : Option Wick := s.upd.dry.map (fun n => if n = 0 then Wick.a else Wick.b)

/-- Whether an update dry boot has passed; `ok` is its three steps where it was no self-test. A reload of the wick's metering belongs to it. -/
def State.dryPassed (s : State) (w : Wick) (ok : Bool) : Bool :=
  (!s.measures w || s.upd.meterTrial.contains w.idx) &&
  (if s.upd.alone then
    !s.arb.testing.has w.idx && (s.get (PILOT.HR_CODE w.idx) = 0) && !s.on (PILOT.NEEDS_BIST w.idx)
   else ok && s.role w = .cold)

/-- The wick on the trial set that holds AUTHOR. -/
def State.trialAuthor (s : State) : Option Wick :=
  match s.author with
  | some w => if s.upd.onTrial.contains w.idx then some w else none
  | none => none

/-- Step 5 and, where it has nothing to do, step 6 begin. -/
def State.stepFive (s : State) : State :=
  if bit (s.get UPDATE.M_PARTS) 3 then ((s.setStep 5).setUpd { s.upd with mssTrial := true }).mssRestart 2
  else (s.setStep 5).setStep 6

/-- ACT_STEP_PASS: the step in progress passes where its condition holds, and the next begins; in step 3 and after a rollback, a cold
switch that is due is made. -/
def doActStepPass (ok : Bool) (s : State) : State :=
  let due := match s.upd.switchAt with
    | some t => decide (t ≤ s.now)
    | none => false
  if due then s.coldSwitch s.trial
  else if s.trial = false then s
  else if s.get UPDATE.ACT_STEP = 1 then (s.setStep 2).dryBoot s.standby
  else if s.get UPDATE.ACT_STEP = 2 then
    match s.dryWick with
    | none => s
    | some w =>
      if s.upd.alone then
        (if s.upd.onTrial.contains w.idx then (s.setUpd { s.upd with dry := none }).setStep 3
         else if s.dryPassed w ok then s.consider none 4 else s)
      else if s.dryPassed w ok then (((s.set (PILOT.BOOT_FAILS w.idx) 0).dryEnd).setStep 3).switchOver true else s
  else if s.get UPDATE.ACT_STEP = 3 then
    match s.trialAuthor with
    | some w => (s.setStep 4).dryBoot w.other
    | none => s
  else if s.get UPDATE.ACT_STEP = 4 then
    match s.dryWick with
    | none => s
    | some w =>
      if s.dryPassed w ok then ((s.set (PILOT.BOOT_FAILS w.idx) 0).dryEnd).stepFive else s
  else if s.get UPDATE.ACT_STEP = 5 then (if ok then s.setStep 6 else s)
  else s

/-- ACT_STEP_PASS; `ok`: the three steps of a dry boot have passed, or the MSS is ready on its new image. -/
def execActStepPass (ok : Bool) (s : State) : Host.Outcome State Fault Refusal := .next (doActStepPass ok s)

/-! ### Commit (R415) -/

/-- PROBATION_END: the trial set has held AUTHOR for PROBATION_S without a stop, and the commit record is written. -/
def doProbationEnd (s : State) : State :=
  match s.trialAuthor, s.upd.tookAt with
  | some w, some b =>
    if s.trial && decide (s.get UPDATE.ACT_STEP = 6) && !s.stopped w && decide (b + secs (s.get UPDATE.PROBATION_S) ≤ s.base) then
      let v := s.get UPDATE.M_SET_VER
      let t := s.setAll [(UPDATE.U_STATE, 8), (UPDATE.ACT_STEP, 0), (UPDATE.COMMIT_STATE, 2), (UPDATE.INST_SET_VER, v),
        (UPDATE.SLOT_A, 1 - s.get UPDATE.SLOT_A), (UPDATE.SLOT_B, 1 - s.get UPDATE.SLOT_B), (UPDATE.COMMIT_CNT, (s.upd.commits + 1) % 2 ^ 16)]
      let t := t.setUpd { t.upd with
        onTrial := [], meterTrial := [], mssTrial := false, dry := none, tookAt := none, commits := (t.upd.commits + 1) % 2 ^ 32 }
      (t.event Master.mss.id 0x0B04 (wide v)).raise 0xA 3
    else s
  | _, _ => s

/-- PROBATION_END. -/
def execProbationEnd (s : State) : Host.Outcome State Fault Refusal := .next (doProbationEnd s)

/-! ### Rollback (R416, R418) -/

/-- What stands on the trial set returns to the old one: a wick that warms is cancelled, an AUTHOR hands back, the MSS restarts. -/
def State.returnOld (s : State) : State :=
  let t := s.dryEnd
  let t := match t.incoming with
    | some w =>
      if t.upd.onTrial.contains w.idx then
        let u := (t.enter w .cold).shutWick w
        if u.handing then u.closeHandover 4 else u
      else t
    | none => t
  let t := match t.trialAuthor with
    | some w =>
      let down : Bool := t.role w.other == Role.cold || t.role w.other == Role.failed
      if (!t.handing && t.incoming.isNone && down && decide (t.eligibility w.other ≤ 1)) = true then t.switchOver false else t
    | none => t.consider none 1
  if t.upd.mssTrial then (t.setUpd { t.upd with mssTrial := false }).mssRestart 2 else t

/-- The record of a rollback with its reason. -/
def State.rolledBack (s : State) (reason : Nat) : State :=
  let t := (s.setUpd { s.upd with switchAt := none, tookAt := none }).setAll
    [(UPDATE.U_STATE, 9), (UPDATE.ACT_STEP, 0), (UPDATE.COMMIT_STATE, 3), (UPDATE.LAST_REASON, reason)]
  let t := (t.event Master.mss.id 0x0B05 [reason]).raise 0xA 4
  if t.upd.wiped then t.event Master.mss.id 0x0B06 [t.get UPDATE.M_RESET_MASK] else t

/-- A rollback: its record, and the module's return to the old set. -/
def State.rollBack (s : State) (reason : Nat) : State := (s.rolledBack reason).returnOld

/-- Whether a rollback's trigger holds: the steps in which a dry boot, a reload or the MSS can fail, a switch that ended without the trial
set, an AUTHOR on the trial set stopped or lost. DESIGN CHOICE (log entry 158). -/
def State.rollbackDue (s : State) (reason : Nat) : Bool :=
  let step := s.get UPDATE.ACT_STEP
  s.trial &&
  (if reason = 1 ∨ reason = 5 then (step = 2 || step = 4) && s.upd.dry.isSome
   else if reason = 2 then step = 3 && !s.handing && s.upd.switchAt.isNone && s.trialAuthor.isNone && s.incoming.isNone
   else if reason = 3 then (step = 4 || step = 5 || step = 6) && (match s.trialAuthor with
     | some w => s.stopped w
     | none => true)
   else reason = 4 && step = 5)

/-- UPDATE_ROLLBACK for reasons 1 to 5; `boot`: a dry boot failed as a start (R329). DESIGN CHOICE (log entry 158). -/
def doUpdateRollback (reason : Nat) (boot : Bool) (s : State) : State :=
  if s.rollbackDue reason then
    let t := match s.dryWick with
      | some w => if reason = 1 ∧ boot = true ∧ s.upd.alone = false then (s.bump (PILOT.BOOT_FAILS w.idx) 1).set (PILOT.REASON w.idx) 5 else s
      | none => s
    t.rollBack reason
  else s

/-- UPDATE_ROLLBACK. -/
def execUpdateRollback (reason : Fin 8) (boot : Bool) (s : State) : Host.Outcome State Fault Refusal :=
  .next (doUpdateRollback reason.val boot s)

/-! ### ABORT (R417) -/

/-- What an ABORT does in the present state, with its status; `same`: a verification or a commit completes in this cycle.
DEDUCED (log entry 151); DESIGN CHOICE (log entry 158). -/
def State.abortUpdate (s : State) (same : Bool) : Nat × State :=
  let u := s.get UPDATE.U_STATE
  let empty := (s.setUpd { s.upd with pkg := [], missing := [], opened := [] }).set UPDATE.U_STATE 0
  if u = 4 ∧ same = true then (8, doVerifyDone none s)
  else if u = 7 ∧ same = true ∧ (doProbationEnd s).trial = false then (8, doProbationEnd s)
  else if u = 7 then (0, s.rollBack 6)
  else if u = 0 ∨ u = 8 ∨ u = 9 then (9, s)
  else (0, empty)

/-- A write of CMD = ABORT, or of 0 to CTRL.ENABLE, which acts as ABORT. DEDUCED (log entry 160). -/
def doUpdateAbort (m : Master) (disable same : Bool) (s : State) : State :=
  if disable then
    s.write m 0xA 0x008 [] (fun s =>
      let (code, t) := s.abortUpdate same
      if s.on (HDR.ENABLE 0xA) then (t.set UPDATE.CMD_STATUS code).set (HDR.ENABLE 0xA) 0 else s)
  else s.updateCommand m (fun s => s.abortUpdate same)

/-- UPDATE_ABORT. -/
def execUpdateAbort (m : Master) (disable same : Bool) (s : State) : Host.Outcome State Fault Refusal :=
  .next (doUpdateAbort m disable same s)

/-! ### Metering across an update (R419) -/

/-- The bound of each phase over a reload: P_1S for 200 ms, in mWh rounded up. DESIGN CHOICE (log entry 159). -/
def Dom.reloadBounds (d : Dom) : List Nat :=
  match d.series.head? with
  | some x => [0, 1, 2].map (fun g => (((x.p.getD g 0).natAbs : Rat) * 200 / 3600000).ceil.toNat)
  | none => [0, 0, 0]

/-- A metering domain saves its state and resumes from it. DESIGN CHOICE (log entry 159). -/
def State.reloadDom (s : State) (w : Wick) : State :=
  let s := s.rollMeter
  let bounds := (s.dom w).reloadBounds
  let t := (s.freezeDom w false).commitSave w
  let t := t.setDom w ((t.dom w).resume t.now)
  let t := [0, 1, 2, 3].foldl (fun (t : State) c => t.settle w c) t
  ((t.arm (tmCkpt w) 32768).resumeInterval w 0 0).event (srcMeter w) 0x050F bounds

/-- METER_RELOAD: the metering domain of a dry boot's wick takes METER_DSP, or after a rollback the old one again; it fails where the domain
does not run within 200 ms. DESIGN CHOICE (log entry 159). -/
def doMeterReload (w : Wick) (ok : Bool) (s : State) : State :=
  let onTrial := s.upd.meterTrial.contains w.idx
  if s.measures w = false then s
  else if s.trial = true ∧ s.dryWick = some w ∧ onTrial = false then
    let t := s.reloadDom w
    if ok then t.setUpd { t.upd with meterTrial := w.idx :: t.upd.meterTrial } else t.rollBack 5
  else if s.trial = false ∧ onTrial = true then
    let t := s.reloadDom w
    t.setUpd { t.upd with meterTrial := t.upd.meterTrial.filter (· ≠ w.idx) }
  else s

/-- METER_RELOAD. -/
def execMeterReload (w : Wick) (ok : Bool) (s : State) : Host.Outcome State Fault Refusal := .next (doMeterReload w ok s)

end Sys2Proof.Machine
end

