-- ==== Sys2Proof/Machine/Power.lean ====
section
/-! DEFINITION. Supplies, module starts, the final save, ride-through, factory reset (R359 to R372, R380, R381). -/

namespace Sys2Proof.Machine

/-! ### The choice of a wick at a start (R309, R362) -/

/-- The arbiter, which waited for HOLD_READY, makes the wicks COLD or FAILED and warms one. DEDUCED (log entry 114). -/
def State.chooseStart (s : State) : State :=
  let t := { s with power := { s.power with waiting := false, warmed := true } }
  let t := [Wick.a, Wick.b].foldl (fun (t : State) w =>
    if t.eligibility w = 3 ∨ t.role w ≠ .off then t else t.enter w (if t.eligibility w = 2 then .failed else .cold)) t
  t.consider none 0

/-- HOLD_READY: VHOLD reaches 11.5 V, or falls below it. -/
def doHoldReady (mv : Nat) (s : State) : State :=
  if s.pdOn 0 then
    let up := decide (11500 ≤ mv)
    let t := (s.set PWR.VHOLD_MV mv).set PWR.HOLD_READY (b2n up)
    if up && t.power.waiting then t.chooseStart else t
  else s

/-- HOLD_READY. -/
def execHoldReady (mv : BitVec 16) (s : State) : Host.Outcome State Fault Refusal := .next (doHoldReady mv.toNat s)

/-- Whether HOLD_WAIT_S has elapsed since the start. DEDUCED (log entry 164). -/
def State.holdWaited (s : State) : Bool := decide (s.power.startBase + secs (s.get PWR.HOLD_WAIT_S) ≤ s.base)

/-- HOLD_WAIT_EXPIRY: HOLDUP_ABSENT is logged and a wick warmed all the same. DEDUCED (log entry 164). -/
def doHoldWaitExpiry (s : State) : State :=
  if s.power.waiting && s.holdWaited && !s.on PWR.HOLD_READY then (s.event srcPilot 0x0201 []).chooseStart else s

/-- HOLD_WAIT_EXPIRY. -/
def execHoldWaitExpiry (s : State) : Host.Outcome State Fault Refusal := .next (doHoldWaitExpiry s)

/-! ### Supplies and clocks (R360, R361, R364) -/

/-- XTAL_OK: the base moves to the crystal; enabled metering domains are powered once a start has restored their ENABLE (R366). -/
def doXtalOk (s : State) : State :=
  if s.pdOn 0 then
    let t := s.set PWR.XTAL_OK 1
    if t.power.started then
      [Wick.a, Wick.b].foldl (fun (t : State) w => if t.on (HDR.ENABLE (w.page 7)) then t.powerDom w else t) t
    else t
  else s

/-- XTAL_OK. -/
def execXtalOk (s : State) : Host.Outcome State Fault Refusal := .next (doXtalOk s)

/-- VIN is read; a fall below VIN_WARN_MV is counted. -/
def State.readVin (s : State) (mv : Nat) : State :=
  let limit := s.get PWR.VIN_WARN_MV
  let fell := decide (limit ≤ s.get PWR.VIN_MV ∧ mv < limit)
  let t := s.setAll [(PWR.VIN_MV, mv), (PWR.VIN_OK, b2n (decide (8800 ≤ mv)))]
  if fell then t.bump PWR.VIN_WARN_CNT 1 else t

/-- VIO_LOSS. -/
def execVioLoss (mv : BitVec 16) (s : State) : Host.Outcome State Fault Refusal :=
  .next (if mv.toNat < 1600 then s.setAll [(PWR.VIO_MV, mv.toNat), (PWR.VIO_OK, 0)] else s)

/-- PD0 is powered on: counters resume from their ceilings, segment time from the ledger's newest record, untrusted; what PD0 held only
for itself is gone; the tamper record is restored, and an armed source that is open fires (R19, R139, R340, R354, R400, R428).
  DEDUCED (log entries 66, 163). -/
def State.pilotOn (s : State) (loopOk lidClosed : Bool) : State :=
  let l := s.link
  let t := { s with
    now := if s.ledger.snapValid then s.ledger.snapTime else 0
    timers := [], hold := [], locks := []
    log := { s.log with queue := [], lostBefore := false, buckets := [], pendingSup := [] }
    link := { l with seqNext := l.seqCeiling, fcnt := l.fcntCeiling, fabCnt := l.fabCeiling }
    clock := Clock.empty
    hl := { s.hl with key := none }
    vault := { s.vault with out := [], loop := [], snKey := [] }
    power := { s.power with restored := false } }
  let t := (t.resetPage 0xD false []).resetPage 0xB false []
  let t := t.setAll [(PWR.PD_ON, 1), (PWR.PD_SLEEP, 0), (PWR.XTAL_OK, 0), (TAMPER.LOOP_OK, b2n loopOk), (TAMPER.LID_CLOSED, b2n lidClosed)]
  if t.causeHolds 4 then t.fireSnuffer 4 else if t.causeHolds 5 then t.fireSnuffer 5 else t

/-- VIN_RISE: VIN reaches 8.8 V or more, with the tamper inputs as PD0 finds them where it was off. -/
def doVinRise (mv : Nat) (loopOk lidClosed : Bool) (s : State) : State :=
  if mv < 8800 then s
  else
    let t := if s.pdOn 0 then s else s.pilotOn loopOk lidClosed
    t.readVin mv

/-- VIN_RISE. -/
def execVinRise (mv : BitVec 16) (loopOk lidClosed : Bool) (s : State) : Host.Outcome State Fault Refusal :=
  .next (doVinRise mv.toNat loopOk lidClosed s)

/-! ### The final save (R270, R367, R368) -/

/-- Whether VAUX_OUT is on (R381, R446). -/
def State.vauxOn (s : State) : Bool :=
  s.on (HDR.ENABLE 1) && s.on PWR.VAUX_EN && !s.on PWR.VAUX_FAULT && !s.saving && s.pdOn 0

/-- A trigger of the final save: it acts only once a start has begun and no save has run since. In its cycle keyed transmitters stop and
RS-485 and CSB transfers end; the status a CSB transfer ends with is open. DEDUCED (log entry 169). -/
def State.startSave (s : State) (trigger : Nat) : State :=
  if s.power.started = false ∨ s.saving = true then s
  else
    let t := { s with
      saving := true
      power := { s.power with saveTrig := trigger, saveSince := s.base, word := none, ran := true, started := false, waiting := false }
      cab := { s.cab with tx := [] } }
    let t := t.bump PWR.PFAIL_CNT 1
    let t := [Wick.a, Wick.b].foldl (fun (t : State) w => (t.cutShort w).dropGrant w) t
    if t.cab.csb then
      let (r, t) := t.draw
      (({ t with cab := { t.cab with csb := false } } : State).set CABINET_IO.CSB_STATUS (r % 7)).raise 0xE 4
    else t

/-- RESET_N_LOW: the level holds off the next start too (R365, R367). -/
def execResetNLow (s : State) : Host.Outcome State Fault Refusal :=
  .next (({ s with power := { s.power with resetLow := true } } : State).startSave 3)

/-- PFAIL_N_FALL: the level is shown; it triggers nothing while VIO_OK is 0 (R360, R368). -/
def doPfailNFall (s : State) : State :=
  if s.pdOn 0 then
    let t := s.set PWR.PFAIL_LEVEL 1
    if s.on PWR.VIO_OK then t.startSave 1 else t
  else s

/-- PFAIL_N_FALL. -/
def execPfailNFall (s : State) : Host.Outcome State Fault Refusal := .next (doPfailNFall s)

/-- VIO_RETURN: PFAIL_N counts again, so that a level that is low by now triggers the save (R360, R368). DEDUCED (log entry 204). -/
def doVioReturn (mv : Nat) (s : State) : State :=
  if mv < 1600 then s
  else
    let t := s.setAll [(PWR.VIO_MV, mv), (PWR.VIO_OK, 1)]
    if t.on PWR.PFAIL_LEVEL && t.pdOn 0 then t.startSave 1 else t

/-- VIO_RETURN. -/
def execVioReturn (mv : BitVec 16) (s : State) : Host.Outcome State Fault Refusal := .next (doVioReturn mv.toNat s)

/-- VIN_MONITOR_TRIP: VIN stands below 8.5 V. -/
def doVinMonitorTrip (mv : Nat) (s : State) : State :=
  if mv < 8500 then (s.readVin mv).startSave 2 else s

/-- VIN_MONITOR_TRIP. -/
def execVinMonitorTrip (mv : BitVec 16) (s : State) : Host.Outcome State Fault Refusal := .next (doVinMonitorTrip mv.toNat s)

/-- FINAL_SAVE: both metering domains freeze. -/
def doFinalSave (s : State) : State :=
  if s.saving then [Wick.a, Wick.b].foldl (fun (t : State) w => if t.on (HDR.RUNNING (w.page 7)) then t.freezeDom w true else t) s else s

/-- FINAL_SAVE. -/
def execFinalSave (s : State) : Host.Outcome State Fault Refusal := .next (doFinalSave s)

/-- A wick goes OFF with its domains. -/
def State.wickOff (s : State) (w : Wick) : State :=
  let t := (s.abortTest w).domOff w
  let t := if t.role w = .off then t else t.enter w .off
  t.shutWick w

/-- Every domain except PD0 goes off: both wicks are OFF, sessions end, the update path loses its open pages. -/
def State.domainsOff (s : State) : State :=
  let t := s.bistEnd 8 0
  let t := if t.handing then t.closeHandover 5 else t
  let t := (t.wickOff .a).wickOff .b
  { (t.setAll [(PWR.PD_ON, t.get PWR.PD_ON % 2), (PWR.PD_SLEEP, 0)]) with
    saving := false, authorSince := none, fifos := []
    hl := { t.hl with opening := none, response := [] }
    upd := { t.upd with opened := [], dry := none, switchAt := none, tookAt := none }
    power := { t.power with started := false, waiting := false } }

/-- The ledger writes its open bucket (R124, R126). -/
def State.saveLedger (s : State) : State :=
  let l := s.ledger
  { s with ledger :=
    { l with savedOpen := some (s.subs.map (fun i => (l.account i).headD 0)), snapTime := s.now, snapTrusted := s.on TIME.TRUSTED, snapValid := true } }

/-- FINAL_SAVE_DONE: the save ends; `valid`: its energy lasted to the final commit word. -/
def doFinalSaveDone (valid : Bool) (s : State) : State :=
  if s.saving then
    let t := doFinalSave s
    let t := if valid then
        let u := ((t.commitSave .a).commitSave .b).saveLedger
        { u with power := { u.power with word := some u.power.saveTrig }, arb := { u.arb with savedBuckets := u.arb.buckets } }
      else t
    t.domainsOff
  else s

/-- FINAL_SAVE_DONE. -/
def execFinalSaveDone (valid : Bool) (s : State) : Host.Outcome State Fault Refusal := .next (doFinalSaveDone valid s)

/-- VHOLD_EXHAUSTED: with VIN away too, PD0 switches off, and with it whatever still ran. -/
def doVholdExhausted (mv : Nat) (s : State) : State :=
  if mv < 7000 ∧ s.get PWR.VIN_MV < 8500 ∧ s.pdOn 0 = true then
    let t := s.domainsOff
    let t := t.setAll [(PWR.PD_ON, 0), (PWR.VHOLD_MV, mv), (PWR.HOLD_READY, 0), (PWR.XTAL_OK, 0)]
    { t with power := { t.power with restored := false }, hl := { t.hl with key := none } }
  else s

/-- VHOLD_EXHAUSTED. -/
def execVholdExhausted (mv : BitVec 16) (s : State) : Host.Outcome State Fault Refusal := .next (doVholdExhausted mv.toNat s)

/-! ### The ledger at a start (R125, R126) -/

/-- A dwell account charged DWELL_MS for DWELL_WIN_S. -/
def Bank.fullDwell (b : Bank) : List Nat := [1000 * b.dwellMs]

/-- A list with a number added at an index, filled up with zeros. -/
def addAt : List Nat → Nat → Nat → List Nat
  | [], 0, x => [x]
  | [], i + 1, x => 0 :: addAt [] i x
  | a :: l, 0, x => (a + x) :: l
  | a :: l, i + 1, x => a :: addAt l i x

/-- The buckets of a sub-band as the snapshot restores them, `age` seconds after it. DEDUCED (log entry 64). -/
def Ledger.restored (l : Ledger) (i age window : Nat) : List Nat :=
  let open_ := l.boundaries % 60
  let put := fun (b : List Nat) (k x : Nat) => if window < k then b else addAt b k x
  let b := put [] age ((l.savedOpen.getD []).getD i 0)
  let b := (List.range open_).foldl (fun b n => put b (age + 1 + n) ((l.secondRing.getD n []).getD i 0)) b
  (List.range 60).foldl (fun b j => put b (age + open_ + 60 * j + 1) ((l.minuteRing.getD j []).getD i 0)) b

/-- The records that stand for the buckets of the accounts now. DEDUCED (log entry 64). -/
def State.rewriteRings (s : State) : State :=
  let l := s.ledger
  let open_ := l.boundaries % 60
  { s with ledger :=
    { l with
      secondRing := (List.range 64).map (fun n => s.subs.map (fun i => (l.account i).getD (n + 1) 0))
      minuteRing := (List.range 60).map (fun j => s.subs.map (fun i => (((l.account i).drop (open_ + 1 + 60 * j)).take 60).sum)) } }

/-- Everything is presumed full from this start on: every sub-band of the active profile, or, where none is active, the ledger as a whole. -/
def State.presumeAll (s : State) : State :=
  { s with ledger :=
    { s.ledger with
      accounts := [], dwells := [], startBase := s.base, presumedAll := if s.active.profFilled then none else some s.base, savedOpen := none, secondRing := [], minuteRing := []
      presumed := s.subs.map (fun i => (i, s.base + secs (s.active.sub i).window)) } }

/-- The ledger's start at which PD0 was powered on with a snapshot. DEDUCED (log entry 180). -/
def State.ledgerStart (s : State) : State :=
  let l := s.ledger
  let b := s.active
  if (l.snapValid && l.snapTrusted && s.on TIME.TRUSTED) = false then s.presumeAll
  else
    let age := (s.now - l.snapTime) / 32768
    let kept := s.subs.filter (fun i => decide (age < (b.sub i).window))
    let accounts : Map (List Nat) := kept.map (fun i => (i, l.restored i age (b.sub i).window))
    let dwells := if b.access && decide (age < b.dwellWin) then (List.range b.nChan).map (fun c => (c, b.fullDwell)) else []
    let gap := l.savedOpen.isNone && kept != []
    let accounts := if gap then s.subs.map (fun i => (i, chargeOpen (accounts.getD i []) 2000000)) else accounts
    let t := { s with ledger := { l with accounts := accounts, dwells := dwells, startBase := s.base, presumedAll := none, presumed := [] } }
    let t := (t.set DUTY.RESTORED (b2n (kept != []))).set DUTY.GAP_CHARGED (b2n gap)
    if gap then (t.event srcPilot 0x0301 [s.subs.length]).raise 0xC 17 else t

/-- The ledger's buckets are counted on from this base cycle. -/
def State.alignBuckets (s : State) : State :=
  let t := s.rewriteRings
  { t with ledger := { t.ledger with boundaries := t.base / 32768 } }

/-- The ledger at a start of a cause. DEDUCED (log entries 64, 167). -/
def State.startLedger (s : State) (cause : Nat) : State :=
  if cause = 2 ∨ cause = 3 then (s.set DUTY.RESTORED 0).set DUTY.GAP_CHARGED 0
  else if cause = 1 then s.ledgerStart.alignBuckets
  else
    let t := s.presumeAll
    { t with ledger := { t.ledger with snapValid := false, boundaries := t.base / 32768 } }

/-! ### Module starts (R44, R365 to R370) -/

/-- START_CAUSE of a start that begins now. -/
def State.startCause (s : State) : Nat :=
  if s.power.factory then 4
  else if s.power.restored then (if s.power.saveTrig = 3 then 3 else 2)
  else if s.power.recorded then 1 else 0

/-- The registers at a start of a cause: reset values at first power-up and after a factory reset; restored and volatile ones otherwise,
where a ride-through leaves the Pilot domain's pages but those of the mailbox as they stood, and PAGE_LOCK with them.
  DEDUCED (log entry 166); DESIGN CHOICE (log entry 162). -/
def State.startRegs (s : State) (cause : Nat) : State :=
  if cause = 0 ∨ cause = 4 then s.resetAll
  else
    let locks := decide (cause = 2)
    let wicks := [Wick.a, Wick.b].flatMap (fun w => (List.range 13).map (fun n => w.page n))
    let t := s.dropSubmissions.resetPages ([5, 6, 7, 8, 9, 0xA, 0xF] ++ wicks) locks
    let t := if cause = 2 then t else t.resetPages [0, 1, 2, 0xB, 0xC, 0xE] false
    let t := if cause = 1 then t.resetPage 0xD false [] else if cause = 3 then t.resetPage 0xD false timeFields else t
    t.resetPages [3, 4] locks

/-- PAGE_LOCK as the journal holds it is cleared. DEDUCED (log entry 19). -/
def State.clearLocks (s : State) : State :=
  { s with journal := s.journal.filter (fun c => c.1 % 131072 / 32 ≠ 0x028) }

/-- Whether the last FABRIC settings written power the backbone (R363). -/
def State.backboneOn (s : State) : Bool :=
  let held := fun (f : Field) => s.journal.getD f.journalKey f.reset = 1
  held (HDR.ENABLE (Wick.a.page 0xB)) && (held (FABRIC.P0_EN .a) || held (FABRIC.P1_EN .a))

/-- What the engines lose at every module start, when both wicks, the MSS, the vault and the host link have been off.
DEDUCED (log entries 66, 163). -/
def State.startEngines (s : State) (kept ride : Bool) : State :=
  let x := { s with
    roleA := .off, roleB := .off, stoppedA := false, stoppedB := false, saving := false, authorSince := none
    hold := [], locks := [], fifos := [], chPoster := [], chWaiting := [], window := []
    timers := if kept then s.timers.filter (fun c => decide (152 = c.1 ∨ 200 ≤ c.1)) else []
    bist := none
    hl := { s.hl with key := none, opening := none, response := [] }
    link := { s.link with
      fcnt := s.link.fcntCeiling, fabCnt := s.link.fabCeiling, grants := [], onAir := [], blankEnd := [], copies := [], taper := none, acks := []
      records := [], lastPhr := [], seen := [], lastPsdu := [], sentSfd := [] }
    arb := { Arb.empty with
      buckets := if kept then s.arb.buckets else s.arb.savedBuckets, savedBuckets := s.arb.savedBuckets, failed := s.arb.failed
      soak := s.arb.soak, testDone := s.arb.testDone, leftAuthor := s.arb.leftAuthor, firstCold := s.arb.firstCold, ckpts := s.arb.ckpts
      hour := s.base / secs 3600, lastSwap := if ride then s.arb.lastSwap else 0 } }
  let f := { Fab.empty with lsaSeq := s.fab.lsaSeq, counters := s.fab.counters, fwdNext := s.fab.fwdNext, fwdAcked := s.fab.fwdAcked
                            collected := s.fab.collected, queue := s.fab.queue }
  let (c, x) := x.drawBytes 16
  { x with
    fab := { f with remote := { f.remote with challenge := c } }
    clock := { x.clock with ports := [], gnss := Clock.empty.gnss, gnssOff := none, ptpOff := none, airOff := [] }
    camp := { x.camp with load := none, op := none }
    meter := { x.meter with capture := none, views := [] }
    wave := { x.wave with buffer := [] }
    upd := { x.upd with opened := [], onTrial := [], meterTrial := [], mssTrial := false, dry := none, switchAt := none, tookAt := none }
    vault := { x.vault with root := [], tries := 0, snKey := [], masks := [], rngDown := false }
    cab := { x.cab with tx := [], rx := [], csb := false }
    mss := { hot := false, damp := false, light := false, rails := [], since := x.base } }

/-- What a start finds of the update path: a trial is rolled back, an erase or a verification that ran is lost, a commit record with a
bad CRC is replaced by the first slots whose images pass verification (R408, R416, R421). DESIGN CHOICE (log entries 158, 161). -/
def State.startUpdate (s : State) (lost : Option (Bool × Bool)) : State :=
  let t := s.updateCut
  let t := match lost with
    | some (a, b) =>
      (t.setAll [(UPDATE.SLOT_A, b2n a), (UPDATE.SLOT_B, b2n b), (UPDATE.COMMIT_STATE, 0)]).event Master.mss.id 0x0B01 []
    | none => t
  if t.trial then t.rolledBack 7 else t

/-- The pads as MODULE_START finds them: PFAIL_LEVEL and the level of RESET_N. DEDUCED (log entry 204). -/
def State.readPads (s : State) (resetHigh pfailHigh : Bool) : State :=
  ({ s with power := { s.power with resetLow := !resetHigh } } : State).set PWR.PFAIL_LEVEL (b2n (!pfailHigh))

/-- Whether the conditions of R365 hold; a start has none before it that is still to be saved. -/
def State.mayStart (s : State) : Bool :=
  s.on PWR.VIN_OK && !s.power.resetLow && (!s.on PWR.PFAIL_LEVEL || !s.on PWR.VIO_OK) && s.pdOn 0 && !s.power.started && !s.saving

/-- MODULE_START: with the pads as they are, the conditions of R365 have held for 100 ms, or they do not hold. `lost`: the update commit record
has a bad CRC, with the slot each wick starts from. DEDUCED (log entries 164, 166, 204); DESIGN CHOICE (log entries 161, 168, 173). -/
def doModuleStart (resetHigh pfailHigh : Bool) (lost : Option (Bool × Bool)) (s : State) : State :=
  let s := if s.pdOn 0 then s.readPads resetHigh pfailHigh else s
  if s.mayStart = false then s
  else
    let cause := s.startCause
    let kept := s.power.restored
    let ko := s.koState
    let p := s.power
    let result := if p.ran = false ∨ cause = 4 then 0 else if p.word.isSome then 1 else 2
    let trig := if p.ran = false ∨ cause = 4 then 0 else match p.word with
      | some t => t
      | none => if kept then p.saveTrig else 0
    let outage := if cause = 2 then min (quant (((s.base - p.saveSince : Nat) : Rat) * 1000 / 32768)).toNat 0xFFFF else 0
    let open_ := s.sessionOpen
    let t := (s.startEngines kept (decide (cause = 2))).startRegs cause
    let t := if kept then t else (t.showWindows .a).showWindows .b
    let t := if cause = 2 then t else t.clearLocks
    let t := t.setAll [(PWR.SAVE_RESULT, result), (PWR.SAVE_TRIGGER, trig), (PWR.START_CAUSE, cause),
      (PWR.OUTAGE_MS, outage), (PWR.START_CNT, (t.get PWR.START_CNT + 1) % 2 ^ 32), (PWR.PD_SLEEP, 0)]
    let t := t.set PWR.PD_ON (0x703 + (if t.backboneOn then 0x800 else 0))
    let t := { t with power := { p with
      ran := false, word := none, started := true, startBase := s.base, mramAt := s.base, restored := true, waiting := true, warmed := false, recorded := true
      factory := false, frKey := [] } }
    let t := if cause = 0 ∨ cause = 4 then { t with log := { t.log with rate := [], buckets := [] } } else t
    let t := ((t.deferQueue.scanLog).newChallenge).startLedger cause
    let t := (t.startUpdate lost).armKf (Nat.xor ko t.koState)
    let t := [Wick.a, Wick.b].foldl (fun (t : State) w => if t.on (HDR.ENABLE (w.page 7)) then t.powerDom w else t) t
    let t := if cause = 2 then t.raise 1 3 else t
    let t := if open_ then t.raise 0xF 2 else t
    if t.on PWR.HOLD_READY then t.chooseStart
    else if t.get PWR.HOLD_WAIT_S = 0 then doHoldWaitExpiry t else t

/-- MODULE_START. -/
def execModuleStart (lost : Option (Bool × Bool)) (s : State) (resetHigh : Bool := true) (pfailHigh : Bool := true) : Host.Outcome State Fault Refusal :=
  .next (doModuleStart resetHigh pfailHigh lost s)

/-! ### Factory reset (R371) -/

/-- A write of FR_KEY or CMD: from any master but the MSS and the secure port it is ignored and counted. -/
def State.resetWrite (s : State) (m : Master) (k : State → State) : State :=
  s.write m 1 0x05C [] (fun s =>
    if m = .mss ∨ m = .hostS then k s else (s.countErr 1 m 1 0x05C 0x1).set PWR.CMD_STATUS 2)

/-- A write of FR_KEY. DEDUCED (log entry 143). -/
def doFrKeyWrite (m : Master) (v : Nat) (s : State) : State :=
  s.resetWrite m (fun s =>
    let k := s.power.frKey
    { s with power := { s.power with frKey := if v = 0x5C4F then k.put m.id s.base else k.del m.id } })

/-- FR_KEY_WRITE. -/
def execFrKeyWrite (m : Master) (v : BitVec 16) (s : State) : Host.Outcome State Fault Refusal := .next (doFrKeyWrite m v.toNat s)

/-- What a factory reset erases and what it keeps. -/
def State.eraseAll (s : State) : State :=
  let t := s.domainsOff
  let l := s.link
  let r := State.reset
  let t := { t.resetAll with
    now := 0, journal := [], jseq := 0, ring := r.ring, hold := [], locks := [], timers := [], cfg := r.cfg, chPoster := [], chWaiting := [], window := []
    log := { t.log with rate := [], buckets := [] }
    ledger := { r.ledger with boundaries := s.base / 32768 }
    link := { r.link with seqNext := l.seqNext, seqCeiling := l.seqCeiling, fcnt := l.fcnt, fcntCeiling := l.fcntCeiling, fabCnt := l.fabCnt
                          fabCeiling := l.fabCeiling }
    hl := { t.hl with key := none }, txn := r.txn, keyLeft := [], reg := r.reg, wave := r.wave, meter := r.meter, attr := r.attr, camp := Camp.idle
    arb := { Arb.empty with hour := s.base / secs 3600 }
    fab := { Fab.empty with counters := s.fab.counters }
    clock := Clock.empty
    cab := { r.cab with kf := s.cab.kf }
    power := { t.power with ran := false, word := none, recorded := false, factory := true, frKey := [] } }
  t

/-- CMD = FACTORY_RESET. DEDUCED (log entries 143, 165). -/
def doFactoryReset (m : Master) (s : State) : State :=
  s.resetWrite m (fun s =>
    match s.power.frKey.get? m.id with
    | some b =>
      if s.base ≤ b + secs 1 then s.eraseAll.event srcPilot 0x0202 [m.id] else s.set PWR.CMD_STATUS 1
    | none => s.set PWR.CMD_STATUS 1)

/-- FACTORY_RESET. -/
def execFactoryReset (m : Master) (s : State) : Host.Outcome State Fault Refusal := .next (doFactoryReset m s)

/-! ### VAUX_OUT (R381) -/

/-- VAUX_OVERCURRENT. -/
def execVauxOvercurrent (s : State) : Host.Outcome State Fault Refusal :=
  .next (if s.vauxOn then (s.set PWR.VAUX_FAULT 1).raise 1 2 else s)

end Sys2Proof.Machine
end

