-- ==== Sys2Proof/Machine/Cabinet.lean ====
section
/-! DEFINITION. Cabinet I/O: contactors and their feedback, GPIO, the RS-485 UART, the CSB controller (R373 to R379, R382). -/

namespace Sys2Proof.Machine

/-- Cabinet I/O takes a value. -/
def State.setCab (s : State) (x : Cabinet) : State := { s with cab := x }

/-! ### Contactors (R373 to R375) -/

/-- A write of KO_OUT: a wick's write leaves the outputs of KO_HOST_MASK as they are. -/
def doKoOutWrite (m : Master) (v : Nat) (s : State) : State :=
  s.write m 0xE 0x040 [] (fun s =>
    let mask := if m = .wickA ∨ m = .wickB then s.get CABINET_IO.KO_HOST_MASK else 0
    s.setKo ((List.range 4).foldl (fun x n => if bit mask n then x else setBits x n 1 (bits v n 1)) (s.get CABINET_IO.KO_OUT)))

/-- KO_OUT_WRITE. -/
def execKoOutWrite (m : Master) (v : BitVec 4) (s : State) : Host.Outcome State Fault Refusal := .next (doKoOutWrite m v.toNat s)

/-- KF_IN: the debounced inputs after KF_POL; 1 closed. -/
def State.kfIn (s : State) : Nat := Nat.xor s.cab.kf (s.get CABINET_IO.KF_POL) % 16

/-- KF_INPUT_CHANGE: a KF pad has stood at a level for 20 ms; the mismatch timer of its output starts again. -/
def doKfInputChange (n : Nat) (v : Bool) (s : State) : State :=
  if s.pdOn 0 && (bit s.cab.kf n != v) then
    (s.setCab { s.cab with kf := setBits s.cab.kf n 1 (b2n v) }).arm (tmKf n) (millis (s.get CABINET_IO.KF_DELAY_MS))
  else s

/-- KF_INPUT_CHANGE. -/
def execKfInputChange (n : Fin 4) (v : Bool) (s : State) : Host.Outcome State Fault Refusal := .next (doKfInputChange n.val v s)

/-- KF_MISMATCH_TIMER: an output and its feedback have stood for KF_DELAY_MS. They disagree where the contactor reads closed though its
coil is driven, or open though it is not. DEDUCED (log entry 172). -/
def doKfMismatchTimer (n : Nat) (s : State) : State :=
  if s.pdOn 0 = false ∨ (s.armed (tmKf n) = true ∧ s.due (tmKf n) = false) then s
  else
    let t := s.disarm (tmKf n)
    let wrong := bit t.kfIn n == bit t.koState n
    let old := t.get CABINET_IO.KO_MISMATCH
    if wrong then
      (if bit (t.get CABINET_IO.KF_CHECK) n && !bit old n then
        ((t.set CABINET_IO.KO_MISMATCH (setBits old n 1 1)).event srcPilot 0x0203 [n, t.koState, t.kfIn]).raise 0xE 0
       else t)
    else t.set CABINET_IO.KO_MISMATCH (setBits old n 1 0)

/-- KF_MISMATCH_TIMER. -/
def execKfMismatchTimer (n : Fin 4) (s : State) : Host.Outcome State Fault Refusal := .next (doKfMismatchTimer n.val s)

/-! ### GPIO (R376) -/

/-- Whether an edge of a pin sets its event bit. -/
def State.edgeSeen (s : State) (n : Nat) (rising : Bool) : Bool :=
  bit (s.get (if rising then CABINET_IO.GPIO_RISE else CABINET_IO.GPIO_FALL)) n

/-- GPIO_EDGE: the level of a pin's pad changes. -/
def doGpioEdge (n : Nat) (rising : Bool) (s : State) : State :=
  if s.pdOn 0 && s.on PWR.VIO_OK then
    let t := s.set CABINET_IO.GPIO_IN (setBits (s.get CABINET_IO.GPIO_IN) n 1 (b2n rising))
    if t.edgeSeen n rising then (t.set CABINET_IO.GPIO_EVT (setBits (t.get CABINET_IO.GPIO_EVT) n 1 1)).raise 0xE 1 else t
  else s

/-- GPIO_EDGE. -/
def execGpioEdge (n : Fin 12) (rising : Bool) (s : State) : Host.Outcome State Fault Refusal := .next (doGpioEdge n.val rising s)

/-- A write of GPIO_EVT clears the bits written 1, but for those whose edge falls in the same cycle (R10). -/
def doGpioEvtClear (m : Master) (v same : Nat) (s : State) : State :=
  s.write m 0xE 0x060 [] (fun s =>
    s.set CABINET_IO.GPIO_EVT ((List.range 12).foldl (fun x n => if bit v n && !bit same n then setBits x n 1 0 else x)
      (s.get CABINET_IO.GPIO_EVT)))

/-- GPIO_EVT_CLEAR; `same` holds the pins with an edge in the same cycle. -/
def execGpioEvtClear (m : Master) (v same : Word) (s : State) : Host.Outcome State Fault Refusal :=
  .next (doGpioEvtClear m v.toNat same.toNat s)

/-! ### The RS-485 UART (R378) -/

/-- A write of TX_DATA; while the UART is off the byte goes nowhere. DEDUCED (log entry 170). -/
def doTxDataWrite (m : Master) (v : Byte) (s : State) : State :=
  s.write m 0xE 0x074 [] (fun s =>
    if s.on CABINET_IO.UART_EN = false then s
    else if 64 ≤ s.cab.tx.length then s.set CABINET_IO.TX_OVF 1
    else s.setCab { s.cab with tx := s.cab.tx ++ [v] })

/-- TX_DATA_WRITE. -/
def execTxDataWrite (m : Master) (v : Byte) (s : State) : Host.Outcome State Fault Refusal := .next (doTxDataWrite m v s)

/-- Whether the UART's pads work. -/
def State.uartRuns (s : State) : Bool := s.on CABINET_IO.UART_EN && s.on PWR.VIO_OK && s.pdOn 0 && !s.saving

/-- UART_TX_EMPTY: the burst has been sent, and DE falls. -/
def execUartTxEmpty (s : State) : Host.Outcome State Fault Refusal :=
  .next (if s.uartRuns && !s.cab.tx.isEmpty then (s.setCab { s.cab with tx := [] }).raise 0xE 3 else s)

/-- UART_BYTE_RECEIVED: the receiver ignores the line while DE is high. -/
def doUartByteReceived (v : Byte) (parity frame : Bool) (s : State) : State :=
  if s.uartRuns && s.cab.tx.isEmpty then
    if 64 ≤ s.cab.rx.length then s.set CABINET_IO.RX_OVF 1
    else (s.setCab { s.cab with rx := s.cab.rx ++ [(v, parity, frame)] }).raise 0xE 2
  else s

/-- UART_BYTE_RECEIVED, with whether the byte failed parity and lacked its stop bit. -/
def execUartByteReceived (v : Byte) (parity frame : Bool) (s : State) : Host.Outcome State Fault Refusal :=
  .next (doUartByteReceived v parity frame s)

/-- The word of RX_DATA. -/
def State.rxWord (s : State) : Nat :=
  match s.cab.rx with
  | [] => 0
  | (v, p, f) :: _ => v.toNat + 2 ^ 8 + 2 ^ 9 * b2n p + 2 ^ 10 * b2n f

/-- A read of RX_DATA. -/
def doRxDataRead (m : Master) (s : State) : State :=
  match minimum? (s.readCodes m 0xE) with
  | some c => { (s.countErr (errPage 0xE c) m 0xE 0x078 c) with busData := 0 }
  | none => { s with busData := BitVec.ofNat 32 s.rxWord, cab := { s.cab with rx := s.cab.rx.drop 1 } }

/-- RX_DATA_READ. -/
def execRxDataRead (m : Master) (s : State) : Host.Outcome State Fault Refusal := .next (if s.acts m then doRxDataRead m s else s)

/-- Clearing UART_EN. -/
def doUartDisable (m : Master) (s : State) : State :=
  s.write m 0xE 0x008 [] (fun s => (s.set CABINET_IO.UART_EN 0).setCab { s.cab with tx := [], rx := [] })

/-- UART_DISABLE. -/
def execUartDisable (m : Master) (s : State) : Host.Outcome State Fault Refusal := .next (doUartDisable m s)

/-! ### The CSB controller (R379) -/

/-- A write of GO: refused while a transfer runs, with both lengths 0, or while the controller is off. DEDUCED (log entry 171). -/
def doGo (m : Master) (s : State) : State :=
  s.write m 0xE 0x084 [] (fun s =>
    if s.cab.csb = true ∨ (s.get CABINET_IO.CSB_WLEN = 0 ∧ s.get CABINET_IO.CSB_RLEN = 0) ∨ s.on CABINET_IO.CSB_EN = false ∨ s.saving = true then
      s.set CABINET_IO.CSB_STATUS 6
    else (s.setCab { s.cab with csb := true }).set CABINET_IO.CSB_STATUS 1)

/-- GO. -/
def execGo (m : Master) (s : State) : Host.Outcome State Fault Refusal := .next (doGo m s)

/-- CSB_TRANSFER_END: the transfer ends with a status, 2 to 5, and the bytes it read. -/
def doCsbTransferEnd (code : Nat) (data : List Byte) (s : State) : State :=
  if s.cab.csb then
    let old := s.wordBytes CABINET_IO.CSB_RDATA 4
    let got := data.take (s.get CABINET_IO.CSB_RLEN)
    let t := s.setWords CABINET_IO.CSB_RDATA 0 (toWords (got ++ old.drop got.length))
    ((t.setCab { t.cab with csb := false }).set CABINET_IO.CSB_STATUS code).raise 0xE 4
  else s

/-- CSB_TRANSFER_END: 0 DONE, 1 ADDR_NACK, 2 DATA_NACK, 3 TIMEOUT. -/
def execCsbTransferEnd (end_ : Fin 4) (data : List Byte) (s : State) : Host.Outcome State Fault Refusal :=
  .next (doCsbTransferEnd (end_.val + 2) data s)

end Sys2Proof.Machine
end

