-- ==== Sys2Proof/Machine/Tables.lean ====
section
/-! DEFINITION. The windowed table ports (R53 to R56, R186, R187) and the controller's mailbox service over the same tables (R94). -/

namespace Sys2Proof.Machine

/-- A command of a table port (R54); a WRITE carries the entry's bytes. -/
inductive PortCmd where
  | read
  | write (entry : List Byte)
  | erase
deriving DecidableEq, Repr

/-- The guard lock of a port (R53). -/
def portGuard : PortId → Nat
  | .registry => 25
  | .sched => 26
  | .wave => 27

/-- The bank a port's bank bit selects. -/
def State.bankOf (s : State) (shadow : Bool) : Bank := if shadow then s.shadow else s.active

/-- Whether a table is banked: the registry and the traffic profile are not (R184, R235). -/
def Table.banked (t : Table) : Bool := t.store = .bank

/-- The bytes a READ of an entry answers: JOIN_KEY of the registry reads as zero (R55, R184, R235). -/
def State.readEntry (s : State) (w : Wick) (t : Table) (shadow : Bool) (i : Nat) : List Byte :=
  match t.store with
  | .bank => (s.bankOf shadow).mem.entry t i
  | .registry =>
    let e := s.reg.mem.entry t i
    e.take 8 ++ List.replicate 16 0 ++ e.drop 24
  | .profile => s.profileRates w i

/-- The change count of a table in a bank (R54, R55). -/
def State.tableGen (s : State) (t : Table) (shadow : Bool) : Nat :=
  match t.store with
  | .bank => (s.bankOf shadow).tableGens.getD t.base 0
  | .registry => s.reg.gen
  | .profile => s.wave.profGen

/-- The number that n bytes at an offset of an entry spell. -/
def entryNum (e : List Byte) (off n : Nat) : Nat := leNat ((e.drop off).take n)

/-- Whether a host WRITE of a registry entry is refused as invalid (R186). HOME and PHASE are written only while PIN is 1, and are
judged only then. DEDUCED (log entry 34). -/
def State.entryInvalid (s : State) (i : Nat) (e : List Byte) : Bool :=
  let a := i + 1
  let st := entryNum e 0x18 1
  let node := entryNum e 0x00 8
  let old := s.entryState a
  !(st = 1 || st = 3 || st = 4) ||
  s.entries.any (fun b => b != a && s.entryState b != 0 && s.nodeId b = node) ||
  ((old = 2 || old = 5 || old = 6) && node != s.nodeId a) ||
  (bit (entryNum e 0x19 1) 1 && !s.active.homeOk (entryNum e 0x1A 1) (entryNum e 0x1C 2)) ||
  !cloOk ((e.drop 0x44).take 32)

/-- A host WRITE of a registry entry takes effect (R55, R186, R193): fields marked RO keep their values, a JOIN_KEY of zeros keeps
the stored one, HOME and PHASE are taken while PIN is 1, a change of NODE_ID resets what is known of the lantern. DEDUCED (log entry 34). -/
def State.writeRegistry (s : State) (i : Nat) (e : List Byte) : State :=
  let a := i + 1
  let old := s.entryState a
  let node := entryNum e 0x00 8
  let st := entryNum e 0x18 1
  let flags := entryNum e 0x19 1 % 16
  let key := (e.drop 8).take 16
  let newNode := node != s.nodeId a
  let feed := entryNum e 0x1B 1
  let clo := (e.drop 0x44).take 32
  let cloDiffers := clo != s.reg.mem.read (tabRegistry.at i + 0x44) 32
  let pinned := bit flags 1
  let home := if pinned then entryNum e 0x1A 1 else s.home a
  let phase := if pinned then entryNum e 0x1C 2 else s.samplePhase a
  let params := home != s.home a || phase != s.samplePhase a || bit flags 0 != s.entryFlag a 0 ||
    bit flags 2 != s.entryFlag a 2 || bit flags 3 != s.entryFlag a 3
  let t := if newNode || feed != s.rget a 0x1B 1 then s.clearBase a else s
  let t := if newNode then (t.rset a 0x00 8 node).setLantern a Lantern.unknown else t
  let t := if key.all (· = 0) then t else t.rset a 0x08 16 (leNat key)
  let t := if st = 1 && (old = 2 || old = 5 || old = 6) then t else t.rset a 0x18 1 st
  let t := (((t.rset a 0x19 1 flags).rset a 0x1A 1 home).rset a 0x1B 1 feed).rset a 0x1C 2 phase
  let t := (t.rset a 0x30 4 (entryNum e 0x30 4)).rset a 0x44 32 (leNat clo)
  let t := if old = 0 then t.rset a 0x22 2 0xFFFF else t
  let t := if params then t.raisePush a 0 else t
  let t := if cloDiffers then t.raisePush a 3 else t
  if old = 2 ∧ (st = 3 ∨ st = 4) then (t.keyDone a).sendLeave a else t

/-- The codes that refuse a command on a table: R53 to R56, R186, R235. -/
def State.entryCodes (s : State) (m : Master) (w : Wick) (port : PortId) (table : Nat) (shadow : Bool) (i : Nat) (c : PortCmd) : List Nat :=
  let guard := if s.guardHeld m (portGuard port) then [0x3] else []
  match portTable port table with
  | none => guard ++ [0x7] ++ (if c = .read then [] else s.authorCode w)
  | some t =>
    let range := if i < t.entries then [] else [0x7]
    if c = .read then guard ++ range
    else
      guard ++ range ++ s.authorCode w ++
      (if t.banked && shadow && s.guardHeld m 24 then [0x3] else []) ++
      (if t.banked && s.swapArmed then [0x6] else []) ++
      (if t.banked && !shadow then [0xD] else []) ++
      (if t.store = .profile then [0xE] else []) ++
      (match c with
       | .write e => if t.store = .registry && s.entryInvalid i e then [0xE] else []
       | _ => [])

/-- A WRITE or ERASE of an entry that no rule refuses takes effect, but while a final save runs (R23); a READ changes no table. -/
def State.applyEntry (s : State) (port : PortId) (table i : Nat) (c : PortCmd) : State :=
  match portTable port table with
  | none => s
  | some t =>
    if s.saving then s else
    match c, t.store with
    | .read, _ => s
    | .write e, .bank => s.writeShadow { s.shadow.touchTable t with mem := s.shadow.mem.write (t.at i) (e.take t.bytes) }
    | .erase, .bank => s.writeShadow { s.shadow.touchTable t with mem := s.shadow.mem.clear (t.at i) t.bytes }
    | .write e, .registry => s.writeRegistry i e
    | .erase, .registry =>
      if s.entryState (i + 1) = 2 then (s.sendLeave (i + 1)).eraseEntry (i + 1) true
      else if s.entryState (i + 1) = 0 then s else s.eraseEntry (i + 1) false
    | _, .profile => s

/-! ### The ports (R54, R55) -/

/-- The FAIL_CODE of a page access code (R55). -/
def failCode (code : Nat) : Nat :=
  if code = 0x7 then 1 else if code = 0xD then 2 else if code = 0xE then 3 else if code = 0x3 then 4 else if code = 0x5 then 5
  else if code = 0x6 then 6 else 0

/-- The entry PORT_DATA holds. -/
def State.portEntry (s : State) (p : Nat) : List Byte := s.wordBytes (PORT.DATA p) 32

/-- A command written to a port: ignored and counted while another runs; refused with FAIL and FAIL_CODE; else it is carried out and
runs until its completion. LAST_INDEX names the index of a refused one too. DESIGN CHOICE (log entries 33, 187). -/
def doPortCmd (m : Master) (w : Wick) (port : PortId) (c : PortCmd) (autoInc : Bool) (s : State) : State :=
  let p := w.page (portPos port)
  let table := s.get (PORT.TABLE p)
  let shadow := s.on (PORT.BANK p)
  let i := s.get (PORT.INDEX p)
  let codes := s.entryCodes m w port table shadow i c
  s.write m p 0x108 (if s.on (PORT.BUSY p) then 0x8 :: codes else []) (fun s =>
    let s := s.setAll [(PORT.DONE p, 0), (PORT.FAIL p, 0), (PORT.FAIL_CODE p, 0), (PORT.LAST_INDEX p, i)]
    match minimum? codes with
    | some code => ((s.countErr p m p 0x108 code).set (PORT.FAIL p) 1).set (PORT.FAIL_CODE p) (failCode code)
    | none =>
      let t := s.applyEntry port table i c
      let t := match c, portTable port table with
        | .read, some tab =>
          let e := t.readEntry w tab shadow i
          t.setWords (PORT.DATA p) 0 (toWords (e ++ List.replicate (128 - e.length) 0))
        | _, _ => t
      (t.set (PORT.BUSY p) 1).set (PORT.AUTO_INC p) (b2n autoInc))

/-- PORT_READ. -/
def execPortRead (m : Master) (w : Wick) (port : PortId) (autoInc : Bool) (s : State) : Host.Outcome State Fault Refusal :=
  .next (doPortCmd m w port .read autoInc s)

/-- PORT_WRITE: the entry is the one PORT_DATA holds. -/
def execPortWrite (m : Master) (w : Wick) (port : PortId) (autoInc : Bool) (s : State) : Host.Outcome State Fault Refusal :=
  .next (doPortCmd m w port (.write (s.portEntry (w.page (portPos port)))) autoInc s)

/-- PORT_ERASE. -/
def execPortErase (m : Master) (w : Wick) (port : PortId) (autoInc : Bool) (s : State) : Host.Outcome State Fault Refusal :=
  .next (doPortCmd m w port .erase autoInc s)

/-- PORT_CMD_DONE: BUSY clears, DONE is set, AUTO_INC advances INDEX. DESIGN CHOICE (log entry 33). -/
def doPortCmdDone (w : Wick) (port : PortId) (s : State) : State :=
  let p := w.page (portPos port)
  if s.on (PORT.BUSY p) && !s.stopped w && !s.saving then
    let t := s.setAll [(PORT.BUSY p, 0), (PORT.DONE p, 1), (PORT.AUTO_INC p, 0)]
    if s.on (PORT.AUTO_INC p) then t.wrapInc (PORT.INDEX p) else t
  else s

/-- PORT_CMD_DONE. -/
def execPortCmdDone (w : Wick) (port : PortId) (s : State) : Host.Outcome State Fault Refusal := .next (doPortCmdDone w port s)

/-! ### The controller mailbox service (R94) -/

/-- The wick that receives a channel's message. -/
def State.chWick (s : State) (ch : Nat) : Option Wick :=
  match s.get (MBOX.RECEIVER ch) with
  | 2 => some .a
  | 3 => some .b
  | 7 => s.controller
  | _ => none

/-- Where a channel's message area starts in the shared window (R86). -/
def State.chArea (s : State) (ch : Nat) : Nat := (if ch < 8 then 0 else 0x20000) + s.get (MBOX.OFFSET ch)

/-- A request to the controller is served: it is pending and announced at a wick that runs, its opcode is the one given; the answer is
acknowledged with the code the service returns. -/
def State.serve (s : State) (ch opcode : Nat) (k : State → Master → Wick → Nat × State) : State :=
  match s.chWick ch, (s.chPoster.get? ch).bind Master.ofId with
  | some w, some m =>
    if s.on (MBOX.PENDING ch) && s.on (MBOX.ANNOUNCED ch) && s.get (MBOX.OPCODE ch) = opcode && !s.stopped w then
      let (code, t) := k s m w
      doChAck w.master ch code (s.get (MBOX.POST_SEQ ch)) false t
    else s
  | _, _ => s

/-- The port that a wick page position names. -/
def portAt : Nat → Option PortId
  | 4 => some .registry
  | 5 => some .sched
  | 6 => some .wave
  | _ => none

/-- A request as its header gives it: port, table number, table, bank, first entry, count. -/
structure Request where
  port : PortId
  number : Nat
  table : Table
  shadow : Bool
  first : Nat
  count : Nat

/-- The header of a table request, or the code that answers it (Controller Return Codes). A BANK other than 0 and 1 names no bank of a
banked table; a COUNT outside 1 to 4,096 exceeds the table. DEDUCED (log entry 32). -/
def State.requestOf (s : State) (ch : Nat) : Request ⊕ Nat :=
  let h := s.window.read (s.chArea ch) 16
  if s.get (MBOX.LENGTH ch) < 16 then .inr 0x0003
  else
    match (portAt (entryNum h 0 1)).bind (fun p => (portTable p (entryNum h 1 1)).map (fun t => (p, t))) with
    | none => .inr 0x0001
    | some (p, t) =>
      let bank := entryNum h 2 1
      let first := entryNum h 4 2
      let count := entryNum h 6 2
      if entryNum h 3 1 ≠ 0 ∨ entryNum h 10 6 ≠ 0 ∨ entryNum h 8 2 ≠ t.bytes ∨ (t.banked = true ∧ 1 < bank) then .inr 0x0001
      else if count = 0 ∨ 4096 < count ∨ t.entries < first + count then .inr 0x0002
      else if s.get (MBOX.LENGTH ch) < 16 + count * t.bytes then .inr 0x0003
      else .inl ⟨p, entryNum h 1 1, t, bank = 1, first, count⟩

/-- The codes under which a master's access to the table's page is refused (R33, R43): a read needs the page readable, a change needs it
writable. DEDUCED (log entry 32). -/
def State.requestCodes (s : State) (m : Master) (page : Nat) (write : Bool) : List Nat :=
  if write then s.writeCodes m page 0x108 else s.readCodes m page

/-- Entries k, k + 1, … of a request, as many as `left`, stopping at the first refused: the return code, and the state after. A refused entry is
counted at the offset of PORT_CMD. DESIGN CHOICE (log entry 188). -/
def State.serveEntries (s : State) (m : Master) (w : Wick) (ch : Nat) (r : Request) (cmd : List Byte → PortCmd) : Nat → Nat → Nat × State
  | 0, _ => (0x0000, s)
  | left + 1, k =>
    let page := w.page (portPos r.port)
    let at_ := s.chArea ch + 16 + k * r.table.bytes
    let c := cmd (s.window.read at_ r.table.bytes)
    match minimum? (s.requestCodes m page (c != .read) ++ s.entryCodes m w r.port r.number r.shadow (r.first + k) c) with
    | some code => (0x1000 + k, s.countErr (errPage page code) m page 0x108 code)
    | none =>
      let t := s.applyEntry r.port r.number (r.first + k) c
      let t := if c = .read then { t with window := t.window.write at_ (t.readEntry w r.table r.shadow (r.first + k)) } else t
      State.serveEntries t m w ch r cmd left (k + 1)

/-- A table request is carried out as the sending master (R94). DEDUCED (log entry 32). -/
def doTableRequest (ch opcode : Nat) (write : Bool) (cmd : List Byte → PortCmd) (s : State) : State :=
  s.serve ch opcode (fun s m w =>
    if s.isController w = false then (0x0005, s)
    else if m = .hostN ∧ write = true then (0x0004, s)
    else match s.requestOf ch with
      | .inr code => (code, s)
      | .inl r => if write = true ∧ s.isAuthor w = false then (0x0005, s) else s.serveEntries m w ch r cmd r.count 0)

/-- TABLE_READ. -/
def execTableRead (ch : Fin 16) (s : State) : Host.Outcome State Fault Refusal :=
  .next (doTableRequest ch.val 0x0201 false (fun _ => .read) s)

/-- TABLE_WRITE. -/
def execTableWrite (ch : Fin 16) (s : State) : Host.Outcome State Fault Refusal :=
  .next (doTableRequest ch.val 0x0202 true PortCmd.write s)

/-- TABLE_ERASE. -/
def execTableErase (ch : Fin 16) (s : State) : Host.Outcome State Fault Refusal :=
  .next (doTableRequest ch.val 0x0203 true (fun _ => .erase) s)

/-- RESULTS: the oldest result records move from the result queue into the message area (R94, R181). DEDUCED (log entry 32). -/
def doResults (ch : Nat) (s : State) : State :=
  s.serve ch 0x0204 (fun s m w =>
    let h := s.window.read (s.chArea ch) 16
    let count := entryNum h 6 2
    if s.isController w = false then (0x0005, s)
    else if m = .hostN then (0x0004, s)
    else if s.get (MBOX.LENGTH ch) < 16 then (0x0003, s)
    else if entryNum h 0 1 ≠ 0 ∨ entryNum h 3 1 ≠ 0 ∨ entryNum h 8 2 ≠ 20 ∨ entryNum h 10 6 ≠ 0 then (0x0001, s)
    else if count = 0 ∨ 4096 < count then (0x0002, s)
    else if s.get (MBOX.LENGTH ch) < 16 + 20 * count then (0x0003, s)
    else
      let l := s.txn.results.take count
      (0x2000 + l.length,
        State.jot { s with window := s.window.write (s.chArea ch + 16) (l.flatMap (fun r => r.flatMap (leBytes 4)))
                           txn := { s.txn with results := s.txn.results.drop count } }))

/-- RESULTS. -/
def execResults (ch : Fin 16) (s : State) : Host.Outcome State Fault Refusal := .next (doResults ch.val s)

end Sys2Proof.Machine
end

