-- ==== Sys2Proof/Machine/Cfg.lean ====
section
/-! DEFINITION. The commands on the whole configuration bank, the swap, and what each content type does when it takes effect (R57 to R65, R123, R186, R193, R204, R215, R456). -/

namespace Sys2Proof.Machine

/-! ### Validation (R59) -/

/-- The content types of the shadow bank that fail validation. DEDUCED (log entry 37). -/
def State.shadowFails (s : State) : Nat :=
  let b := s.shadow
  b2n (!b.schedOk) + 4 * b2n (!b.graphOk (s.get (FABRIC.SEG_ID s.cw))) + 8 * b2n (!b.wavesOk) + 16 * b2n (!b.profileOk) +
  32 * b2n (!s.plansOk b)

/-- A configuration state takes a value, journalled (R57): nothing changes while a final save runs (R23). -/
def State.setCfg (s : State) (x : Cfg) : State := if s.saving then s else State.jotAs { s with cfg := x } .bank

/-- An ARM is refused (R65). -/
def State.refuseArm (s : State) (w : Wick) (reason : Nat) : State :=
  (s.setCfg { s.cfg with state := 4, reason := reason }).raise (w.page 0xC) 1

/-- Why timed mode is refused now, 0 where it is not: the time is untrusted, or lies less than 100 ms ahead (R60).
DEDUCED (log entry 35); DESIGN CHOICE (log entry 185). -/
def State.timedReason (s : State) (time : Nat) : Nat :=
  if s.on TIME.TRUSTED = false then 3 else if time < s.now + millis 100 then 2 else 0

/-- A write of ARM (R59, R65). ALREADY_ARMED comes before every other refusal, for it changes nothing. The time of a timed swap is taken here:
a later write of CFG_SWAP_TIME does not move an armed swap. DEDUCED (log entry 35); DESIGN CHOICE (log entry 185). -/
def State.arm1 (s : State) (w : Wick) (mode : Nat) : State :=
  let time := s.get2 (CFGBANK.CFG_SWAP_TIME_LO w) (CFGBANK.CFG_SWAP_TIME_HI w)
  if s.swapArmed then { s with cfg := { s.cfg with reason := 5 } }
  else if s.on (HDR.ENABLE (w.page 0xC)) = false then s.refuseArm w 6
  else if mode ≠ 1 ∧ mode ≠ 2 then s.refuseArm w 1
  else if s.cfg.cmd.isSome ∨ s.cfg.preset.isSome then s.refuseArm w 9
  else if mode = 2 ∧ s.timedReason time ≠ 0 then s.refuseArm w (s.timedReason time)
  else s.setCfg { s.cfg with state := 1, reason := 0, failedTypes := 0, swapMode := mode, swapTime := time }

/-- A write of CANCEL (R64). -/
def State.cancel1 (s : State) (w : Wick) : State :=
  if s.swapArmed then (s.setCfg { s.cfg with state := 5, reason := 0 }).raise (w.page 0xC) 2
  else { s with cfg := { s.cfg with reason := 8 } }

/-- A write of the word that holds MODE, ARM and CANCEL: MODE takes its value first, then ARM acts, then CANCEL.
DESIGN CHOICE (log entry 184). -/
def doCfgControl (m : Master) (w : Wick) (v : Nat) (k : State → State) (s : State) : State :=
  let page := w.page 0xC
  s.write m page 0x040 (s.plainCodes m page 0x040 ++ (if bit v 8 ∨ bit v 9 then s.authorCode w else [])) (fun s =>
    let t := s.storeWord m page 0x040 v
    let t := if bit v 8 then t.arm1 w (bits v 0 2) else t
    if bit v 9 then k t else t)

/-- CFG_ARM. -/
def execCfgArm (m : Master) (w : Wick) (mode : BitVec 2) (s : State) : Host.Outcome State Fault Refusal :=
  .next (doCfgControl m w (mode.toNat + 2 ^ 8) id s)

/-- CFG_VALIDATION_DONE: the swap is armed with its instant, or refused (R59, R60, R63). The interval is the one in effect before
the swap; a timed swap is judged again, its trust in the time included. DESIGN CHOICE (log entry 185). -/
def doCfgValidationDone (s : State) : State :=
  match s.author with
  | none => s
  | some w =>
    if s.cfg.state = 1 ∧ s.stopped w = false ∧ s.saving = false then
      let fails := s.shadowFails
      (if fails ≠ 0 then ({ s with cfg := { s.cfg with failedTypes := fails } } : State).refuseArm w 4
      else if s.cfg.swapMode = 2 then
        if s.timedReason s.cfg.swapTime ≠ 0 then s.refuseArm w (s.timedReason s.cfg.swapTime)
        else s.setCfg { s.cfg with state := 2, swapAt := s.cfg.swapTime }
      else s.setCfg { s.cfg with state := 2, swapAt := nextMultiple (s.now + millis 100) s.active.beaconTicks }).settleBanks
    else s

/-- CFG_VALIDATION_DONE. -/
def execCfgValidationDone (s : State) : Host.Outcome State Fault Refusal := .next (doCfgValidationDone s)

/-! ### What takes effect at the swap -/

/-- Whether two ranges overlap. DEDUCED (log entry 38). -/
def overlaps (a b : Nat × Nat) : Bool := decide (a.1 < b.2 ∧ b.1 < a.2)

/-- Lists of buckets added bucket by bucket. -/
def addBuckets : List Nat → List Nat → List Nat
  | [], b => b
  | a, [] => a
  | x :: a, y :: b => (x + y) :: addBuckets a b

/-- What a sub-band account hangs on: its range, its budget, its window. DEDUCED (log entry 38). -/
def Bank.subKey (b : Bank) (i : Nat) : (Nat × Nat) × Nat × Nat := (((b.sub i).low, (b.sub i).high), (b.sub i).budget, (b.sub i).window)

/-- The sub-bands of a bank's profile: none where it is empty. -/
def Bank.subsOf (b : Bank) : List Nat := if b.profFilled then List.range b.nSub else []

/-- The channels of a bank's profile that keep dwell accounts. -/
def Bank.dwellChans (b : Bank) : List Nat := if b.profFilled && b.access then b.chans else []

/-- The nominal width of a channel, as a range in kHz. -/
def Bank.chanRange (b : Bank) (c : Nat) : Nat × Nat :=
  ((b.chan c).centre - halfWidth (b.chan c).rate, (b.chan c).centre + halfWidth (b.chan c).rate)

/-- The channel table of a profile as bytes. -/
def Bank.chanTable (b : Bank) : List Byte := leBytes 1 b.nChan ++ b.mem.read (tabProfile.base + 0x100) 0x200

/-- The ledger carries its accounts over (R123); a presumption stays with every sub-band whose range overlaps one that is presumed, and
a presumption of the whole ledger passes to the sub-bands of the first profile (R125). DEDUCED (log entry 38). -/
def State.carryLedger (s : State) (old new : Bank) : State :=
  let l := s.ledger
  let keep := old.subsOf.map old.subKey == new.subsOf.map new.subKey
  let near := fun (i : Nat) => old.subsOf.filter (fun j => overlaps (old.subKey j).1 (new.subKey i).1)
  let accounts := if keep then l.accounts else new.subsOf.map (fun i => (i, (near i).foldl (fun b j => addBuckets b (l.account j)) []))
  let keepDwell := old.chanTable == new.chanTable && old.access == new.access && old.dwellMs == new.dwellMs && old.dwellWin == new.dwellWin &&
    old.profFilled == new.profFilled
  let dwells := if keepDwell then l.dwells
    else new.dwellChans.map (fun c =>
      if !old.access then (c, new.fullDwell)
      else (c, (old.dwellChans.filter (fun d => overlaps (old.chanRange d) (new.chanRange c))).foldl (fun b d => addBuckets b (l.dwell d)) []))
  let presumed : Map Nat :=
    if !new.profFilled then l.presumed
    else if !old.profFilled then
      (match l.presumedAll with
       | some b => (new.subsOf.map (fun i => (i, b + secs (new.sub i).window))).filter (fun p => decide (s.base < p.2))
       | none => l.presumed)
    else if keep then l.presumed
    else (new.subsOf.map (fun i => (i, (near i).foldl (fun e j => max e (l.presumed.getD j 0)) 0))).filter (fun p => decide (s.base < p.2))
  s.endPresumptions { l with accounts := accounts, dwells := dwells, presumed := presumed
                             presumedAll := if new.profFilled then none else l.presumedAll }

/-- A pinned entry that the new profile leaves out of range loses PIN, is assigned its sample parameters, and is PARAMS-pending (R186). -/
def State.checkPin (s : State) (a : Nat) : State :=
  if s.entryFlag a 1 && s.active.profFilled && !s.active.homeOk (s.home a) (s.samplePhase a) then
    ((s.rset a 0x19 1 (setBits (s.rget a 0x19 1) 1 1 0)).assignSample a).raisePush a 0
  else s

/-- What a change of the region profile brings about: accounts, demodulators, pinned entries, CHANPLAN pushes (R101, R123, R186, R193).
DEDUCED (log entry 39). -/
def State.profileSwapped (s : State) (old new : Bank) : State :=
  let t := s.carryLedger old new
  let t := (t.releaseDemods .a).releaseDemods .b
  let t := t.entries.foldl (fun (t : State) a => t.checkPin a) t
  if old.chanTable == new.chanTable then t else t.registeredList.foldl (fun (t : State) a => t.raisePush a 4) t

/-- What a program's plan is made of: its entry, its steps, its exceptions with the steps of the programs that replace it. -/
def Bank.planData (b : Bank) (p : Nat) : List Byte :=
  let steps := fun (q : Nat) => (b.progSteps q).flatMap (fun i => b.mem.entry tabSteps i)
  b.mem.entry tabPrograms p ++ steps p ++
  ((b.mem.used tabExceptions).filter (fun i => b.exc i 5 1 != 0 && (b.exc i 4 1 = p || b.exc i 4 1 = 0xFF))).flatMap (fun i =>
    b.mem.entry tabExceptions i ++ (if b.exc i 5 1 = 1 then steps (b.exc i 6 1) else []))

/-- What a change of the schedule or of the group map brings about (R193, R199, R204): GROUPS and SCHED pushes, a plan sent to every
affected target, today's steps resolved again. Where UTC is not known, or the transaction engine is off, the plan cannot be sent, and the
members become SCHED-pending. DEDUCED (log entry 39). -/
def State.scheduleSwapped (s : State) (old new : Bank) : State :=
  let l := s.registeredList
  let t := (l.filter (fun a => old.mem.entry tabGroups (a - 1) != new.mem.entry tabGroups (a - 1))).foldl
    (fun (t : State) a => t.raisePush a 1) s
  let t := (l.filter (fun a => old.programFor a != new.programFor a)).foldl (fun (t : State) a => t.raisePush a 2) t
  let affected := new.programs.filter (fun p =>
    !old.progOn p || old.planData p != new.planData p ||
    l.filter (old.names (old.progTarget p)) != l.filter (new.names (new.progTarget p)))
  let t := affected.foldl (fun (t : State) p =>
    if t.schedRuns && t.utcOk && t.on (HDR.ENABLE (t.cw.page 3)) then t.sendPlan p
    else (l.filter (new.names (new.progTarget p))).foldl (fun (t : State) a => t.raisePush a 2) t) t
  { t with reg := { t.reg with day := none } }

/-- The lanterns of a bank's street nodes. -/
def Bank.lanternsOfNodes (b : Bank) : List Nat := (List.range b.nNodes).map b.nodeLantern

/-- Whether a swap changes the street graph or the wave programs. -/
def wavesChange (changed : Nat) (old new : Bank) : Bool :=
  bit changed 2 || bit changed 3 || old.nNodes != new.nNodes || old.nEdges != new.nEdges

/-- What a change of the street graph brings about, beside the end of every track under the old configuration (R215). -/
def State.waveSwapped (s : State) (old new : Bank) : State :=
  if old.lanternsOfNodes != new.lanternsOfNodes then s.profileReset else s

/-- The swap (R61): the commit word names the other half, counts the swap, and all seven content types take effect together. -/
def State.swapNow (s : State) (w : Wick) : State :=
  let old := s.active
  let new := s.shadow
  let changed := s.dirtyTypes
  let count := (s.cfg.commitCount + 1) % 2 ^ 16
  let half := !s.cfg.activeHalf
  let s := if wavesChange changed old new then s.endTracks true else s
  let t := s.setCfg { s.cfg with
    activeHalf := half, commitHalf := half, commits := commitOf half count s.now :: s.cfg.commits.take 1, commitCount := count, state := 3,
    reason := 0, lastAt := s.now }
  let t := (t.raise (w.page 0xC) 0).event t.srcCtl 0x0103 [count, s.now, s.now / 2 ^ 24]
  let t := if bit changed 4 then t.profileSwapped old new else t
  let t := if bit changed 0 ∨ bit changed 1 then t.scheduleSwapped old new
    else if bit changed 6 then { t with reg := { t.reg with day := none } } else t
  if wavesChange changed old new then t.waveSwapped old new else t

/-- CFG_SWAP_INSTANT: an armed swap whose instant has come takes effect (R60 to R62). -/
def doCfgSwapInstant (s : State) : State :=
  match s.author with
  | none => s
  | some w => if s.cfg.state = 2 ∧ s.cfg.swapAt ≤ s.now ∧ s.stopped w = false ∧ s.saving = false then (s.swapNow w).settleBanks else s

/-- CFG_SWAP_INSTANT. -/
def execCfgSwapInstant (s : State) : Host.Outcome State Fault Refusal := .next (doCfgSwapInstant s)

/-- A CANCEL in the cycle in which the swap takes effect (R64): the swap completes, and REASON reads ALREADY_DONE. -/
def State.cancelAtSwap (s : State) (w : Wick) : State :=
  let t := doCfgSwapInstant s
  if s.cfg.state = 2 ∧ t.cfg.state = 3 then { t with cfg := { t.cfg with reason := 7 } } else t.cancel1 w

/-- CFG_CANCEL; `same` says that the swap's instant falls in this cycle. -/
def execCfgCancel (m : Master) (w : Wick) (mode : BitVec 2) (same : Bool) (s : State) : Host.Outcome State Fault Refusal :=
  .next (doCfgControl m w (mode.toNat + 2 ^ 9) (fun t => if same then t.cancelAtSwap w else t.cancel1 w) s)

/-! ### Bank commands (R65, R456) -/

/-- A write of CFG_CMD. DESIGN CHOICE (log entry 36). -/
def doCfgCmd (m : Master) (w : Wick) (c : BankCmd) (s : State) : State :=
  let page := w.page 0xC
  s.write m page 0x068 (s.plainCodes m page 0x068 ++ s.authorCode w ++ (if s.swapArmed then [0x6] else []) ++
      (if s.cfg.cmd.isSome then [0x8] else []))
    (fun s => s.setCfg { s.cfg with cmd := some c, cmdDone := false, cmdFailed := 0 })

/-- COPY_ACTIVE. -/
def execCopyActive (m : Master) (w : Wick) (s : State) : Host.Outcome State Fault Refusal := .next (doCfgCmd m w .copyActive s)

/-- CLEAR_SHADOW. -/
def execClearShadow (m : Master) (w : Wick) (s : State) : Host.Outcome State Fault Refusal := .next (doCfgCmd m w .clearShadow s)

/-- VALIDATE. -/
def execValidate (m : Master) (w : Wick) (s : State) : Host.Outcome State Fault Refusal := .next (doCfgCmd m w .validate s)

/-- The running bank command ends, at the wick that holds AUTHOR: the shadow bank is copied or cleared, or judged. CMD_DONE is raised for a
VALIDATE that fails too. DESIGN CHOICE (log entries 36, 186). -/
def doCfgCmdDone (s : State) : State :=
  match s.cfg.cmd, s.author with
  | some c, some w =>
    if s.stopped w ∨ s.saving then s
    else
      let fails := match c with
        | .validate => s.shadowFails
        | _ => 0
      let t := match c with
        | .copyActive => s.writeShadow s.copiedShadow
        | .clearShadow => s.writeShadow s.clearedShadow
        | .validate => s
      ((t.setCfg { t.cfg with cmd := none, cmdDone := decide (fails = 0), cmdFailed := fails }).raise (w.page 0xC) 3).settleBanks
  | _, _ => s

/-- CFG_CMD_DONE. -/
def execCfgCmdDone (s : State) : Host.Outcome State Fault Refusal := .next (doCfgCmdDone s)

end Sys2Proof.Machine
end

