-- ==== Sys2Proof/Machine/Views.lean ====
section
/-! DEFINITION. What the registers show that hold no value of their own: status bits, counts, windows on the engines, summaries (R39, R45, R46 and the register tables of every page), and what the driven pads show (R334, R352, R374 to R378, R402, R452). Each list gives the fields of one page that are such views, with their values. -/

namespace Sys2Proof.Machine

/-! ### Interrupt conditions (R41) -/

/-- A source that is a condition, as its IRQ_RAW bit where it holds. -/
def irqBit (n : Nat) (c : Bool) : Nat := if c then 2 ^ n else 0

/-- Words of a FIFO that are committed and unread. -/
def State.fifoLevel (s : State) (f : Nat) : Nat := (s.fifo f).words.length

/-- Whether a frame counter has reached a value (R139). -/
def State.fcntAt (s : State) (v : Nat) : Bool := [Wick.a, Wick.b].any (fun w => decide (v ≤ s.link.fcnt.getD w.idx 0))

/-- The result records a wick's TXN page shows. -/
def State.hostFull (s : State) (w : Wick) : Bool := s.hostHeld = s.get (TXN.HOST_MAX w)

/-- Whether a neighbour of the fabric is UP. -/
def State.fabUp (s : State) : Bool := s.fab.neighbours.any Neighbour.up

/-- Whether the charger delivers current: VIN is present, no save runs, the store is not full (R361). -/
def State.charging (s : State) : Bool := s.on PWR.VIN_OK && !s.saving && decide (s.get PWR.VHOLD_MV < 12000)

/-- The condition sources of a shared page that hold. -/
def State.sharedConditions (s : State) (page : Nat) : Nat :=
  match page with
  | 0 => irqBit 6 (s.roleA = .snowdrop || s.roleB = .snowdrop) + irqBit 7 s.arb.noController
  | 1 => irqBit 0 (s.on (HDR.ENABLE 1) && decide (s.get PWR.VIN_MV < s.get PWR.VIN_WARN_MV)) +
         irqBit 1 (s.on (HDR.ENABLE 1) && s.power.warmed && !s.on PWR.HOLD_READY)
  | 5 => (List.range 4).foldl (fun n f =>
           n + irqBit f (decide (0 < s.fifoLevel f)) +
           irqBit (4 + f) (decide (s.get (STREAM.LEVEL_IRQ f) ≠ 0 ∧ s.get (STREAM.LEVEL_IRQ f) ≤ s.fifoLevel f))) 0
  | 7 => irqBit 0 s.mss.hot + irqBit 1 s.mss.damp + irqBit 2 s.mss.light
  | 9 => irqBit 3 s.vault.rngDown + irqBit 4 (!s.on VAULT.ROOT_OK && decide (4 ≤ s.vault.tries))
  | 0xB => irqBit 1 (!s.on TAMPER.LOOP_EN && !s.on TAMPER.LOOP_OK) + irqBit 2 (!s.on TAMPER.LID_EN && !s.on TAMPER.LID_CLOSED)
  | 0xC => s.subs.foldl (fun n i => n + irqBit i (decide (s.get DUTY.WARN_PCT ≠ 0 ∧ s.get DUTY.WARN_PCT ≤ s.usedPct i))) 0
  | 0xD => irqBit 3 (s.on (HDR.ENABLE 0xD) && !s.on TIME.TRUSTED)
  | 0xE => irqBit 0 (s.get CABINET_IO.KO_MISMATCH ≠ 0) + irqBit 1 (s.get CABINET_IO.GPIO_EVT ≠ 0) + irqBit 2 (!s.cab.rx.isEmpty)
  | _ => 0

/-- The condition sources of a wick's page that hold. -/
def State.wickConditions (s : State) (w : Wick) (pos : Nat) : Nat :=
  let p := w.page pos
  match pos with
  | 0 => irqBit 1 (decide (768 < s.sinceCkpt))
  | 1 => irqBit 3 (s.on (HDR.ENABLE p) && !s.active.profFilled)
  | 2 => irqBit 4 (s.fcntAt 0xF0000000) + irqBit 5 (s.on (HDR.ENABLE p) && !s.active.usable)
  | 3 => irqBit 1 (!s.txn.results.isEmpty) + irqBit 4 (s.hostFull w)
  | 4 => irqBit 0 (!s.reg.notices.isEmpty)
  | 5 => irqBit 1 (s.on (HDR.ENABLE p) && !s.utcOk)
  | 7 => irqBit 3 (s.on (METER.SEQ_REVERSED w)) + irqBit 4 (s.on (METER.MISSING_NEUTRAL w)) + irqBit 6 (s.on (METER.FAULT w))
  | 0xB => irqBit 3 (!s.fab.conflicts.isEmpty || s.on (FABRIC.ADDR_CONFLICT w) || s.on (FABRIC.SEG_CONFLICT w)) +
           irqBit 4 (s.on (HDR.ENABLE p) && !s.fabUp)
  | _ => 0

/-- The condition sources of a physical page that hold, while it is ready. DESIGN CHOICE (log entry 12). -/
def State.conditions (s : State) (page : Nat) : Nat :=
  if s.pageReady page then
    match pageWick page with
    | some w => s.wickConditions w (page % 16)
    | none => s.sharedConditions page
  else 0

/-- Every physical page. -/
def physicalPages : List Nat := List.range 0x10 ++ (List.range 0xD).map (0x10 + ·) ++ (List.range 0xD).map (0x20 + ·)

/-- The condition sources set their bits (R41): this happens in every cycle. DESIGN CHOICE (log entry 12). -/
def State.latchConditions (s : State) : State :=
  physicalPages.foldl (fun (t : State) p =>
    if s.conditions p = 0 then t else t.set (HDR.IRQ_RAW p) (t.get (HDR.IRQ_RAW p) ||| s.conditions p)) s

/-! ### The interrupt summary (R45, R46) -/

/-- The pending bit of a page number for a reading master. -/
def State.pendBit (s : State) (m : Master) (page : Nat) : Bool :=
  match s.resolve page with
  | .inr _ => false
  | .inl p => decide (p % 16 < 0xD ∨ p < 0x10) && (s.pageDown p).isNone && s.irqStat p ≠ 0 && !(m = .hostN && !nsMayRead p)

/-- IRQ_PEND0 for page 0, IRQ_PEND1 for page 0x20. -/
def State.irqPend (s : State) (m : Master) (start : Nat) : Nat :=
  (List.range 32).foldl (fun n i => n + irqBit i (s.pendBit m (start + i))) 0

/-- HOST_IRQ_N is held low (R45). DESIGN CHOICE (log entry 175). -/
def State.hostIrq (s : State) : Bool :=
  (List.range 32).any (fun i =>
    (bit (s.get HOSTLINK.IRQ_ROUTE0) i && s.pendBit .hostS i) || (bit (s.get HOSTLINK.IRQ_ROUTE1) i && s.pendBit .hostS (0x20 + i)))

/-! ### The header of a page (R39) -/

/-- Whether a shared page's block has work in progress. The spec says for no page what this is: the model's choice.
DESIGN CHOICE (log entry 17). -/
def State.sharedBusy (s : State) (page : Nat) : Bool :=
  match page with
  | 0 => s.handing
  | 1 => s.saving
  | 3 => (List.range 8).any (fun c => s.on (MBOX.PENDING c))
  | 4 => (List.range 8).any (fun c => s.on (MBOX.PENDING (8 + c)))
  | 5 => (List.range 4).any (fun f => s.on (STREAM.FLUSH_BUSY f) || (s.fifo f).openSlots.isSome)
  | 6 => !s.log.queue.isEmpty
  | 8 => s.bist.isSome
  | 0xA => [1, 4, 7].contains (s.get UPDATE.U_STATE)
  | 0xB => s.snuffing
  | 0xE => s.cab.csb || !s.cab.tx.isEmpty
  | 0xF => s.hl.opening.isSome
  | _ => false

/-- Whether a wick page's block has work in progress. DESIGN CHOICE (log entry 17). -/
def State.wickBusy (s : State) (w : Wick) (pos : Nat) : Bool :=
  match pos with
  | 1 => s.cfg.preset.isSome
  | 2 => s.link.onAir.has w.idx
  | 3 => (List.range 64).any (fun n => (s.slot n).live)
  | 4 => s.on (PORT.BUSY (w.page 4))
  | 5 => s.on (PORT.BUSY (w.page 5))
  | 6 => s.on (PORT.BUSY (w.page 6)) || !s.wave.waves.isEmpty
  | 7 => s.meter.capture.isSome
  | 9 => s.session.isSome
  | 0xA => s.camp.op.isSome || (decide (1 ≤ s.camp.state ∧ s.camp.state ≤ 7) || s.camp.state = 10)
  | 0xB => s.fab.rpa.isSome
  | 0xC => s.swapArmed || s.cfg.cmd.isSome
  | _ => false

/-- The STATUS bits every page shows: RUNNING follows ENABLE, but for the metering pages, which have a bit of their own (R246).
DESIGN CHOICE (log entry 17). -/
def State.statusBits (s : State) (page : Nat) : List (Field × Nat) :=
  let busy := match pageWick page with
    | some w => s.wickBusy w (page % 16)
    | none => s.sharedBusy page
  [(HDR.BUSY page, b2n busy)] ++
  (if 0x10 ≤ page ∧ (page % 16 = 7 ∨ page % 16 = 8) then [] else [(HDR.RUNNING page, s.get (HDR.ENABLE page))])

/-- SHADOW_CTL's bits for whether the page has SH fields and whether they differ between the banks (R39). -/
def State.shadowCtl (s : State) (page : Nat) : Nat :=
  if 0x10 ≤ page ∧ pageHasSh (page % 16) = true then 1 + 2 * b2n (s.pageDirty (page % 16)) else 0

/-- The header words that are no plain fields: PAGE_ID, PAGE_VER, LOCKED and SHADOW_DIRTY of STATUS, IRQ_STAT, SHADOW_CTL. -/
def State.headerPart (s : State) (page off : Nat) : Nat :=
  if reservedPage page then 0
  else if off = 0x000 then page + 2 ^ 24 * 0xC4
  else if off = 0x004 then 0x100
  else if off = 0x00C then
    4 * b2n (s.on (HDR.NS_LOCK page) || s.on (HDR.HOST_LOCK page)) + 8 * (s.shadowCtl page / 2 % 2)
  else if off = 0x018 then s.irqStat page
  else if off = 0x02C then s.shadowCtl page
  else 0

/-! ### Shared pages -/

/-- Views of PILOT. DEDUCED (log entry 121). -/
def State.pilotViews (s : State) (off : Nat) : List (Field × Nat) :=
  if off = 0x00C then [(PILOT.AUTHOR_PRESENT, b2n s.author.isSome), (PILOT.HO_BUSY, b2n s.handing)]
  else if off = 0x040 then
    [(PILOT.ROLE_A, s.roleA.code), (PILOT.ROLE_B, s.roleB.code),
     (PILOT.CONTROLLER, match s.controller with | none => 0 | some w => 1 + w.idx)]
  else if 0x080 ≤ off then
    [Wick.a, Wick.b].flatMap (fun w =>
      [(PILOT.ELIGIBILITY w.idx, s.eligibility w),
       (PILOT.NEXT_TEST w.idx, match s.testDue w with | some t => (s.now + (t - s.base)) / 2 ^ 16 | none => 0)])
  else []

/-- Views of PWR. VAUX_MV reads 0 while VAUX_OUT is off; its reading while on is open. -/
def State.pwrViews (s : State) (off : Nat) : List (Field × Nat) :=
  if off = 0x00C then [(PWR.TCXO_RUN, b2n s.tcxoRuns), (PWR.CHARGING, b2n s.charging)]
  else if off = 0x048 then [(PWR.VAUX_MV, if s.vauxOn then Config.random s.fresh else 0)]
  else []

/-- Views of LOCKS for a reading master. -/
def State.locksViews (s : State) (m : Master) (off : Nat) : List (Field × Nat) :=
  if off = 0x040 then [(LOCKS.LOCK_HELD, s.locks.foldl (fun n p => n + 2 ^ p.1) 0)]
  else if off = 0x048 then [(LOCKS.MY_ID, m.id)]
  else if 0x100 ≤ off ∧ off < 0x180 then
    let n := (off - 0x100) / 4
    [(LOCKS.HELD n, b2n (s.locks.has n)), (LOCKS.PEEK_OWNER n, s.locks.getD n 0)]
  else []

/-- Views of STREAM. -/
def State.streamViews (s : State) : List (Field × Nat) :=
  (List.range 4).flatMap (fun f =>
    [(STREAM.EMPTY f, b2n ((s.fifo f).words.isEmpty)), (STREAM.PKT_OPEN f, b2n (s.fifo f).openSlots.isSome),
     (STREAM.LEVEL f, min (s.fifoLevel f) 0xFFFF)])

/-- The records the event log holds. -/
def Log.count (l : Log) : Nat := ((l.area.map (fun c => c.1 / 32)).dedup).length

/-- Views of EVLOG. -/
def State.evlogViews (s : State) : List (Field × Nat) :=
  let l := s.log
  let code := s.get EVLOG.RL_CODE
  let fixed := decide (code ∈ fixedCodes)
  [(EVLOG.NEWEST_SEQ, l.newest.getD 0), (EVLOG.OLDEST_SEQ, (l.newest.getD 0 + 2 ^ 32 + b2n (l.count != 0) - l.count) % 2 ^ 32),
   (EVLOG.REC_COUNT, l.count), (EVLOG.QUEUE_LEVEL, l.queue.length),
   (EVLOG.RL_RATE, if code ∈ limitedCodes then l.rateOf code else 0), (EVLOG.RL_FIXED, b2n fixed),
   (EVLOG.RL_KNOWN, b2n (fixed || decide (code ∈ limitedCodes))), (EVLOG.RL_PENDING, l.pendingSup.getD code 0)]

/-- Views of MSS. DEDUCED (log entry 180). -/
def State.mssViews (s : State) : List (Field × Nat) :=
  let slot := if s.upd.mssTrial then 1 - s.slotOf .a else s.slotOf .a
  [(MSS.MSS_FW_VER, ((s.upd.images.get? (imageKey .a slot 4)).map FwImage.version).getD (Config.madeVersion 4)),
   (MSS.MSS_UPTIME_S, (s.base - s.mss.since) / 32768)]

/-- Views of VAULT: the slot SLOT_SEL names. The two derived slots hold their keys while the root is regenerated (R385, R386). -/
def State.vaultViews (s : State) (off : Nat) : List (Field × Nat) :=
  let n := s.get VAULT.SLOT_SEL
  let held := s.keys.has n || ((n = 7 || n = 8) && !s.vault.root.isEmpty)
  let x := s.keys.get? n
  let kcv := match x with
    | some k => leNat (checkValue (slotType n) k.key)
    | none => if n = 7 ∧ held = true then leNat ((sha256 s.devicePub).take 4) else 0
  if off = 0x00C then [(VAULT.SNUFFED, s.get TAMPER.SNUFFED)]
  else if off = 0x040 then [(VAULT.VAULT_STATE, s.vaultState)]
  else if off = 0x04C then
    [(VAULT.S_STATE, b2n held), (VAULT.S_TYPE, slotType n), (VAULT.S_HALF, match x with | some k => b2n k.half | none => 0)]
  else if off = 0x050 then [(VAULT.S_GEN, s.slotGen n)]
  else if off = 0x054 then [(VAULT.S_KCV, kcv)]
  else if off = 0x060 then [(VAULT.PUSH_LEFT, s.keyLeft.length)]
  else if 0x080 ≤ off ∧ off < 0x0C0 then
    [(VAULT.DEVICE_PUB ((off - 0x080) / 4), leNat ((s.devicePub.drop (off - 0x080)).take 4))]
  else []

/-- Views of UPDATE. -/
def State.updateViews (s : State) (off : Nat) : List (Field × Nat) :=
  let missing := (stagingPages (s.get UPDATE.STG_LEN) != 0 && s.get UPDATE.U_STATE = 2)
  if off = 0x00C then [(UPDATE.OP_BUSY, b2n (s.sharedBusy 0xA))]
  else if off = 0x054 then
    [(UPDATE.STG_MISSING, s.upd.missing.length),
     (UPDATE.STG_FIRST_MISSING, match minimum? s.upd.missing with
       | some p => p
       | none => if missing then 0x1FFF else if s.get UPDATE.U_STATE = 0 then 0 else 0x1FFF)]
  else if 0x06C ≤ off ∧ off ≤ 0x078 then
    match s.upd.parts[s.get UPDATE.PART_SEL]? with
    | some p => [(UPDATE.P_TYPE, p.type), (UPDATE.P_FLAGS, p.flags), (UPDATE.P_RESET_MASK, p.mask), (UPDATE.P_VERSION, p.version),
        (UPDATE.P_COMPAT_MIN, p.compatMin), (UPDATE.P_COMPAT_MAX, p.compatMax)]
    | none => []
  else if off = 0x084 then
    [(UPDATE.PROBATION_LEFT_S, match s.upd.tookAt with
      | some b => s.secsLeft (b + secs (s.get UPDATE.PROBATION_S))
      | none => 0)]
  else []

/-- Views of DUTY. With no profile active, or for a sub-band the profile has not, the sub-band's words read 0. DEDUCED (log entry 180). -/
def State.dutyViews (s : State) (off : Nat) : List (Field × Nat) :=
  let left := fun (i : Nat) => if s.presumedSub i then s.secsLeft (s.ledger.presumed.getD i 0) else 0
  let whole := if s.presumedWhole then 3600 - (s.base - s.ledger.presumedAll.getD 0) / 32768 else 0
  if off = 0x040 then
    [(DUTY.MODE, b2n (!s.presuming)), (DUTY.PRESUMED_LEFT_S, (s.subs.map left).foldl max whole)]
  else if off = 0x058 then
    [(DUTY.BKT_VAL, (s.ledger.account (s.get DUTY.BKT_SUB)).getD (s.get DUTY.BKT_AGE) 0)]
  else if 0x080 ≤ off ∧ off < 0x100 then
    let i := (off - 0x080) / 16
    if i ∈ s.subs then
      [(DUTY.USED_MS i, s.usedMs i), (DUTY.BUDGET_MS i, (s.active.sub i).budget), (DUTY.NEXT_FREE_S i, s.nextFree i),
       (DUTY.USED_PCT i, min (s.usedPct i) 0xFF), (DUTY.PRESUMED i, b2n (s.presumedSub i)), (DUTY.LEFT_S i, left i)]
    else []
  else if 0x100 ≤ off then
    let c := (off - 0x100) / 4
    [(DUTY.DWELL_USED_MS c, (windowSum (s.ledger.dwell c) s.active.dwellWin + 999) / 1000)]
  else []

/-- Views of TIME. -/
def State.timeViews (s : State) : List (Field × Nat) :=
  [(TIME.SEGTIME_LO, s.now), (TIME.SEGTIME_HI, s.now / 2 ^ 32), (TIME.UTC_S_LO, s.utcS.toNat), (TIME.UTC_S_HI, s.utcS.toNat / 2 ^ 32)]

/-- Views of CABINET_IO: a driven GPIO's level is what it drives. -/
def State.cabinetViews (s : State) (off : Nat) : List (Field × Nat) :=
  if off = 0x00C then [(CABINET_IO.ANY_MISMATCH, b2n (s.get CABINET_IO.KO_MISMATCH != 0))]
  else if off = 0x040 then [(CABINET_IO.KO_STATE, s.koState)]
  else if off = 0x044 then [(CABINET_IO.KF_IN, s.kfIn)]
  else if off = 0x054 then
    let dir := if s.on (HDR.ENABLE 0xE) then s.get CABINET_IO.GPIO_DIR else 0
    [(CABINET_IO.GPIO_IN, (List.range 12).foldl (fun n i =>
      n + irqBit i (if bit dir i then bit (s.get CABINET_IO.GPIO_OUT) i else bit (s.get CABINET_IO.GPIO_IN) i)) 0)]
  else if off = 0x078 then
    [(CABINET_IO.RX_DATA, s.rxWord % 256), (CABINET_IO.RX_VALID, bits s.rxWord 8 1), (CABINET_IO.PARITY_ERR, bits s.rxWord 9 1),
     (CABINET_IO.FRAME_ERR, bits s.rxWord 10 1)]
  else if off = 0x07C then [(CABINET_IO.TX_LEVEL, s.cab.tx.length), (CABINET_IO.RX_LEVEL, s.cab.rx.length)]
  else []

/-- The views of a word of a shared page for a reading master. -/
def State.sharedViews (s : State) (m : Master) (page off : Nat) : List (Field × Nat) :=
  match page with
  | 0 => s.pilotViews off
  | 1 => s.pwrViews off
  | 2 => s.locksViews m off
  | 5 => s.streamViews
  | 6 => s.evlogViews
  | 7 => s.mssViews
  | 9 => s.vaultViews off
  | 0xA => s.updateViews off
  | 0xC => s.dutyViews off
  | 0xD => s.timeViews
  | 0xE => s.cabinetViews off
  | 0xF => if off = 0x040 ∨ off = 0x044 then [(HOSTLINK.IRQ_PEND0, s.irqPend m 0), (HOSTLINK.IRQ_PEND1, s.irqPend m 0x20)] else []
  | _ => []

/-! ### Wick pages -/

/-- Views of WCORE. DEDUCED (log entry 180). -/
def State.wcoreViews (s : State) (w : Wick) : List (Field × Nat) :=
  let c := s.newestCkpt
  [(WCORE.OWN_ROLE w, (s.role w).code), (WCORE.UPTIME_S w, (s.base - s.arb.readyAt.getD w.idx s.base) / 32768),
   (WCORE.JSEQ_HEAD_LO w, s.jseq), (WCORE.JSEQ_HEAD_HI w, s.jseq / 2 ^ 32), (WCORE.CKPT_JSEQ_LO w, s.ckptJseq),
   (WCORE.CKPT_JSEQ_HI w, s.ckptJseq / 2 ^ 32), (WCORE.CKPT_AGE_MS w, match c with | some x => msShown (s.base - x.base) | none => 0),
   (WCORE.RING_KIB w, s.sinceCkpt), (WCORE.CKPT_KIB w, match c with | some x => ((ckptImage x.jseq).length + 1023) / 1024 | none => 0)]

/-- Views of RADIO. DESIGN CHOICE (log entry 40). -/
def State.radioViews (s : State) (w : Wick) (off : Nat) : List (Field × Nat) :=
  let b := s.active
  if off = 0x00C then [(RADIO.PROFILE_VALID w, b2n b.profFilled)]
  else if off = 0x04C then
    if b.profFilled then [(RADIO.REGION w, b.region), (RADIO.PROFILE_VER w, b.profVer), (RADIO.N_CHANNELS w, b.nChan)] else []
  else if 0x0C0 ≤ off ∧ off < 0x0E0 ∧ b.profFilled = true then
    let i := (off - 0x0C0) / 4
    let sb := b.sub i
    if i < b.nSub ∧ sb.txAllowed = true then
      [(RADIO.CAP_LEVEL w i, ofSigned 16 (b.txLevel w sb)), (RADIO.CAP_PORT w i, b2n (b.padLo w sb))]
    else [(RADIO.CAP_LEVEL w i, 0x8000)]
  else []

/-- M_PRE_US: the preamble in µs that a unicast to a lantern would use now (R148). -/
def State.modelPreamble (s : State) (a : Nat) : Nat :=
  let b := s.active
  if s.dozing a then
    match s.wakeNeed a with
    | none => 0xFFFFFFFF
    | some (need, _) =>
      let c := b.sampleChan (s.home a) (s.nextSample a)
      (b.wakeSym c need * symThirds (b.chan c).rate + 2) / 3
  else b.preUs (b.commonChan s.now)

/-- The window on the model of the lantern MODEL_ADDR names. -/
def State.modelViews (s : State) (w : Wick) : List (Field × Nat) :=
  let a := s.get (LINK.MODEL_ADDR w)
  let x := s.lantern a
  if s.registered a then
    [(LINK.M_MODE w, if s.dozing a then 0 else if x.mode = some 2 then 2 else 1), (LINK.M_VALID w, 1), (LINK.M_DRIFT_KNOWN w, b2n x.drift.isSome),
     (LINK.M_ROUTER w, b2n x.router), (LINK.M_DRIFT w, match x.drift with | some d => min d.ceil.toNat 0xFF | none => 0),
     (LINK.M_HOPS w, x.hops.getD 0), (LINK.M_SAMPLE_CH w, s.active.sampleChan (s.home a) s.now), (LINK.M_SYNC_LO w, x.tSync),
     (LINK.M_SYNC_HI w, x.tSync / 2 ^ 32), (LINK.M_OFFSET_US w, ofSigned 32 x.offsetUs), (LINK.M_PRE_US w, s.modelPreamble a)]
  else []

/-- Views of LINK. -/
def State.linkViews (s : State) (w : Wick) (off : Nat) : List (Field × Nat) :=
  if off = 0x00C then
    [(LINK.PROFILE_USABLE w, b2n s.active.usable), (LINK.BEACONING w, b2n (s.beaconOn w)), (LINK.KEY_ROLL_DUE w, b2n (s.fcntAt 0xF0000000)),
     (LINK.KEY_EXHAUSTED w, b2n (s.fcntAt 0xFFFFFFFF))]
  else if off = 0x04C then [(LINK.EFF_PERIOD_MS w, if s.active.profFilled then s.active.effPeriod else 0)]
  else if off = 0x050 ∨ off = 0x054 then
    if s.beaconOn w then [(LINK.NEXT_BEACON_LO w, s.nextBeacon), (LINK.NEXT_BEACON_HI w, s.nextBeacon / 2 ^ 32)] else []
  else if 0x058 ≤ off ∧ off ≤ 0x060 then
    [(LINK.FCNT_A w, s.link.fcnt.getD 0 0), (LINK.FCNT_B w, s.link.fcnt.getD 1 0), (LINK.SEQ_NEXT w, s.link.seqNext)]
  else if off = 0x078 then [(LINK.NO_DRIFT w, (s.registeredList.filter (fun a => (s.lantern a).drift.isNone)).length)]
  else if 0x084 ≤ off ∧ off ≤ 0x094 then s.modelViews w
  else []

/-- The number of slots in some states. -/
def State.slotsIn (s : State) (p : Slot → Bool) : Nat := ((List.range 64).filter (fun n => p (s.slot n))).length

/-- Whether the slot of the tag selected in the response port has moved on to another epoch (R182). DEDUCED (log entry 72). -/
def State.respGone (s : State) (w : Wick) : Bool :=
  let tag := s.get (TXN.RESP_TAG w)
  (s.slot (tag % 64)).epoch != tag / 64 % 4

/-- Views of TXN for a reading master. The response port shows GONE, and no entries, once the slot's epoch has moved on. -/
def State.txnViews (s : State) (w : Wick) (off : Nat) : List (Field × Nat) :=
  if off = 0x00C then
    [(TXN.IN_FLIGHT w, s.slotsIn Slot.live), (TXN.QUARANTINED w, s.slotsIn (fun x => x.state = 5)), (TXN.HOST_HELD w, s.hostHeld)]
  else if 0x100 ≤ off ∧ off < 0x200 then
    let n := (off - 0x100) / 4
    let x := s.slot n
    [(TXN.S_STATE w n, x.state), (TXN.S_EPOCH w n, x.epoch)] ++
    (if x.state = 0 then []
     else [(TXN.S_HOST w n, b2n (x.desc.purpose = .host)), (TXN.S_ATTEMPT w n, x.attempts), (TXN.S_DEST w n, x.desc.dest)])
  else if off = 0x200 then [(TXN.RES_LEVEL w, s.txn.results.length)]
  else if 0x210 ≤ off ∧ off ≤ 0x220 then
    let k := (off - 0x210) / 4
    [(TXN.RES_REC w k, (s.txn.results.headD []).getD k 0)]
  else if 0x304 ≤ off ∧ s.respGone w = true then
    if off = 0x304 then [(TXN.RESP_STATUS w, 2), (TXN.RESP_TOTAL w, 0)]
    else
      let k := (off - 0x320) / 4
      [(TXN.E_ADDR w k, 0), (TXN.E_RESULT w k, 0), (TXN.E_UNEXPECTED w k, 0), (TXN.E_VALID w k, 0)]
  else []

/-- Views of REGISTRY. -/
def State.registryViews (s : State) (w : Wick) (off : Nat) : List (Field × Nat) :=
  if off = 0x00C then [(REGISTRY.LOOKUP_BUSY w, b2n (!s.reg.lookups.isEmpty))]
  else if off = 0x040 then
    [(REGISTRY.N_JOINED w, s.registeredList.length), (REGISTRY.N_USED w, (s.entries.filter (fun a => s.entryState a ≠ 0)).length)]
  else if off = 0x060 then
    let n := s.reg.notices.headD (0, 0)
    [(REGISTRY.N_ADDR w, n.1), (REGISTRY.N_KIND w, n.2), (REGISTRY.N_LEVEL w, s.reg.notices.length)]
  else []

/-- The next step of the day. -/
def State.nextStep (s : State) : Option DayStep :=
  leastOn? (fun x => x.at_ * 64 + x.program) (s.reg.daySteps.filter (fun x => !x.done && decide (s.now < x.at_)))

/-- Views of SCHED. -/
def State.schedViews (s : State) (w : Wick) (off : Nat) : List (Field × Nat) :=
  if off = 0x00C then
    (SCHED.UTC_OK w, b2n s.utcOk) ::
      (if s.astroOk w then [(SCHED.ASTRO_OK w, 1), (SCHED.POLAR w, s.reg.sun.getD 4 0)] else [])
  else if off = 0x058 ∧ s.astroOk w = true then
    [(SCHED.SUNSET_MIN w, s.reg.sun.getD 0 0x7FF), (SCHED.SUNRISE_MIN w, s.reg.sun.getD 1 0x7FF)]
  else if off = 0x05C ∧ s.astroOk w = true then
    [(SCHED.DUSK_MIN w, s.reg.sun.getD 2 0x7FF), (SCHED.DAWN_MIN w, s.reg.sun.getD 3 0x7FF)]
  else if off = 0x060 ∨ off = 0x064 then
    match s.nextStep with
    | some x => [(SCHED.NEXT_STEP_LO w, x.at_), (SCHED.NEXT_STEP_HI w, x.at_ / 2 ^ 32), (SCHED.NEXT_PROG w, x.program)]
    | none => []
  else if off = 0x06C then [(SCHED.SCHED_PENDING_N w, (s.registeredList.filter (fun a => s.pendingBit a 2)).length)]
  else []

/-- The window on the track TRK_SEL names. -/
def State.trackViews (s : State) (w : Wick) : List (Field × Nat) :=
  match s.wave.tracks.get? (s.get (WAVE.TRK_SEL w)) with
  | none => []
  | some k =>
    [(WAVE.T_STATE w, k.state), (WAVE.T_KIND w, k.kind), (WAVE.T_PROGRAM w, k.program.getD 0xFF), (WAVE.T_WAVE w, k.wave.getD 0),
     (WAVE.T_HAS_WAVE w, b2n k.wave.isSome), (WAVE.T_NODE w, k.node), (WAVE.T_PREV w, k.prev.getD 0x1FFF),
     (WAVE.T_SPEED_CMS w, min (k.speed * 100).floor.toNat 0xFFFF), (WAVE.T_DETS w, min k.dets 0xFFFF), (WAVE.T_LAST_LO w, k.t),
     (WAVE.T_LAST_HI w, k.t / 2 ^ 32)]

/-- Views of WAVE. -/
def State.waveViews (s : State) (w : Wick) (off : Nat) : List (Field × Nat) :=
  if off = 0x00C then
    [(WAVE.PROFILE_READY w, b2n s.wave.ready),
     (WAVE.LIVE w, b2n (s.on (HDR.ENABLE (w.page 6)) && s.isAuthor w && decide (0 < s.active.nNodes)))]
  else if off = 0x04C then [(WAVE.HIST_HOURS w, s.histHours w)]
  else if off = 0x050 then [(WAVE.ACTIVE_WAVES w, s.wave.waves.foldl (fun n p => n + 2 ^ p.1) 0)]
  else if off = 0x054 then
    [(WAVE.N_TRACKS w, s.wave.tracks.length), (WAVE.N_PROVISIONAL w, (s.wave.tracks.filter (fun p => p.2.state = 2)).length)]
  else if 0x0C4 ≤ off ∧ off ≤ 0x0D4 then s.trackViews w
  else []

/-- Views of METER. -/
def State.meterViews (s : State) (w : Wick) (off : Nat) : List (Field × Nat) :=
  let d := s.dom w
  if off = 0x00C then
    [(METER.SETTLING w, b2n (!d.settling.isEmpty)), (METER.OVERLOAD w, b2n (!d.clip.isEmpty)), (METER.INTERVAL_PEND w, b2n s.meter.lenPend.isSome)]
  else if 0x084 ≤ off ∧ off < 0x100 then (List.range 4).map (fun c => (METER.I_FS_MA w c, s.ifsMa c))
  else if 0x200 ≤ off ∧ off < 0x300 then
    (List.range 4).flatMap (fun g => (List.range 6).flatMap (fun a =>
      [(METER.ACC_LO w g a, d.acc64 g a), (METER.ACC_HI w g a, d.acc64 g a / 2 ^ 32)]))
  else if 0x300 ≤ off ∧ off ≤ 0x310 then
    [(METER.CUR_INDEX w, d.index.getD 0), (METER.CUR_COVERED_S w, d.covered), (METER.CUR_FLAGS w, d.flags),
     (METER.NEWEST_INDEX w, (d.ring.head?.map Prod.fst).getD 0), (METER.OLDEST_INDEX w, (d.ring.getLast?.map Prod.fst).getD 0),
     (METER.REC_COUNT w, d.ring.length)]
  else []

/-- Views of HARM: what the reading master captured by its last read of H_INDEX (R275). -/
def State.harmViews (s : State) (m : Master) (w : Wick) (off : Nat) : List (Field × Nat) :=
  match s.meter.views.get? (2 * m.id + w.idx) with
  | none => []
  | some r =>
    if off = 0x04C then [(HARM.H_THD w, r.thd), (HARM.H_FLAGS w, r.flags)]
    else if off = 0x050 then [(HARM.H_RMS w, r.rms)]
    else if 0x084 ≤ off ∧ off ≤ 0x17C then
      let n := (off - 0x080) / 4
      [(HARM.H_SG w n, r.sg.getD (n - 1) 0)]
    else []

/-- Views of ATTR. -/
def State.attrViews (s : State) (w : Wick) (off : Nat) : List (Field × Nat) :=
  if off = 0x00C then
    [(ATTR.SESSION_ACTIVE w, match s.session with | some x => b2n (x.fixed || decide (x.start ≤ s.now + s.attrLead)) | none => 0),
     (ATTR.SOLVING w, match s.session with | some x => b2n (x.outcome = 2) | none => 0)]
  else if 0x068 ≤ off ∧ off ≤ 0x070 then
    (List.range 3).flatMap (fun x => [(ATTR.N_EFF w x, s.attr.nEff.getD x 0), (ATTR.SIGMA_1S w x, s.attr.sigma.getD x 0)])
  else if 0x084 ≤ off ∧ off ≤ 0x090 then
    let k := (off - 0x084) / 4
    [(ATTR.LANT_RES w k, (s.attr.results.getD (s.get (ATTR.LANT_SEL w)) []).getD k 0)]
  else
    match s.attr.cur with
    | none => []
    | some x =>
      [(ATTR.SESSION w, x.number), (ATTR.OUTCOME w, x.outcome), (ATTR.PLAN w, x.plan), (ATTR.SEED w, x.seed), (ATTR.S_LO w, x.start),
       (ATTR.S_HI w, x.start / 2 ^ 32), (ATTR.CHIP_MS w, x.chipMs), (ATTR.N_PART w, x.parts.length),
       (ATTR.CHIP_NOW w, if 3 ≤ x.outcome then 1023 else if x.chipTicks = 0 then 0 else min ((s.now - x.start) / x.chipTicks) 1023)]

/-- Views of CAMPAIGN. -/
def State.campViews (s : State) (w : Wick) (off : Nat) : List (Field × Nat) :=
  let x := s.camp
  if off = 0x00C then [(CAMPAIGN.LIB_BUSY w, b2n x.op.isSome), (CAMPAIGN.CAMP_ACTIVE w, b2n (decide (1 ≤ x.state ∧ x.state ≤ 7) || x.state = 10))]
  else if off = 0x080 then [(CAMPAIGN.STORED_MAP w, (s.library w).foldl (fun n p => n + 2 ^ p.1) 0 / 2)]
  else if 0x0A0 ≤ off ∧ off < 0x0E0 then
    match (s.library w).get? (s.get (CAMPAIGN.LIB_SLOT w)) with
    | none => []
    | some i => [(CAMPAIGN.D_SIZE w, i.size), (CAMPAIGN.D_VERSION w, i.version), (CAMPAIGN.D_HWCLASS w, i.hwClass)] ++
        (List.range 8).map (fun k => (CAMPAIGN.D_HASH w k, leNat ((i.hash.drop (4 * k)).take 4)))
  else if 0x124 ≤ off ∧ off ≤ 0x13C then
    [(CAMPAIGN.CAMPAIGN_ID w, x.number), (CAMPAIGN.C_STATE w, x.state), (CAMPAIGN.ROUND w, x.round), (CAMPAIGN.N_TARGETS w, x.targets.length),
     (CAMPAIGN.N_COMPLETE w, x.count 2), (CAMPAIGN.N_ACTIVATED w, x.count 5), (CAMPAIGN.N_ROLLED_BACK w, x.count 6),
     (CAMPAIGN.N_REFUSED w, x.count 7), (CAMPAIGN.N_SILENT w, x.silent), (CAMPAIGN.NEEDED w, x.needed.length),
     (CAMPAIGN.NEXT_BLOCK w, x.needed.getD x.next 0), (CAMPAIGN.BLOCKS_SENT w, x.blocksSent), (CAMPAIGN.AIR_MS w, x.airUs / 1000)]
  else if 0x184 ≤ off ∧ off ≤ 0x18C then
    let a := s.get (CAMPAIGN.LANT_SEL w)
    [(CAMPAIGN.L_TARGET w, b2n (x.targets.contains a))] ++
    (match x.reports.get? a with
     | some r => [(CAMPAIGN.L_PHASE w, r.phase), (CAMPAIGN.L_CODE w, r.code), (CAMPAIGN.L_MISSING w, r.missing), (CAMPAIGN.L_LAST w, r.last),
         (CAMPAIGN.L_RUN_VER w, r.runVer)]
     | none => [])
  else []

/-- The state of a backbone port (R342): DOWN, INIT, UP, CONFLICT. -/
def State.fabPort (s : State) (p : Nat) : Nat :=
  if s.fab.conflicts.has p then 3
  else match s.fab.neighbours.find? (fun n => n.link = p) with
    | some n => if n.up then 2 else 1
    | none => 0

/-- The peer of a backbone port. -/
def State.fabPeer (s : State) (p : Nat) : Nat :=
  match s.fab.neighbours.find? (fun n => n.link = p) with
  | some n => n.addr
  | none => 0

/-- Views of FABRIC. -/
def State.fabricViews (s : State) (w : Wick) (off : Nat) : List (Field × Nat) :=
  if off = 0x00C then [(FABRIC.FAB_UP w, b2n s.fabUp), (FABRIC.NO_KEY w, b2n (!s.fabKeyed))]
  else if off = 0x058 then
    [(FABRIC.P0_STATE w, s.fabPort 0), (FABRIC.P1_STATE w, s.fabPort 1), (FABRIC.N_AIR w, (s.upNeighbours.filter (fun n => n.link = 2)).length),
     (FABRIC.N_MODULES w, s.fab.lsas.length)]
  else if off = 0x05C then [(FABRIC.P0_PEER w, s.fabPeer 0), (FABRIC.P1_PEER w, s.fabPeer 1)]
  else if off = 0x068 then [(FABRIC.FWD_ACKED w, s.fab.fwdAcked)]
  else if off = 0x074 ∨ off = 0x078 then
    let a := s.get (FABRIC.ROUTE_SEL w)
    (match s.fab.small.get? a with
     | some r => [(FABRIC.R_NEXT w, r.next), (FABRIC.R_VIA w, r.link), (FABRIC.R_HOPS w, r.hops), (FABRIC.R_COST w, r.cost)]
     | none => []) ++
    [(FABRIC.R_BIG_OK w, b2n (s.fab.big.has a)), (FABRIC.R_SEG w, match s.originOf a with | some l => l.seg | none => 0xFFFF)]
  else if 0x128 ≤ off ∧ off ≤ 0x130 then
    let r := s.fab.remote
    [(FABRIC.RS_SESSION_ID w, r.id), (FABRIC.RS_STATE w, r.state), (FABRIC.RS_LAST_CTR w, r.lastCtr), (FABRIC.RS_PEER w, r.peer)]
  else []

/-- Views of CFGBANK. -/
def State.cfgViews (s : State) (w : Wick) (off : Nat) : List (Field × Nat) :=
  let c := s.cfg
  let at_ := if c.state = 2 then c.swapAt else c.lastAt
  if off = 0x04C then [(CFGBANK.STATE w, c.state), (CFGBANK.REASON w, c.reason), (CFGBANK.FAILED_TYPES w, c.failedTypes)]
  else if off = 0x050 ∨ off = 0x054 then [(CFGBANK.CFG_SWAP_AT_LO w, at_), (CFGBANK.CFG_SWAP_AT_HI w, at_ / 2 ^ 32)]
  else if off = 0x058 then [(CFGBANK.ACTIVE_HALF w, b2n c.activeHalf), (CFGBANK.SWAP_COUNT w, c.commitCount)]
  else if off = 0x05C then [(CFGBANK.ACTIVE_GEN w, s.active.gen)]
  else if off = 0x060 then [(CFGBANK.SHADOW_GEN w, s.shadow.gen)]
  else if off = 0x064 then [(CFGBANK.BANK_DIRTY w, s.dirtyTypes)]
  else if off = 0x06C then
    [(CFGBANK.CMD_BUSY w, b2n c.cmd.isSome), (CFGBANK.CMD_DONE w, b2n c.cmdDone), (CFGBANK.CMD_FAILED_TYPES w, c.cmdFailed)]
  else if off = 0x070 then [(CFGBANK.ACTIVE_KIB w, s.active.kib), (CFGBANK.SHADOW_KIB w, s.shadow.kib)]
  else []

/-- The views of a word of a wick's page for a reading master. -/
def State.wickViews (s : State) (m : Master) (w : Wick) (pos off : Nat) : List (Field × Nat) :=
  match pos with
  | 0 => s.wcoreViews w
  | 1 => s.radioViews w off
  | 2 => s.linkViews w off
  | 3 => s.txnViews w off
  | 4 => s.registryViews w off
  | 5 => s.schedViews w off
  | 6 => s.waveViews w off
  | 7 => s.meterViews w off
  | 8 => s.harmViews m w off
  | 9 => s.attrViews w off
  | 0xA => s.campViews w off
  | 0xB => s.fabricViews w off
  | 0xC => s.cfgViews w off
  | _ => []

/-- The views of a word of a physical page. DEDUCED (log entries 137, 149); DESIGN CHOICE (log entry 4). -/
def State.views (s : State) (m : Master) (page off : Nat) : List (Field × Nat) :=
  (if off = 0x00C ∧ reservedPage page = false then s.statusBits page else []) ++
  (match pageWick page with
   | some w => s.wickViews m w (page % 16) off
   | none => s.sharedViews m page off)

/-! ### What pads show -/

/-- Whether a KO_OUT bit drives its output low (R374). -/
def State.koPad (s : State) (n : Nat) : Bool := bit s.koState n

/-- What a GPIO pad drives: GPIO_OUT where it is an output while the page is enabled, nothing otherwise (R376).
DESIGN CHOICE (log entry 175). -/
def State.gpioDriven (s : State) (n : Nat) : Option Bool :=
  if s.on (HDR.ENABLE 0xE) && bit (s.get CABINET_IO.GPIO_DIR) n then some (bit (s.get CABINET_IO.GPIO_OUT) n) else none

/-- ROLE_A and ROLE_B: high while the wick holds AUTHOR or SNOWDROP, undriven while PILOT CTRL.ENABLE is 0 (R334).
DESIGN CHOICE (log entry 175). -/
def State.rolePin (s : State) (w : Wick) : Option Bool := if s.on (HDR.ENABLE 0) then some (s.isController w) else none

/-- Whether the test port answers a factory unlock exchange: TP_EN is high, and SNUFFED is 1 (R439). DESIGN CHOICE (log entry 206). -/
def State.unlockServed (s : State) : Bool := s.tpEn && s.on TAMPER.SNUFFED

/-- What a factory unlock exchange leaves: an unlocked port where it is served, nothing otherwise (R439). DESIGN CHOICE (log entry 206). -/
def State.unlockExchange (s : State) : State := if s.unlockServed then { s with tpUnlocked := true } else s

/-- The level of TLOOP_OUT (R399). -/
def State.tloopPad (s : State) : Bool := s.pdOn 0 && s.vault.out.headD false

/-- SNUFF_N is held low (R402, R404). DESIGN CHOICE (log entry 175). -/
def State.snuffPad (s : State) : Bool := s.pdOn 0 && s.on TAMPER.SNUFFED

/-- GNSS_EN drives its pad high (R352); the pad is referred to VIO (R360). -/
def State.gnssPad (s : State) : Bool := s.pdOn 0 && s.on TIME.GNSS_EN && s.on PWR.VIO_OK

/-- UART485_DE: high during a burst, at high impedance while the UART does not run (R368, R378). DESIGN CHOICE (log entry 175). -/
def State.dePad (s : State) : Option Bool :=
  if s.on CABINET_IO.UART_EN && s.on PWR.VIO_OK && s.pdOn 0 && !s.saving then some (!s.cab.tx.isEmpty) else none

/-- Whether a port's reference clock runs (R452). -/
def State.refClock (s : State) (p : Nat) : Bool :=
  s.pdOn 11 && s.on (if p = 0 then FABRIC.P0_EN s.cw else FABRIC.P1_EN s.cw)

/-- How an LED driver lights its LED (R377): not at all, steadily, at 1 Hz, at 4 Hz, or 20 ms for each frame that is transmitted. -/
inductive LedShow where
  | off
  | on
  | blink1
  | blink4
  | frames
deriving DecidableEq, Repr

/-- What AUTO shows on LED_RUN. -/
def State.autoRun (s : State) : LedShow :=
  match s.author, s.controller with
  | some _, _ => .on
  | none, some _ => .blink1
  | none, none => .blink4

/-- What AUTO shows on LED_FAULT: NO_CONTROLLER blinks, a lasting fault class or a METER FAULT lights it. -/
def State.autoFault (s : State) : LedShow :=
  if s.arb.noController then .blink4
  else if [Wick.a, Wick.b].any (fun w => s.get (PILOT.LASTING w.idx) != 0 || s.on (METER.FAULT w)) then .on else .off

/-- What a mode of an LED shows. -/
def ledMode (mode : Nat) (auto : LedShow) : LedShow :=
  match mode with
  | 1 => .on
  | 2 => .blink1
  | 3 => .blink4
  | 4 => auto
  | _ => .off

/-- What the drivers show: 0 LED_RUN, 1 LED_RADIO, 2 LED_FAULT; every LED is off while the page is disabled and during a final save
(R368, R377). DESIGN CHOICE (log entry 175). -/
def State.led (s : State) (n : Nat) : LedShow :=
  if s.on (HDR.ENABLE 0xE) && s.pdOn 0 && !s.saving then
    match n with
    | 0 => ledMode (s.get CABINET_IO.LED_RUN_MODE) s.autoRun
    | 1 => ledMode (s.get CABINET_IO.LED_RADIO_MODE) .frames
    | _ => ledMode (s.get CABINET_IO.LED_FAULT_MODE) s.autoFault
  else .off

end Sys2Proof.Machine
end

