-- ==== Sys2Proof/Machine/Reads.lean ====
section
/-! DEFINITION. A master's read of one register word: what it returns and what it changes (R9, R11, R31, R32, R35, R39). -/

namespace Sys2Proof.Machine

/-- The codes under which a read of a word is refused; METER CTRL stands in the Pilot domain (R246). A reserved offset of a defined page
raises no SECURITY error (R11): only a page that does not answer is counted. DEDUCED (log entry 14). -/
def State.wordReadCodes (s : State) (m : Master) (page off : Nat) : List Nat :=
  if (pageWick page).isSome ∧ page % 16 = 7 ∧ off = 0x008 then []
  else if definedWord page off then s.readCodes m page
  else s.downCodes page

/-- What a read of a field returns: nothing of a WO field, what the block shows where the field is a view, the active or the shadow value
of an SH field, the reading master's own copy of a submission field, otherwise what the field holds. DESIGN CHOICE (log entry 31). -/
def State.fieldRead (s : State) (m : Master) (page off : Nat) (f : Field) : Nat :=
  if f.acc = .wo then 0
  else
    match (s.views m page off).find? (fun p => p.1 = f) with
    | some p => p.2 % 2 ^ f.width
    | none =>
      if f.acc = .sh then (if s.on (HDR.VIEW_SHADOW page) then s.shadow else s.active).sget f
      else if isSubmission page off ∨ (isSubmission page 0x40 = true ∧ off = 0x05C) then s.get (f.forMaster m)
      else s.get f

/-- The change count that a table port shows at a word (R54). -/
def State.portGen (s : State) (page off : Nat) : Nat :=
  match [PortId.registry, .sched, .wave].find? (fun p => portPos p = page % 16) with
  | some p =>
    if 0x10 ≤ page ∧ off = 0x110 then
      (match portTable p (s.get (PORT.TABLE page)) with
       | some t => s.tableGen t (s.on (PORT.BANK page))
       | none => 0)
    else 0
  | none => 0

/-- The value of a register word without behaviour of its own. -/
def State.wordValue (s : State) (m : Master) (page off : Nat) : Nat :=
  match pageWick page with
  | some w =>
    (match s.shArrayAt w (page % 16) off with
     | some (_, a) => (if s.on (HDR.VIEW_SHADOW page) then s.shadow else s.active).mem.num a 4
     | none => s.headerPart page off + s.portGen page off +
        (wordFields page off).foldl (fun n f => n + 2 ^ f.lo * s.fieldRead m page off f) 0)
  | none => s.headerPart page off + (wordFields page off).foldl (fun n f => n + 2 ^ f.lo * s.fieldRead m page off f) 0

/-- The RC fields of a word clear once they are read (R9); what events of the same cycle add to them is held for the next read (R10). -/
def State.clearRead (s : State) (page off same : Nat) : State :=
  ((wordFields page off).filter (fun f => f.acc = .rc)).foldl (fun (t : State) f => t.set f (bits same f.lo f.width)) s

/-- The words a read of a _LO register captures: its _HI, and of SEGTIME_LO the whole of both times (R32, R354). DEDUCED (log entry 15). -/
def capturedBy (page off : Nat) : List Nat :=
  if page = 0xD ∧ off = 0x054 then [0x058, 0x05C, 0x060]
  else
    match loPair page off with
    | some p => [p.2.off]
    | none => []

/-- The captured words are held for the master (R32). DEDUCED (log entry 15). -/
def State.captureHigh (s : State) (m : Master) (page off : Nat) : State :=
  (capturedBy page off).foldl (fun (t : State) o => { t with hold := t.hold.put (holdKey m page o true) (s.wordValue m page o) }) s

/-- The read of a word without behaviour of its own: a captured value is returned once; otherwise the present one, and the read of a
_LO register captures. The analogue reading VAUX_MV is new at each read. -/
def State.plainRead (s : State) (m : Master) (page off same : Nat) : State :=
  let k := holdKey m page off true
  match s.hold.get? k with
  | some v => { s with busData := BitVec.ofNat 32 v, hold := s.hold.del k }
  | none =>
    let v := s.wordValue m page off
    let t := (s.captureHigh m page off).clearRead page off same
    { t with busData := BitVec.ofNat 32 v, fresh := if page = 1 ∧ off = 0x048 then t.fresh + 1 else t.fresh }

/-- A read of a register word on a physical page. A refused one reads 0 and is counted. `same` is what events of the same cycle add to
the RC fields of the word (R10). -/
def readWord (m : Master) (page off same : Nat) (s : State) : State :=
  if s.acts m then
    match minimum? (s.wordReadCodes m page off) with
    | some c => { (s.countErr (errPage page c) m page off c) with busData := 0 }
    | none =>
      if off = 0x020 then doErrCntRead m page none s
      else if page = 2 ∧ 0x080 ≤ off ∧ off < 0x100 then doLockAcquireRead m ((off - 0x080) / 4) [] s
      else if page = 5 ∧ 0x800 ≤ off then doFDataRead m ((off - 0x800) / 0x200) s
      else if page = 0xE ∧ off = 0x078 then doRxDataRead m s
      else
        match pageWick page with
        | some w => if page % 16 = 8 ∧ off = 0x048 then doHIndexRead m w s else s.plainRead m page off same
        | none => s.plainRead m page off same
  else s

/-- A read at a host address: an address that reaches no page reads 0 (R30, R36). -/
def readAddr (m : Master) (a : Addr) (same : Nat) (s : State) : State :=
  ({ s with busData := 0 } : State).atAddr m a (fun s page off => readWord m page off same s)

/-- READ_LO_CAPTURE: a read of a register word, with its capture where it is a _LO register; `same` is what events of the same cycle add
to its RC fields (R10). DESIGN CHOICE (log entry 6). -/
def execReadLoCapture (m : Master) (a : Addr) (s : State) (same : Word := 0) : Host.Outcome State Fault Refusal :=
  .next (readAddr m a same.toNat s)

end Sys2Proof.Machine
end

