-- ==== Sys2Proof/Machine/Writes.lean ====
section
/-! DEFINITION. A master's write of one register word of any page, sent to the meanings of the registers it holds (R9, R31), and the code
under which an access was refused (R42). -/

namespace Sys2Proof.Machine

/-! ### Refusals of an access (R42) -/

/-- The code under which an access on a physical page is refused, if it is. -/
def State.refusalOf (s : State) (page : Nat) (k : State → State) : Option Nat :=
  let t := k ((s.set (HDR.ERR_COUNT page) 0).set (HDR.ERR_COUNT 0xF) 0)
  if t.get (HDR.ERR_COUNT page) ≠ 0 then some (bits (t.get (HDR.ERR_FIRST page)) 24 4)
  else if t.get (HDR.ERR_COUNT 0xF) ≠ 0 then some (bits (t.get (HDR.ERR_FIRST 0xF)) 24 4)
  else none

/-- The error counts of a page and of the HOSTLINK page as another state holds them. -/
def State.errorsOf (s t : State) (page : Nat) : State :=
  s.setAll [(HDR.ERR_COUNT page, t.get (HDR.ERR_COUNT page)), (HDR.ERR_FIRST page, t.get (HDR.ERR_FIRST page)),
    (HDR.ERR_COUNT 0xF, t.get (HDR.ERR_COUNT 0xF)), (HDR.ERR_FIRST 0xF, t.get (HDR.ERR_FIRST 0xF))]

/-- Two parts of one word's write: a word that is refused is counted once, under the lower of their codes (R42). -/
def State.parts (s : State) (page : Nat) (f g : State → State) : State :=
  let t := f s
  match s.refusalOf page f, s.refusalOf page g with
  | none, _ => g t
  | some c, some d => if d < c then g s else (g t).errorsOf t page
  | some _, none => (g t).errorsOf t page

/-! ### Shared pages -/

/-- PILOT CMD. -/
def pilotCmd (m : Master) (v : Nat) : State → State :=
  let w := if bit v 8 then Wick.b else Wick.a
  match v % 8 with
  | 1 => doHandover m none
  | 2 => doCancel m
  | 3 => doSelftestNow m w
  | 4 => doRestore m w
  | 5 => doFaultClr m w
  | 6 => doCountClr m w
  | _ => doRegisterWrite m 0 0x04C v

/-- PILOT CTRL word at 0x044: WICK_EN and REVERT_INHIBIT beside its plain fields. -/
def pilotSetup (m : Master) (v : Nat) (s : State) : State :=
  let a := PILOT.WICK_EN_A
  let b := PILOT.WICK_EN_B
  let r := PILOT.REVERT_INHIBIT
  s.parts 0 (doRegisterWrite m 0 0x044 v) (fun s =>
    s.parts 0 (doWickEnWrite m (bits v a.lo 1 = 1) (bits v b.lo 1 = 1)) (doRevertInhibitWrite m (bits v r.lo 1 = 1)))

/-- The registers of a mailbox channel. -/
def channelWrite (m : Master) (page off v : Nat) (s : State) : State :=
  let ch := 8 * (page - 3) + (off - 0x040) / 0x20
  match (off - 0x040) % 0x20 with
  | 0x00 => doChCfgWrite m ch v s
  | 0x04 => doDescriptorWrite m ch .offset v s
  | 0x08 => doDescriptorWrite m ch .length v s
  | 0x0C => doDescriptorWrite m ch .opcode v s
  | 0x10 =>
    if bit v 0 ∧ bit v 1 then s.parts page (doPost m ch) (doRevoke m ch)
    else if bit v 0 then doPost m ch s
    else if bit v 1 then doRevoke m ch s
    else doRegisterWrite m page off v s
  | 0x14 => doChAck m ch (v % 2 ^ 16) (bits v 16 8) false s
  | _ => doRegisterWrite m page off v s

/-- The first register of a FIFO's block: clearing F_EN flushes, and so does FLUSH. -/
def fifoWrite (m : Master) (f v : Nat) (s : State) : State :=
  let off := 0x040 + 0x20 * f
  s.parts 5 (doRegisterWrite m 5 off v) (fun s =>
    if bit v 0 = false ∧ s.on (STREAM.F_EN f) = true then doFEnClear m f s
    else if bit v 1 then doFlush m f s
    else s)

/-- BIST CMD. Whether the core PLL of a wick target locks is no part of the spec: a free value. -/
def bistCmd (m : Master) (v : Nat) (s : State) : State :=
  match v % 4 with
  | 1 => (let (x, t) := s.draw; doBistStart m (decide (x % 2 = 1)) false t)
  | 2 => doBistAbort m false none s
  | _ => doRegisterWrite m 8 0x044 v s

/-- UPDATE CMD. -/
def updateCmd (m : Master) (v : Nat) : State → State :=
  match v % 8 with
  | 1 => doBeginUpdate m
  | 2 => doVerify m
  | 3 => doUpdateActivate m (bit v 8)
  | 4 => doUpdateAbort m false false
  | _ => doRegisterWrite m 0xA 0x044 v

/-- VAULT KEY_CMD. -/
def keyCmd (m : Master) (v : Nat) : State → State :=
  match v % 4 with
  | 1 => doPush m
  | 2 => doRoll m (bit v 8)
  | 3 => doKeyCancel m
  | _ => doRegisterWrite m 9 0x058 v

/-- The high half of EPOCH_S commits the whole value. -/
def epochWrite (m : Master) (v : Nat) (s : State) : State :=
  let k := holdKey m 0xD TIME.EPOCH_S_LO.off false
  let lo := s.hold.getD k (s.get TIME.EPOCH_S_LO)
  doEpochSWrite m (lo + 2 ^ 32 * (v % 2 ^ 16)) { s with hold := if (s.writeCodes m 0xD TIME.EPOCH_S_HI.off).isEmpty then s.hold.del k else s.hold }

/-- SESS_CMD, whose meanings stand with the host link. -/
structure SessionCommands where
  open_ : Master → State → State
  close : Master → State → State
  enable : Master → Nat → State → State

/-- The CTRL register of a shared page. -/
def sharedCtrl (c : SessionCommands) (m : Master) (page v : Nat) (s : State) : State :=
  let plain := doRegisterWrite m page 0x008 v
  let clears := bit v 0 = false ∧ s.on (HDR.ENABLE page) = true
  match page with
  | 2 => if clears then s.parts 2 plain (doLocksDisable m) else plain s
  | 3 => if clears then s.parts 3 plain (doMboxPageDisable m 3) else plain s
  | 4 => if clears then s.parts 4 plain (doMboxPageDisable m 4) else plain s
  | 8 => if clears then s.parts 8 plain (doBistAbort m true none) else plain s
  | 0xA => if clears then s.parts 0xA plain (doUpdateAbort m true false) else plain s
  | 0xB => doTamperArmWrite m (bit v 0) (bit v TAMPER.LOOP_EN.lo) (bit v TAMPER.LID_EN.lo) s
  | 0xC => if bit v 1 then s.parts 0xC plain (doQuietAssert m) else plain s
  | 0xD => if bit v 2 then s.parts 0xD plain (doTimeSet m false) else plain s
  | 0xE => if bit v 1 = false ∧ s.on CABINET_IO.UART_EN = true then s.parts 0xE plain (doUartDisable m) else plain s
  | 0xF => c.enable m v s
  | _ => plain s

/-- A word of a shared page beyond the common header. DESIGN CHOICE (log entry 16). -/
def sharedWrite (c : SessionCommands) (m : Master) (page off v : Nat) (s : State) : State :=
  let plain := doRegisterWrite m page off v
  match page with
  | 0 => if off = 0x044 then pilotSetup m v s else if off = 0x04C then pilotCmd m v s else plain s
  | 1 => if off = 0x05C then (if bits v 16 2 = 1 then doFactoryReset m s else doFrKeyWrite m (v % 2 ^ 16) s) else plain s
  | 2 => if off = 0x044 then doLockForce m v s
    else if 0x080 ≤ off ∧ off < 0x100 then doLockRelease m ((off - 0x080) / 4) v s
    else plain s
  | 3 => if 0x040 ≤ off ∧ off < 0x140 then channelWrite m 3 off v s else plain s
  | 4 => if 0x040 ≤ off ∧ off < 0x140 then channelWrite m 4 off v s else plain s
  | 5 => if 0x040 ≤ off ∧ off < 0x0C0 ∧ off % 0x20 = 0 then fifoWrite m ((off - 0x040) / 0x20) v s else plain s
  | 6 => if off = 0x054 then doRlRateWrite m (v % 256) s else if off = 0x058 then doRSeqFetch m v s else plain s
  | 8 => if off = 0x044 then bistCmd m v s else if off = 0x050 then doFailFlagsClear m v 0 s else plain s
  | 9 => if off = 0x058 then keyCmd m v s else plain s
  | 0xA => if off = 0x044 then updateCmd m v s else if 0x400 ≤ off ∧ off < 0x600 then doStgDataWrite m off v s else plain s
  | 0xB => if off = 0x040 then (if bit v 16 then doSnCmd m s else doSnKeyWrite m (v % 2 ^ 16) s) else plain s
  | 0xD => if off = TIME.EPOCH_S_HI.off then epochWrite m v s else plain s
  | 0xE => if off = 0x040 then s.parts 0xE plain (doKoOutWrite m (v % 16))
    else if off = 0x060 then doGpioEvtClear m v 0 s
    else if off = 0x074 then doTxDataWrite m (BitVec.ofNat 8 v) s
    else if off = 0x084 ∧ bit v 0 = true then doGo m s
    else plain s
  | 0xF => if off = 0x054 then
      (if v % 4 = 1 then c.open_ m s else if v % 4 = 2 then c.close m s else plain s)
    else plain s
  | _ => plain s

/-! ### Wick pages -/

/-- METER CTRL: SEAL, then ENABLE where it changes. DEDUCED (log entry 102). -/
def meterCtrlWrite (m : Master) (w : Wick) (v : Nat) (s : State) : State :=
  let page := w.page 7
  let enable : State → State := fun s =>
    if bit v 0 then doMeterEnable m w s
    else if s.on (HDR.ENABLE page) then doMeterDisable m w s
    else s.meterCtrl m w id
  if bit v 1 then s.parts page (doSeal m w) enable else enable s

/-- The CTRL register of a wick's page. -/
def wickCtrl (m : Master) (w : Wick) (pos v : Nat) (s : State) : State :=
  let page := w.page pos
  let plain := doRegisterWrite m page 0x008 v
  if pos = 7 then meterCtrlWrite m w v s
  else if bit v 0 = false ∧ s.on (HDR.ENABLE page) = true then
    match pos with
    | 2 => s.parts page plain (doLinkDisable m w)
    | 3 => s.parts page plain (doTxnDisable m w)
    | 6 => s.parts page plain (doWaveDisable m w)
    | 9 => s.parts page plain (doAttrDisable m w)
    | 0xA => s.parts page plain (doCampaignDisable m w)
    | _ => plain s
  else plain s

/-- TXN CMD. -/
def txnCmd (m : Master) (w : Wick) (v : Nat) : State → State :=
  match v % 4 with
  | 1 => doTxnSubmit m w
  | 2 => doAbort m w (bits v 8 8) false
  | 3 => doAbortAll m w []
  | _ => doRegisterWrite m (w.page 3) 0x058 v

/-- NOTICE_POP and FAULT_ACK. -/
def noticeWrite (m : Master) (w : Wick) (v : Nat) (s : State) : State :=
  if bit v 0 ∧ bit v 1 then s.parts (w.page 4) (doNoticePop m w) (doFaultAck m w (bits v 16 16))
  else if bit v 0 then doNoticePop m w s
  else if bit v 1 then doFaultAck m w (bits v 16 16) s
  else doRegisterWrite m (w.page 4) 0x064 v s

/-- A table port's PORT_CMD. -/
def portWrite (m : Master) (w : Wick) (port : PortId) (v : Nat) (s : State) : State :=
  match v % 4 with
  | 1 => doPortCmd m w port .read (bit v 8) s
  | 2 => doPortCmd m w port (.write (s.portEntry (w.page (portPos port)))) (bit v 8) s
  | 3 => doPortCmd m w port .erase (bit v 8) s
  | _ => doRegisterWrite m (w.page (portPos port)) 0x108 v s

/-- WAVE_CMD. -/
def waveCmd (m : Master) (w : Wick) (v : Nat) : State → State :=
  match v % 4 with
  | 1 => doWaveAbort m w (bits v 8 5) (bit v 16) false
  | 2 => doWaveAbortAll m w (bit v 16) []
  | 3 => doInject m w
  | _ => doRegisterWrite m (w.page 6) 0x058 v

/-- ATTR CMD. -/
def attrCmd (m : Master) (w : Wick) (v : Nat) : State → State :=
  match v % 4 with
  | 1 => doAttrStart m w (bits v 8 4)
  | 2 => doAttrAbort m w false
  | 3 => doBaseClear m w (bits v 16 16)
  | _ => doRegisterWrite m (w.page 9) 0x040 v

/-- LIB_CMD. -/
def libCmd (m : Master) (w : Wick) (v : Nat) : State → State :=
  match v % 4 with
  | 1 => doLibBegin m w
  | 2 => doLibFinish m w
  | 3 => doLibDelete m w
  | _ => doRegisterWrite m (w.page 0xA) 0x044 v

/-- C_CMD. -/
def campCmd (m : Master) (w : Wick) (v : Nat) : State → State :=
  match v % 8 with
  | 1 => doStart m w
  | 2 => doPause m w false
  | 3 => doResume m w
  | 4 => doActivate m w
  | 5 => doCampaignAbort m w false
  | _ => doRegisterWrite m (w.page 0xA) 0x114 v

/-- A word of a METER page. -/
def meterWrite (m : Master) (w : Wick) (off v : Nat) (s : State) : State :=
  let plain := doRegisterWrite m (w.page 7) off v
  if off = 0x048 then
    (match v % 4 with
     | 1 => doAccClear m w s
     | 2 => doCapture m w s
     | _ => plain s)
  else if off = 0x314 then doRecFetch m w v s
  else if (trimField w off).isSome then doTrimWrite m w off v s
  else if 0x040 ≤ off ∧ off < 0x100 ∧ commonFields 7 off ≠ [] then s.parts (w.page 7) plain (doCommonFieldWrite m w 7 off v)
  else plain s

/-- CFG_CMD. -/
def cfgCmdWrite (m : Master) (w : Wick) (v : Nat) : State → State :=
  match v % 4 with
  | 1 => doCfgCmd m w .copyActive
  | 2 => doCfgCmd m w .clearShadow
  | 3 => doCfgCmd m w .validate
  | _ => doRegisterWrite m (w.page 0xC) 0x068 v

/-- A word of a wick's page beyond the common header. DESIGN CHOICE (log entry 16). -/
def wickWrite (m : Master) (w : Wick) (pos off v : Nat) (s : State) : State :=
  let plain := doRegisterWrite m (w.page pos) off v
  match pos with
  | 1 => if off = 0x040 ∧ bit v 0 = true then doLoadPreset m w (bits v 8 3) s else plain s
  | 3 => if off = 0x058 then txnCmd m w v s
    else if off = 0x204 ∧ bit v 0 = true then doResPop m w s
    else if off = 0x300 then doRespSel m w v s
    else plain s
  | 4 => if off = 0x064 then noticeWrite m w v s else if off = 0x108 then portWrite m w .registry v s else plain s
  | 5 => if off = 0x108 then portWrite m w .sched v s else plain s
  | 6 => if off = 0x058 then waveCmd m w v s else if off = 0x108 then portWrite m w .wave v s else plain s
  | 7 => meterWrite m w off v s
  | 8 => if 0x040 ≤ off ∧ off < 0x100 ∧ commonFields 8 off ≠ [] then s.parts (w.page 8) plain (doCommonFieldWrite m w 8 off v) else plain s
  | 9 => if off = 0x040 then attrCmd m w v s else plain s
  | 0xA => if off = 0x044 then libCmd m w v s
    else if off = 0x114 then campCmd m w v s
    else if 0x400 ≤ off ∧ off < 0x600 then doLibDataWrite m w off v s
    else plain s
  | 0xB => if off = 0x040 then doFabAddrWrite m w (bits v 0 16) (bits v 16 16) s
    else if off = 0x114 ∧ 1 ≤ v % 8 ∧ v % 8 ≤ 5 then s.rpaCommand m w (v % 8)
    else plain s
  | 0xC => if off = 0x040 then doCfgControl m w v (fun t => t.cancel1 w) s
    else if off = 0x068 then cfgCmdWrite m w v s
    else plain s
  | _ => plain s

/-! ### Any word -/

/-- SHADOW_CTL: VIEW_SHADOW, then COPY_ACTIVE. -/
def shadowCtlWrite (m : Master) (page v : Nat) (s : State) : State :=
  let plain := doRegisterWrite m page 0x02C v
  match pageWick page with
  | some w => if bit v 8 ∧ pageHasSh (page % 16) = true then s.parts page plain (doCopyActivePage m w (page % 16)) else plain s
  | none => plain s

/-- Whether a word of a wick's page holds SH fields. -/
def State.shWord (s : State) (page off : Nat) : Bool :=
  match pageWick page with
  | some w => (s.shArrayAt w (page % 16) off).isSome || (pageShFields (page % 16)).any (fun f => f.off = off)
  | none => false

/-- Whether a word is the _LO half of a value that a write of its _HI half commits. -/
def holdsLow (page off : Nat) : Bool :=
  match loPair page off with
  | some p => p.2.acc = .rw
  | none => false

/-- The write of a register word on a physical page. -/
def writeWord (c : SessionCommands) (m : Master) (page off v : Nat) (s : State) : State :=
  if off = 0x01C then doIrqClrWrite m page v 0 s
  else if off = 0x028 then doPageLockSet m page v s
  else if off = 0x02C then shadowCtlWrite m page v s
  else if s.shWord page off then s.parts page (doRegisterWrite m page off v) (doShFieldWrite m page off v)
  else if holdsLow page off then doHoldLo m page off v s
  else if (hiPair page off).isSome ∧ ¬(page = 0xD ∧ off = TIME.EPOCH_S_HI.off) then doHiCommit m page off v s
  else
    match pageWick page with
    | some w => if off = 0x008 then wickCtrl m w (page % 16) v s else wickWrite m w (page % 16) off v s
    | none => if off = 0x008 then sharedCtrl c m page v s else sharedWrite c m page off v s

end Sys2Proof.Machine
end

