-- ==== Sys2Proof/Machine/HostLink.lean ====
section
/-! DEFINITION. The host link: request frames and their checks, execution word by word, HOST_WAKE and sleep, the secure session, the restart of
the HOSTLINK domain (R66 to R82). -/

namespace Sys2Proof.Machine

/-! ### Session keys (R77 to R79) -/

/-- The label of the host link's session key: "SC4K-HL". -/
def labelHost : List Byte := [0x53, 0x43, 0x34, 0x4B, 0x2D, 0x48, 0x4C]
/-- The label of the remote session's key: "SC4K-RP". -/
def labelRemote : List Byte := [0x53, 0x43, 0x34, 0x4B, 0x2D, 0x52, 0x50]

/-- The tag a host makes over a challenge and its public key. -/
def hostTag (pair chal pub : List Byte) : List Byte := (cmac pair (leBytes 1 0x48 ++ chal ++ pub)).take 16

/-- The tag the module answers with. -/
def modTag (pair chal pub own : List Byte) : List Byte := (cmac pair (leBytes 1 0x4D ++ chal ++ pub ++ own)).take 16

/-- The key of a session. -/
def sessionKey (label z chal : List Byte) (id : Nat) : List Byte := cmac z (leBytes 1 1 ++ label ++ chal ++ leBytes 2 id)

/-- The MAC of a request: all its fields from the command to the counter. -/
def requestMac (key body : List Byte) : List Byte := (cmac key (leBytes 1 1 ++ body)).take 8

/-- The MAC of a response. -/
def responseMac (key : List Byte) (ctr status : Nat) (data : List Byte) : List Byte :=
  (cmac key (leBytes 1 2 ++ leBytes 4 ctr ++ leBytes 2 status ++ data)).take 8

/-- Why an OPEN fails once it may be tried: 2 NO_KEY, 1 BAD_TAG, 3 BAD_POINT; 0 where it does not (R77, R80).
DESIGN CHOICE (log entry 29). -/
def State.openReason (s : State) (chal pub tag : List Byte) : Nat :=
  match s.keys.get? 0 with
  | none => 2
  | some k => if hostTag k.key chal pub ≠ tag then 1 else if onCurve pub = false then 3 else 0

/-! ### Opening and closing a session (R77, R78, R80, R81) -/

/-- Whether OPENs are refused with LOCKOUT. DEDUCED (log entry 28). -/
def State.lockedOut (s : State) : Bool := s.armed tmLockout && !s.due tmLockout

/-- An OPEN fails: its reason is recorded and counted, the third failure in a row and every later one that is no LOCKOUT starts a lockout,
a new challenge is drawn. STATE is what it was before the OPEN. DEDUCED (log entry 28). -/
def State.openFails (s : State) (reason : Nat) : State :=
  let t := (s.set HOSTLINK.FAIL_REASON reason).bump HOSTLINK.FAIL_COUNT 1
  let t := if reason ≠ 4 ∧ 3 ≤ t.get HOSTLINK.FAIL_COUNT then t.arm tmLockout (secs 10) else t
  let state := if t.hl.opening.isSome then 1 else if t.sessionOpen then 2 else 0
  ((t.set HOSTLINK.STATE state).raise 0xF 1).newChallenge

/-- A write of SESS_CMD = OPEN: the tag and the point are checked, then the exchange runs.
DEDUCED (log entry 28); DESIGN CHOICE (log entry 29). -/
def doSessOpen (m : Master) (s : State) : State :=
  s.write m 0xF 0x054 [] (fun s =>
    let chal := s.wordBytes HOSTLINK.SESS_CHALLENGE 4
    let pub := s.wordBytes HOSTLINK.SESS_HOST_PUB 16
    let tag := s.wordBytes HOSTLINK.SESS_HOST_TAG 4
    if s.on (HDR.ENABLE 0xF) = false then s.openFails 5
    else if s.hl.opening.isSome ∨ s.on VAULT.RNG_OK = false then s.openFails 6
    else if s.lockedOut then s.openFails 4
    else
      let r := s.openReason chal pub tag
      if r ≠ 0 then s.openFails r
      else ({ s with hl := { s.hl with opening := some (chal ++ pub) } } : State).set HOSTLINK.STATE 1)

/-- SESS_OPEN. -/
def execSessOpen (m : Master) (s : State) : Host.Outcome State Fault Refusal := .next (doSessOpen m s)

/-- The running OPEN completes: the module's ephemeral key, its tag and the session key come to be, the previous session ends, the new
one opens. An OPEN whose port was disabled, whose key was destroyed or whose random generator failed meanwhile fails.
DESIGN CHOICE (log entry 29). -/
def doSessOpenDone (s : State) : State :=
  match s.hl.opening with
  | none => s
  | some o =>
    let chal := o.take 16
    let pub := o.drop 16
    let t : State := { s with hl := { s.hl with opening := none } }
    if t.on (HDR.ENABLE 0xF) = false then t.openFails 5
    else if t.on VAULT.RNG_OK = false then t.openFails 6
    else
      match t.keys.get? 0 with
      | none => t.openFails 2
      | some k =>
        let (own, t) := t.drawKey
        let mine := ecPublic own
        let t := t.endSecure
        let id := (t.get HOSTLINK.SESSION_ID + 1) % 2 ^ 16
        let key := sessionKey labelHost (ecShared own pub) chal id
        let t := (t.setWords HOSTLINK.SESS_MOD_PUB 0 (toWords mine)).setWords HOSTLINK.SESS_MOD_TAG 0 (toWords (modTag k.key chal pub mine))
        let t := t.setAll [(HOSTLINK.SESSION_ID, id), (HOSTLINK.LAST_CTR, 0), (HOSTLINK.STATE, 2), (HOSTLINK.FAIL_COUNT, 0)]
        let t := State.mask { t with hl := { t.hl with key := some key } } maskHost 16
        ((t.raise 0xF 0).newChallenge).receiverBack Master.hostS.id

/-- SESS_OPEN_DONE. -/
def execSessOpenDone (s : State) : Host.Outcome State Fault Refusal := .next (doSessOpenDone s)

/-- LOCKOUT_END. -/
def execLockoutEnd (s : State) : Host.Outcome State Fault Refusal := .next (if s.due tmLockout then s.disarm tmLockout else s)

/-- A write of SESS_CMD = CLOSE, from the secure port only. DEDUCED (log entry 30). -/
def doSessClose (m : Master) (s : State) : State :=
  s.write m 0xF 0x054 (if m = .hostS then [] else [0x1]) State.endSecure

/-- SESS_CLOSE. -/
def execSessClose (m : Master) (s : State) : Host.Outcome State Fault Refusal := .next (doSessClose m s)

/-- A write of HOSTLINK CTRL: the non-secure port may set ENABLE but not clear it; clearing it ends the session. DEDUCED (log entry 30). -/
def doHostlinkEnable (m : Master) (v : Nat) (s : State) : State :=
  let clears := bit v 0 = false ∧ s.on (HDR.ENABLE 0xF) = true
  s.write m 0xF 0x008 (if m = .hostN ∧ clears then [0x1] else []) (fun s =>
    let t := s.storeWord m 0xF 0x008 v
    if bit v 0 then t.set (HDR.ENABLE 0xF) 1 else (t.set (HDR.ENABLE 0xF) 0).endSecure)

/-- HOSTLINK_ENABLE_WRITE. -/
def execHostlinkEnableWrite (m : Master) (v : Word) (s : State) : Host.Outcome State Fault Refusal := .next (doHostlinkEnable m v.toNat s)

/-- The session commands, for a frame that writes their registers. -/
def sessionCommands : SessionCommands := { open_ := doSessOpen, close := doSessClose, enable := doHostlinkEnable }

/-! ### Execution of a frame's words (R31, R37, R73) -/

/-- What a frame has done so far: the state, the bytes read, the code of the first word refused (0 none). -/
structure Run where
  state : State
  data : List Byte
  refused : Nat

/-- One word of a frame, at a page number and an offset: the alias leads where it led at the frame's first word (`start`).
DEDUCED (log entry 23). -/
def State.frameWord (start s : State) (m : Master) (page off : Nat) (v : Option Nat) : Option Nat × State :=
  match start.resolve page with
  | .inl p =>
    let k : State → State := match v with
      | some x => writeWord sessionCommands m p off x
      | none => readWord m p off 0
    let t : State := { s with viaAlias := decide (0x30 ≤ page), busData := 0 }
    (t.refusalOf p k, { k t with viaAlias := false })
  | .inr c => (some c, { (s.countErr 0xF m page off c) with busData := 0 })

/-- The words of a read, from a host address upward. -/
def readWords (start : State) (m : Master) (a : Nat) (r : Run) : Nat → Run
  | 0 => r
  | n + 1 =>
    let (c, t) := start.frameWord r.state m (a / 4096) (a % 4096) none
    readWords start m (a + 4)
      { state := t, data := r.data ++ leBytes 4 t.busData.toNat, refused := if r.refused = 0 then c.getD 0 else r.refused } n

/-- The words of a write. DEDUCED (log entry 23). -/
def writeWords (start : State) (m : Master) (a : Nat) (r : Run) : List Nat → Run
  | [] => r
  | v :: l =>
    let (c, t) := start.frameWord r.state m (a / 4096) (a % 4096) (some v)
    writeWords start m (a + 4) { r with state := t, refused := if r.refused = 0 then c.getD 0 else r.refused } l

/-- A frame in the shared window: the non-secure port does not reach the secure half, which is counted once (R82). -/
def State.windowFrame (s : State) (m : Master) (write : Bool) (a n : Nat) (payload : List Byte) : Run :=
  let o := a - 0x800000
  let lim := if m = .hostN then 0x20000 else 0x40000
  let reach := min (o + n) lim - min o lim
  let bad := lim < o + n
  let t := if bad then s.countErr 0xF m (a / 4096) (a % 4096) 0x1 else s
  let t : State := if write then { t with window := t.window.write o (payload.take reach) } else t
  { state := t, data := if write then [] else t.window.read o reach ++ List.replicate (n - reach) 0, refused := if bad then 0x1 else 0 }

/-- A frame that has passed its checks executes: page space word by word, the shared window by bytes; any other address reaches nothing
and is counted once (R30, R73, R82). DEDUCED (log entry 24). -/
def State.runFrame (s : State) (m : Master) (write : Bool) (a n : Nat) (payload : List Byte) : Run :=
  if a < 0x40000 then
    (if write then writeWords s m a { state := s, data := [], refused := 0 } (toWords payload)
     else readWords s m a { state := s, data := [], refused := 0 } (n / 4))
  else if 0x800000 ≤ a ∧ a < 0x840000 then s.windowFrame m write a n payload
  else { state := s.countErr 0xF m (a / 4096) (a % 4096) 0xA, data := if write then [] else List.replicate n 0, refused := 0xA }

/-! ### The checks of a frame (R72, R73, R79) -/

/-- The fields of a request (R68, R349): its command byte, address, length, payload, counter, and the bytes its MAC covers with the MAC
it carries. -/
structure FrameReq where
  cmd : Nat
  addr : Nat
  len : Nat
  payload : List Byte
  ctr : Nat
  body : List Byte
  mac : List Byte

/-- The opcode of a command byte. -/
def FrameReq.op (r : FrameReq) : Nat := r.cmd % 64

/-- What the checks need of the session: whether it is open, its key, LAST_CTR. -/
structure SessionView where
  isOpen : Bool
  key : List Byte
  lastCtr : Nat

/-- FRAME_CODE after the CRC check: the first check that fails; `remote` refuses addresses outside page space with LENGTH (R73, R349). -/
def FrameReq.code (r : FrameReq) (session : Option SessionView) (remote : Bool) : Nat :=
  let inPages := decide (r.addr < 0x40000)
  let inWindow := decide (0x800000 ≤ r.addr ∧ r.addr < 0x840000)
  if r.op ≠ 1 ∧ r.op ≠ 2 then 2
  else if inPages && decide (r.addr % 4 ≠ 0 ∨ r.len % 4 ≠ 0) then 3
  else if r.len = 0 ∨ (inPages && decide (512 < r.len)) = true ∨ (inWindow && decide (4096 < r.len ∨ 0x840000 < r.addr + r.len)) = true ∨
      (remote = true ∧ (inPages = false ∨ 512 < r.len)) then 4
  else
    match session with
    | none => 0
    | some x =>
      if x.isOpen = false then 5
      else if requestMac x.key r.body ≠ r.mac then 6
      else if r.ctr ≤ x.lastCtr then 7
      else 0

/-- A refused frame is counted in the counter its code names (R73). DEDUCED (log entry 23). -/
def State.countFrame (s : State) (m : Master) (r : FrameReq) (code : Nat) : State :=
  if code = 1 ∨ code = 2 then s.bump HOSTLINK.CRC_ERR_CNT 1
  else if code = 3 ∨ code = 4 then s.countErr 0xF m (r.addr / 4096) (r.addr % 4096) 0xA
  else if code = 5 ∨ code = 6 then (s.bump HOSTLINK.AUTH_ERR_CNT 1).raise 0xF 3
  else if code = 7 then s.bump HOSTLINK.REPLAY_CNT 1
  else s

/-- The Status field (R72). -/
def frameStatus (code refused : Nat) : Nat := code + 2 ^ 8 * refused + 2 ^ 12 * b2n (refused != 0)

/-! ### A request at the pads (R66 to R74) -/

/-- Whether the target listens: PD10 is ready and awake, and VIO is present (R75, R360). DESIGN CHOICE (log entry 25). -/
def State.listens (s : State) : Bool := s.pdOn 10 && !bit (s.get PWR.PD_SLEEP) 10 && s.on PWR.VIO_OK

/-- The length of a request up to its CRC, once its first six bytes are there; a wrong opcode carries no payload. DEDUCED (log entry 22). -/
def requestLen (b : List Byte) : Option Nat :=
  if b.length < 6 then none
  else
    let cmd := leNat (b.take 1)
    some (6 + (if cmd % 64 = 1 then leNat ((b.drop 4).take 2) else 0) + (if 128 ≤ cmd then 12 else 0))

/-- The request that bytes spell, its CRC left out. DEDUCED (log entry 22). -/
def parseRequest (b : List Byte) (need : Nat) : FrameReq :=
  let num := fun (off n : Nat) => leNat ((b.drop off).take n)
  let cmd := num 0 1
  let secure := decide (128 ≤ cmd)
  let n := num 4 2
  { cmd := cmd, addr := num 1 3, len := n, payload := if cmd % 64 = 1 then (b.drop 6).take n else []
    ctr := if secure then num (need - 12) 4 else 0
    body := if secure then b.take (need - 8) else b.take need
    mac := if secure then (b.drop (need - 8)).take 8 else [] }

/-- A frame is discarded unexecuted (R71). DEDUCED (log entry 22). -/
def State.frameAborted (s : State) : State :=
  ({ s with hl := { s.hl with response := [] } } : State).bump HOSTLINK.ABORT_CNT 1

/-- The registers that show the last frame (R72). -/
def State.showFrame (s : State) (r : FrameReq) (status : Nat) : State :=
  if s.pdOn 10 then
    s.setAll [(HOSTLINK.LAST_STATUS, status), (HOSTLINK.LAST_OP, r.op), (HOSTLINK.LAST_QUAD, bits r.cmd 6 1), (HOSTLINK.LAST_SECURE, bits r.cmd 7 1)]
  else s

/-- A request frame arrives whole: it is checked, and executed where every check passes; `cut` says that HL_CS_N rises during the wait
phase, so that no response is sent. A request that stops before its last CRC byte is discarded. -/
def doFrame (b : List Byte) (cut : Bool) (s : State) : State :=
  if s.listens = false then { s with hl := { s.hl with response := [] } }
  else
    match requestLen b with
    | none => s.frameAborted
    | some need =>
      if b.length < need + 2 then s.frameAborted
      else
        let r := parseRequest b need
        let secure := decide (128 ≤ r.cmd)
        let m := if secure then Master.hostS else Master.hostN
        let key := s.hl.key.getD []
        let session := if secure then some { isOpen := s.sessionOpen && s.on (HDR.ENABLE 0xF), key := key, lastCtr := s.get HOSTLINK.LAST_CTR } else none
        let code := if crc16 (b.take need) ≠ leNat ((b.drop need).take 2) then 1 else r.code session false
        let x : Run :=
          if code = 0 then
            (if secure then s.set HOSTLINK.LAST_CTR r.ctr else s).runFrame m (r.op = 1) r.addr r.len r.payload
          else { state := s.countFrame m r code, data := if r.op = 2 then List.replicate r.len 0 else [], refused := 0 }
        let status := frameStatus code x.refused
        let t := x.state.showFrame r status
        let t := if code = 0 ∧ secure = true ∧ r.ctr = 2 ^ 32 - 1 then t.endSecure else t
        let mac := if secure then (if code = 0 then responseMac key r.ctr status x.data else List.replicate 8 0) else []
        let answer := leBytes 2 status ++ x.data ++ mac
        { t with hl := { t.hl with response := if cut then [] else leBytes 1 0xA5 ++ answer ++ leBytes 2 (crc16 answer) } }

/-- HOST_WRITE_FRAME: the bytes of the request. -/
def execHostWriteFrame (b : List Byte) (cut : Bool) (s : State) : Host.Outcome State Fault Refusal := .next (doFrame b cut s)

/-- HOST_READ_FRAME: the bytes of the request. -/
def execHostReadFrame (b : List Byte) (cut : Bool) (s : State) : Host.Outcome State Fault Refusal := .next (doFrame b cut s)

/-- FRAME_ABORT: HL_CS_N rises before the last CRC byte, or the host sees no Sync (R71, R74). -/
def execFrameAbort (s : State) : Host.Outcome State Fault Refusal := .next (if s.listens then s.frameAborted else s)

/-! ### HOST_WAKE and sleep (R75, R76) -/

/-- HOST_WAKE rises: PD10 wakes. DESIGN CHOICE (log entry 25). -/
def doHostWakeRise (s : State) : State :=
  let t : State := { s with hl := { s.hl with wokeAt := s.base } }
  t.set PWR.PD_SLEEP (setBits (t.get PWR.PD_SLEEP) 10 1 0)

/-- HOST_WAKE_RISE. -/
def execHostWakeRise (s : State) : Host.Outcome State Fault Refusal := .next (doHostWakeRise s)

/-- Whether an enabled FIFO holds committed data or an open packet. -/
def State.streamBusy (s : State) : Bool :=
  (List.range 4).any (fun f => s.on (STREAM.F_EN f) && (!(s.fifo f).words.isEmpty || (s.fifo f).openSlots.isSome))

/-- HOST_WAKE has been low for some base cycles: PD10 enters sleep. DESIGN CHOICE (log entry 26). -/
def doHostlinkSleep (low : Nat) (s : State) : State :=
  let idle := s.get HOSTLINK.IDLE_MS
  if s.pdOn 10 && idle != 0 && decide (millis idle ≤ low) && decide (s.hl.wokeAt + low ≤ s.base) && !s.streamBusy then
    s.set PWR.PD_SLEEP (setBits (s.get PWR.PD_SLEEP) 10 1 1)
  else s

/-- HOSTLINK_SLEEP, with the base cycles for which HOST_WAKE has been low. -/
def execHostlinkSleep (low : Word) (s : State) : Host.Outcome State Fault Refusal := .next (doHostlinkSleep low.toNat s)

/-! ### The restart of the HOSTLINK domain (R44, R50, R76, R80, R90, R91) -/

/-- PD10 restarts after a fault: its pages' volatile fields return to their reset values, the session ends, every FIFO is emptied and shows
RESTARTED, the host ports' mailbox endpoints have reset; the non-secure one is back at once. DESIGN CHOICE (log entry 27). -/
def doHostlinkDomainRestart (s : State) : State :=
  if s.pdOn 10 then
    let t : State := { s with fifos := [], hl := { s.hl with opening := none, response := [] } }
    let t := (t.resetPages [5, 0xF] true).disarm tmLockout
    let t := t.setAll ((List.range 4).map (fun f => (STREAM.RESTARTED f, 1)))
    let t := if t.sessionOpen then t.endSecure else t.newChallenge
    let t := (t.senderReset .hostN).receiverReset Master.hostN.id
    let t := t.receiverBack Master.hostN.id
    t.set PWR.PD_SLEEP (setBits (t.get PWR.PD_SLEEP) 10 1 0)
  else s

/-- HOSTLINK_DOMAIN_RESTART. -/
def execHostlinkDomainRestart (s : State) : Host.Outcome State Fault Refusal := .next (doHostlinkDomainRestart s)

end Sys2Proof.Machine
end

