-- ==== Sys2Proof/Machine/Remote.lean ====
section
/-! DEFINITION. Remote page access at the target module: its session and its requests (R348, R349). -/

namespace Sys2Proof.Machine

/-- The request a body spells: SESSION_ID, CMD, ADDR, LEN, the payload of a WRITE or an OPEN, CTR, CMAC. Its MAC covers the fields from CMD to
CTR. -/
def parseRemote (b : List Byte) : FrameReq :=
  let num := fun (off n : Nat) => leNat ((b.drop off).take n)
  let end_ := b.length - 12
  { cmd := num 2 1, addr := num 3 3, len := num 6 2, payload := (b.drop 8).take (end_ - 8), ctr := num end_ 4
    body := (b.drop 2).take (b.length - 10), mac := b.drop (b.length - 8) }

/-- A response to a gateway: SESSION_ID, CTR, STATUS, the data, the MAC; a refused request has a MAC of zeros (R69, R349). -/
def State.remoteAnswer (s : State) (osrc id : Nat) (r : FrameReq) (key : Option (List Byte)) (status : Nat) (data : List Byte) : State :=
  let mac := match key with
    | some k => responseMac k r.ctr status data
    | none => List.replicate 8 0
  s.fabPost 0x31 osrc (leBytes 2 id ++ leBytes 4 r.ctr ++ leBytes 2 status ++ data ++ mac)

/-- The remote session takes a value. -/
def State.setRemote (s : State) (x : Remote) : State := s.setFab { s.fab with remote := x }

/-- A new challenge for the remote session (R77). DEDUCED (log entry 129); DESIGN CHOICE (log entry 209). -/
def State.remoteChallenge (s : State) : State :=
  if s.vault.rngDown then s
  else
    let (c, t) := s.drawBytes 16
    t.setRemote { t.fab.remote with challenge := c }

/-- An OPEN at the target: 80 bytes of public key and tag. It fails as an OPEN of the host link does, on its own account; where it succeeds
the previous session ends and the new one opens. DEDUCED (log entry 129). -/
def State.remoteOpen (s : State) (osrc : Nat) (r : FrameReq) : State :=
  let x := s.fab.remote
  let pub := r.payload.take 64
  let reason := if s.on VAULT.RNG_OK = false then 6 else if s.base < x.lockout then 4 else s.openReason x.challenge pub ((r.payload.drop 64).take 16)
  if reason ≠ 0 then
    let fails := x.fails + 1
    let t := s.setRemote { x with fails := fails, lockout := if reason ≠ 4 ∧ 3 ≤ fails then s.base + secs 10 else x.lockout }
    t.remoteChallenge.remoteAnswer osrc x.id r none (frameStatus 6 0) []
  else
    let (own, t) := s.drawKey
    let mine := ecPublic own
    let t := t.endRemote
    let id := (x.id + 1) % 2 ^ 16
    let key := sessionKey labelRemote (ecShared own pub) x.challenge id
    let y := t.fab.remote
    let t := (t.setRemote { y with state := 2, id := id, key := key, lastCtr := 0, peer := osrc, since := t.base, fails := 0, lockout := 0 }).remoteChallenge
    let t := (t.mask maskRemote 16).raise (t.cw.page 0xB) 5
    t.remoteAnswer osrc id r (some key) (frameStatus 0 0) (mine ++ modTag (t.slotKey 0) x.challenge pub mine)

/-- A READ, a WRITE or a CLOSE at the target: the checks of a frame from BAD_COMMAND onward, then its execution as master 0x6. An accepted
counter of 0xFFFFFFFF, and a CLOSE, end the session after it. DEDUCED (log entry 129). -/
def State.remoteFrame (s : State) (osrc id : Nat) (r : FrameReq) : State :=
  let x := s.fab.remote
  let view : SessionView := { isOpen := x.state = 2 && x.id = id, key := x.key, lastCtr := x.lastCtr }
  let close := r.cmd = 0x85
  let code := if close then { r with cmd := 2, addr := 0, len := 4 : FrameReq }.code (some view) true else r.code (some view) true
  if code = 0 then
    let t := s.setRemote { x with lastCtr := r.ctr, since := s.base }
    let run : Run := if close then { state := t, data := [], refused := 0 } else t.runFrame .remote (r.op = 1) r.addr r.len (r.payload.take r.len)
    let t := run.state.remoteAnswer osrc id r (some x.key) (frameStatus 0 run.refused) run.data
    if close = true ∨ r.ctr = 2 ^ 32 - 1 then t.endRemote else t
  else
    (s.countFrame .remote r code).remoteAnswer osrc id r none (frameStatus code 0) (if r.op = 2 then List.replicate r.len 0 else [])

/-- A request that reaches this module as target, taken while RPA_EN is 1. DEDUCED (log entry 129). -/
def State.remoteRequest (s : State) (osrc : Nat) (b : List Byte) : State :=
  if s.on (FABRIC.RPA_EN s.cw) = false ∨ b.length < 20 then s
  else
    let r := parseRemote b
    if r.cmd = 0x83 then
      let x := s.fab.remote
      s.remoteAnswer osrc x.id r none (frameStatus 0 0) x.challenge
    else if r.cmd = 0x84 then s.remoteOpen osrc r
    else s.remoteFrame osrc (leNat (b.take 2)) r

/-- RPA_REQUEST_RECEIVED, on a backbone port. -/
def execRpaRequestReceived (x : FabRx) (s : State) : Host.Outcome State Fault Refusal :=
  .next (match s.takeFrame x with
    | (some m, t) => if m.ltype = 0x30 ∧ m.odest = t.fabAddr then t.remoteRequest m.osrc m.body else t
    | (none, t) => t)

end Sys2Proof.Machine
end

