-- ==== Sys2Proof/Machine/Receive.lean ====
section
/-! DEFINITION. A frame as it is received: its checks in the order of R141, what the module learns of the lantern that sent it, its execution, the air link's frames (R101 to R108, R140, R141, R144, R152, R153, R156, R162, R175, R186, R195, R207, R238, R340, R341, R394). -/

namespace Sys2Proof.Machine

/-! ### The checks (R141) -/

/-- Whether a frame may be of its type: its version, its sender and its destination (R6, R137, R341). DEDUCED (log entries 47, 48). -/
def RxFrame.headerOk (f : RxFrame) : Bool :=
  let module_ := f.src = 0
  let multi := isMulti f.dest
  bits f.fc 14 2 = 0 &&
  (match f.ty with
   | 0 => module_ && f.dest = 0xFFFF
   | 1 => module_ && isLantern f.dest
   | 2 => module_ && multi
   | 3 => (module_ && isLantern f.dest) || (isLantern f.src && f.dest = 0)
   | 4 => isLantern f.src && f.dest = 0
   | 5 => module_ && multi
   | 6 => module_ && multi
   | 7 => module_ && multi
   | 8 => f.src = 0xFFFF && f.dest = 0
   | 9 => module_ && f.dest = 0xFFFF
   | 10 => module_ && (isLantern f.dest || multi)
   | 15 => decide (f.src ≤ 0x400) && (decide (1 ≤ f.dest ∧ f.dest ≤ 0x400) || f.dest = 0xFFFF)
   | _ => false)

/-- Whether the module takes frames from a lantern's address: it is registered, or AWAY and may have come back (R186, R191).
DEDUCED (log entry 51). -/
def State.served (s : State) (a : Nat) : Bool := s.registered a || (isLantern a && s.entryState a = 5)

/-- The payload of a lantern's frame and the epoch of the key that opened it: the key KEY_SEL names; for a while after a roll also the
key before it. No other KEY_SEL names a key here (R138, R394). DEDUCED (log entries 49, 51, 52). -/
def State.openFrame (s : State) (f : RxFrame) : Option (List Byte × Nat) :=
  let e := s.get VAULT.SEG_EPOCH
  let under := fun (n : Nat) => (f.openWith (s.segKey n)).map (fun p => (p, n % 256))
  if f.keySel = 0 then
    match under e with
    | some r => some r
    | none => if s.armed tmGrace && !s.due tmGrace && !s.on VAULT.NEXT_READY then under (e + 255) else none
  else if f.keySel = 1 ∧ s.on VAULT.NEXT_READY = true then under (e + 1)
  else none

/-- The last counter accepted from a lantern under the key of an epoch (R140). DEDUCED (log entry 51). -/
def Lantern.counter (x : Lantern) (epoch : Nat) : Option Nat :=
  match x.lastFcnt with
  | some (c, e) => if e = epoch then some c else if (epoch + 1) % 256 = e then x.prevFcnt else none
  | none => none

/-- A lantern's counter is accepted under the key of an epoch. DEDUCED (log entry 51). -/
def Lantern.counted (x : Lantern) (epoch cnt : Nat) : Lantern :=
  match x.lastFcnt with
  | some (c, e) =>
    if e = epoch then { x with lastFcnt := some (cnt, epoch) }
    else if (epoch + 1) % 256 = e then { x with prevFcnt := some cnt }
    else { x with lastFcnt := some (cnt, epoch), prevFcnt := if (e + 1) % 256 = epoch then some c else none }
  | none => { x with lastFcnt := some (cnt, epoch), prevFcnt := none }

/-- What steps 1 to 4 make of a frame that is neither AIRLINK nor JOIN_REQUEST. -/
inductive RxStep where
  | badHeader
  | foreign
  | own
  | badMic
  | replay
  | copied
  | passed (payload : List Byte) (epoch : Nat)
deriving DecidableEq, Repr

/-- Steps 2 to 4 for a frame with a sound header. DEDUCED (log entry 53). -/
def State.rxStep (s : State) (f : RxFrame) : RxStep :=
  if f.seg ≠ s.get (FABRIC.SEG_ID s.cw) then .foreign
  else if f.src = 0 then .own
  else if s.served f.src = false then .foreign
  else match s.openFrame f with
    | none => .badMic
    | some (p, e) =>
      (match (s.lantern f.src).counter e with
       | some c => if f.fcnt = c then .copied else if f.fcnt < c then .replay else .passed p e
       | none => .passed p e)

/-- A counter of the LINK page goes up by one. DEDUCED (log entry 50). -/
def State.linkCount (s : State) (f : Wick → Field) : State := s.bump (f s.cw) 1

/-- A discarded frame is counted (R141, R163). DEDUCED (log entry 53). -/
def State.countJudged (s : State) (j : RxStep) : State :=
  match j with
  | .badHeader => s.linkCount LINK.BAD_HDR_CNT
  | .foreign => s.linkCount LINK.FOREIGN_CNT
  | .badMic => (s.linkCount LINK.MIC_ERR).raise (s.cw.page 2) 2
  | .replay => (s.linkCount LINK.REPLAY_CNT).raise (s.cw.page 2) 3
  | .copied => s.linkCount LINK.DUP_CNT
  | .own => s
  | .passed _ _ => s

/-- Where and when a frame was received: its channel and input, its RSSI, the segment time of its SFD. -/
structure RxInfo where
  chan : Nat
  input : Nat
  rssi : Nat
  sfd : Nat
deriving DecidableEq, Repr

/-- A received frame is captured: one that failed steps 1 to 4 only while CAPTURE_BAD is 1 (R162). -/
def State.captureRx (s : State) (w : Wick) (r : RxInfo) (psdu : List Byte) (failed micOk dup : Bool) : State :=
  if s.captures w && (!failed || s.on (LINK.CAPTURE_BAD w)) then
    s.capture 1 r.sfd r.chan r.input r.rssi (1 + 2 * b2n micOk + 4 * b2n dup) psdu
  else s

/-! ### What a frame tells of its sender (R144) -/

/-- Segment time less the TIME_LO of a frame, in ticks. -/
def State.offsetTicks (s : State) (f : RxFrame) (sfd : Nat) : Int := toSigned 48 (ofSigned 48 ((sfd : Int) - (s.rebuild f.timeLo : Int)))

/-- Ticks in µs. A part of one is rounded as the spec leaves open. -/
def ticksUs (t : Int) : Int :=
  let n := t * 15625
  n / 512 + (if n % 512 ≠ 0 ∧ Config.roundsUp (ofSigned 64 n) 512 = true then 1 else 0)

/-- A new sample of a lantern's drift in ppm (R144). -/
def driftAfter (old : Option Rat) (sample : Rat) : Rat :=
  let d := match old with
    | none => sample
    | some d => max sample (d * 15 / 16 + sample / 16)
  max 2 (min 100 d)

/-- The link model of a lantern after a frame of its own: the offset; with SYNC_AGE the drift and t_sync; with STATE the mode; with an
acknowledgement the frame it acknowledged. DEDUCED (log entry 54). -/
def State.modelled (s : State) (f : RxFrame) (sfd : Nat) (age mode acked : Option Nat) : State :=
  let x := s.lantern f.src
  let off := s.offsetTicks f sfd
  let x := { x with offsetUs := ticksUs off }
  let x := match mode with
    | some m => { x with mode := some m }
    | none => x
  let x := match acked.bind (fun q => s.link.sentSfd.get? q) with
    | some t => { x with ackedSfd := t }
    | none => x
  let x := match age with
    | some g =>
      let x := if 64 ≤ g then { x with drift := some (driftAfter x.drift (((off.natAbs * 15625 : Nat) : Rat) / 512 / (((g : Nat) : Rat) / 16))) } else x
      { x with tSync := max x.ackedSfd (sfd - 2048 * g) }
    | none => x
  s.setLantern f.src x

/-! ### Reports (R156, R194, R195, R207) -/

/-- A ledger with an increase; a sum beyond its 32 bits is open. -/
def State.ledgerSum (s : State) (old inc : Nat) : Nat × State :=
  if old + inc < 2 ^ 32 then (old + inc, s) else let (v, t) := s.draw; (v % 2 ^ 32, t)

/-- One ledger of the fitted engine follows its counter: whether the counter restarted. DEDUCED (log entry 79). -/
def State.ledgerStep (s : State) (a ledger last v : Nat) : Bool × State :=
  let old := s.rget a last 4
  let (sum, t) := s.ledgerSum (s.rget a ledger 4) (if old ≤ v then v - old else v)
  (decide (v < old), (t.rset a ledger 4 sum).rset a last 4 v)

/-- A life flag of a lantern takes a value: 0 LIFE_REACHED, 1 CLO_CAPPED, 2 COUNT_RESET. DEDUCED (log entry 79). -/
def State.setLife (s : State) (a n : Nat) (v : Bool) : State := s.rset a 0x6F 1 (setBits (s.rget a 0x6F 1) n 1 (b2n v))

/-- The ledger of an engine reaches its share of the rated life (R207). -/
def State.judgeLife (s : State) (a : Nat) : State :=
  let rated := s.rget a 0x30 4
  let wmin := s.rget a 0x34 4
  if 0 < rated ∧ rated * 60 * s.get (REGISTRY.LIFE_PCT s.cw) ≤ wmin * 100 ∧ bit (s.rget a 0x6F 1) 0 = false then
    ((s.setLife a 0 true).notice a 6).event s.srcCtl 0x0602 [a, wmin / 60]
  else s

/-- An ENGINE report: of the engine that is known, or of another (R207, R208). DEDUCED (log entry 79). -/
def State.engineReport (s : State) (a id min_ wmin flags : Nat) : State :=
  if id = 0 ∨ id ≠ s.rget a 0x28 8 then s.engineSeen a id (some (wmin, min_))
  else
    let (r1, t) := s.ledgerStep a 0x34 0x3C wmin
    let (r2, t) := t.ledgerStep a 0x38 0x40 min_
    let t := if r1 || r2 then (t.setLife a 2 true).bump (REGISTRY.COUNT_RESET_CNT t.cw) 1 else t
    (t.setLife a 1 (bit flags 0)).judgeLife a

/-- The number in n bytes at an offset of some bytes. -/
def bytesAt (b : List Byte) (off n : Nat) : Nat := leNat ((b.drop off).take n)

/-- The detection that a DETECTION body from a lantern spells. -/
def detectionOf (a : Nat) (b : List Byte) : Detection :=
  { source := .inl a, kind := bytesAt b 5 1, bearing := bytesAt b 6 1, speed := bytesAt b 7 1, conf := bytesAt b 8 1, time := bytesAt b 0 4 }

/-- Whether a report is processed at all: in the AUTHOR, while the registry services run (R210, R211). DEDUCED (log entry 78). -/
def State.takesReport (s : State) : Bool := s.registryRuns

/-- Whether a body is long enough for its report type. DEDUCED (log entry 78). -/
def reportSound (ty : Nat) (b : List Byte) : Bool :=
  match ty with
  | 1 => decide (9 ≤ b.length)
  | 2 => decide (9 ≤ b.length)
  | 3 => decide (8 ≤ b.length)
  | 4 => decide (19 ≤ b.length)
  | 5 => decide (1 ≤ b.length ∧ bytesAt b 0 1 ≤ 16 ∧ 1 + 3 * bytesAt b 0 1 ≤ b.length)
  | 6 => decide (46 ≤ b.length)
  | _ => false

/-- A sound report takes effect. -/
def State.reportBody (s : State) (a ty : Nat) (b : List Byte) : State :=
  match ty with
  | 1 => (s.faultWord a (bytesAt b 2 2)).rset a 0x24 4 (bytesAt b 5 4)
  | 2 => s.intake (detectionOf a b)
  | 3 => s.faultReport a (bytesAt b 0 2) (bytesAt b 2 2) (bytesAt b 6 2)
  | 4 => s.engineReport a (bytesAt b 0 8) (bytesAt b 8 4) (bytesAt b 12 4) (bytesAt b 18 1)
  | 5 => s.setLantern a { s.lantern a with neighbours := (List.range (bytesAt b 0 1)).map (fun k => (bytesAt b (1 + 3 * k) 2, bytesAt b (3 + 3 * k) 1)) }
  | 6 => s.campReport a b
  | _ => s

/-- An acknowledgement comes to be owed: direct 1 ms after a request heard itself, else after a random slot (R153).
DEDUCED (log entry 54). -/
def State.oweAck (s : State) (f : RxFrame) (r : RxInfo) (result : Nat) : State :=
  let owe := fun (t : State) (chan : Option Nat) (due : Nat) =>
    ({ t with link := { t.link with acks := t.link.acks ++
        [{ dest := f.src, seq := f.seq, result := result, channel := chan, rssi := r.rssi, due := due, own := none }] } } : State)
  if f.hop = 0 then owe s (some r.chan) (s.base + 33)
  else let (n, t) := s.draw; owe t none (t.base + millis (10 * (n % 8)))

/-- A REPORT at step 7: a repeat is only acknowledged again; another is executed, entered in the seen cache, acknowledged. The result of
one that is not sound is open. DEDUCED (log entry 78). -/
def State.takeReport (s : State) (f : RxFrame) (r : RxInfo) (p : List Byte) : State :=
  let ty := bytesAt p 0 1
  match s.seenResult f.src f.seq with
  | some res =>
    let t := s.linkCount LINK.DUP_CNT
    if f.ackReq && !f.copy then t.oweAck f r res else t
  | none =>
    if s.takesReport = false then s
    else
      let b := p.drop 5
      let (n, u) := s.draw
      let (res, t) : Nat × State := if reportSound ty b then (0, s.reportBody f.src ty b) else (n % 256, u)
      let t := t.enterSeen f.src f.seq res
      if f.ackReq then t.oweAck f r res else t

/-- A frame that passed step 4: its sender is heard, and it is executed. DEDUCED (log entry 54). -/
def State.accept (s : State) (w : Wick) (f : RxFrame) (r : RxInfo) (p : List Byte) (epoch : Nat) : State :=
  let a := f.src
  let t := (s.setLantern a ((s.lantern a).counted epoch f.fcnt)).heard a f.hop r.rssi
  if f.ty = 3 then
    let t := if 10 ≤ p.length then t.modelled f r.sfd (some (bytesAt p 4 2)) (some (bytesAt p 2 1 % 4)) (some (bytesAt p 8 2))
      else t.modelled f r.sfd none none none
    let t := t.captureRx w r f.psdu false true false
    if 10 ≤ p.length then t.reply a (bytesAt p 0 1) (bytesAt p 1 1) (bytesAt p 8 2) else t
  else
    let t := if 5 ≤ p.length then t.modelled f r.sfd (some (bytesAt p 3 2)) (some (bytesAt p 2 1 % 4)) none
      else t.modelled f r.sfd none none none
    let t := t.captureRx w r f.psdu false true (t.seenResult a f.seq).isSome
    t.takeReport f r p

/-! ### JOIN_REQUEST -/

/-- The entry a JOIN_REQUEST belongs to where it passes steps 3 and 4 under that entry's key. -/
def State.joinPasses (s : State) (f : RxFrame) : Option Nat :=
  match s.findNode f.nodeId with
  | none => none
  | some a =>
    if (f.openWith (s.joinKey a)).isSome && (match (s.lantern a).joinFcnt with | some v => decide (v < f.fcnt) | none => true) then some a else none

/-- A JOIN_REQUEST that has passed steps 1 and 2. -/
def State.takeJoin (s : State) (w : Wick) (f : RxFrame) (r : RxInfo) : State :=
  let ok := s.joinPasses f
  let known := s.findNode f.nodeId
  let opened := known.bind (fun a => f.openWith (s.joinKey a))
  let same := known.bind (fun a => (s.lantern a).joinFcnt) = some f.fcnt
  let t := s.captureRx w r f.psdu (known.isSome && ok.isNone) opened.isSome (opened.isSome && same)
  let t := match ok with
    | some a => if s.registryRuns then t.setLantern a { t.lantern a with offsetUs := ticksUs (t.offsetTicks f r.sfd) } else t
    | none => t
  t.joinRequest f r.rssi

/-! ### The air link (R340, R341) -/

/-- The identity of the sender of an air-link frame: what its hello says, else what the neighbour or the LSA of its address says; a number
of its own for an address of which nothing is known. DEDUCED (log entry 49). -/
def State.airUid (s : State) (f : RxFrame) (p : List Byte) : Nat :=
  if bytesAt p 0 1 = 1 then bytesAt p 7 8
  else match s.fab.neighbours.find? (fun n => n.link = 2 && n.addr = f.src) with
    | some n => n.uid
    | none => (match s.fab.lsas.find? (fun l => l.addr = f.src && !l.withdrawn) with
      | some l => l.uid
      | none => 2 ^ 64 + f.src)

/-- A message of the fabric that came over the air link. Each service takes it as it takes one that came over a port. -/
def State.airMessage (s : State) (f : RxFrame) (r : RxInfo) (m : FabMsg) : State :=
  let b := m.body
  let mine := m.odest = s.fabAddr
  match m.ltype with
  | 0x01 =>
    let ns : Int := s.offsetTicks f r.sfd * 1953125 / 64
    let t := s.takeHello 2 r.rssi b
    t.setClock { t.clock with airOff := t.clock.airOff.put f.src (-ns) }
  | 0x02 => s.takeLsa m 2
  | 0x03 => s.answerDb 2 f.src
  | _ =>
    if mine = false then s.transit m
    else match m.ltype with
      | 0x10 =>
        doWaveHandoff (bytesAt b 0 2) (bytesAt b 2 1) (bytesAt b 3 1) (bytesAt b 4 2) (bytesAt b 6 1) (bytesAt b 8 2) (bytesAt b 10 6) s
      | 0x11 => doRegQueryReceived (bytesAt b 0 8) (bytesAt b 8 2) s
      | 0x12 => doRegAnswerReceived (bytesAt b 0 8) (if bytesAt b 8 1 = 0 then some (b.drop 9) else none) s
      | 0x13 => doGuestInReceived m.osrc (bytesAt b 0 8) (bytesAt b 8 2) s
      | 0x14 => doReturnReqReceived m.osrc (bytesAt b 0 8) s
      | 0x15 => doReturnConfReceived m.osrc (bytesAt b 0 8) s
      | 0x16 => doFabricAckReceived (bytesAt b 0 1) (bytesAt b 1 8) s
      | 0x20 => s.collect m.osrc b
      | 0x21 => s.acked m.osrc b
      | 0x30 => s.remoteRequest m.osrc b
      | 0x31 => s.rpaAnswer b
      | _ => s

/-- Whether the module listens on the air link: the link engine passes it frames, the fabric runs, AIR_EN is 1 (R135, R163, R341).
DEDUCED (log entry 50). -/
def State.airRuns (s : State) : Bool := s.linkOn s.cw && s.fabRuns && s.on (FABRIC.AIR_EN s.cw) && s.fabKeyed

/-- An AIRLINK frame with a sound header: its MIC under the fabric key and its counter, then its message (R340, R341). A frame for another
module is left alone. DEDUCED (log entry 131). -/
def State.takeAir (s : State) (w : Wick) (f : RxFrame) (r : RxInfo) : State :=
  if s.airRuns = false then s.captureRx w r f.psdu false false false
  else
    let fail := fun (t : State) => (t.captureRx w r f.psdu true false false).bump (FABRIC.RX_AUTH_ERR t.cw) 1
    match f.openWith (s.slotKey 1) with
    | none => fail s
    | some p =>
      let uid := s.airUid f p
      if s.fabStale uid f.txw f.fcnt then fail s
      else
        let t := (s.captureRx w r f.psdu false true false).fabCounted uid f.txw f.fcnt
        if p.length < 7 ∨ (f.dest ≠ 0xFFFF ∧ f.dest ≠ t.fabAddr) then t
        else t.airMessage f r
          { ltype := bytesAt p 0 1, odest := bytesAt p 1 2, osrc := bytesAt p 3 2, hops := bytesAt p 5 2 % 2048, body := p.drop 7, via := some (2, f.src) }

/-! ### The command -/

/-- The link engine of the controller takes a frame with a good FCS. Frames of source 0x0000 go no further than step 2. -/
def State.takeRx (s : State) (w : Wick) (f : RxFrame) (r : RxInfo) : State :=
  if f.headerOk = false then (s.captureRx w r f.psdu true false false).countJudged .badHeader
  else if f.ty = 15 then s.takeAir w f r
  else if f.ty = 8 then
    if f.seg ≠ s.get (FABRIC.SEG_ID s.cw) then (s.captureRx w r f.psdu true false false).countJudged .foreign
    else s.takeJoin w f r
  else match s.rxStep f with
    | .passed p e => s.accept w f r p e
    | j => (s.captureRx w r f.psdu (decide (j ≠ .own)) (decide (j = .copied ∨ j = .replay)) (decide (j = .copied))).countJudged j

/-- A WARMING wick holds a DETECTION report that passes steps 1 to 4, once (R238). -/
def State.warmRx (s : State) (f : RxFrame) : State :=
  if (f.headerOk && f.ty = 4 && f.seg = s.get (FABRIC.SEG_ID s.cw) && s.served f.src) = false then s
  else match s.openFrame f with
    | none => s
    | some (p, e) =>
      let d := detectionOf f.src (p.drop 5)
      let stale := match (s.lantern f.src).counter e with
        | some c => decide (f.fcnt < c)
        | none => false
      if bytesAt p 0 1 = 2 ∧ reportSound 2 (p.drop 5) = true ∧ stale = false ∧ s.wave.buffer.any (fun x => x.1 = d) = false then s.holdDetection d
      else s

/-- The segment time of the SFD of a frame that ends now: its SFD, PHR and PSDU have just passed. Into which of two ticks the SFD falls is
open where the duration is no whole number of ticks. DESIGN CHOICE (log entry 46). -/
def State.rxSfd (s : State) (chan len : Nat) : Nat × State :=
  let c := s.active.chan chan
  let us := ((if c.fec then 16 + 16 * (3 + len) else 8 * (4 + len)) * symThirds c.rate + 2) / 3
  let whole := us * 32768 / 1000000
  if us * 32768 % 1000000 = 0 then (s.now - whole, s)
  else let (n, t) := s.draw; (s.now - whole - n % 2, t)

/-- FRAME_RECEIVED: the frame an attached demodulator receives ends. Its FCS is checked, it is counted, and the engine of the wick that
holds AUTHOR or SNOWDROP processes it; a MIRROR and a stopped wick process none. DESIGN CHOICE (log entry 192). -/
def doFrameReceived (w : Wick) (d : Nat) (psdu : List Byte) (rssi : Nat) (s : State) : State :=
  if (s.on (RADIO.DEMOD_BUSY w d) && decide (5 ≤ psdu.length ∧ psdu.length ≤ 511)) = false then s
  else
    let chan := s.get (RADIO.CHANNEL w d)
    let input := s.get (RADIO.INPUT w d)
    let t := (s.releaseDemod w d).set (RADIO.RSSI_NEG w d) rssi
    let body := psdu.take (psdu.length - 4)
    if fcs body % 2 ^ 32 ≠ leNat (psdu.drop (psdu.length - 4)) then t.bump (RADIO.RX_FCS_ERR w) 1
    else
      let t := t.wrapInc (RADIO.RX_FRAMES w)
      if t.stopped w then t
      else match t.role w with
        | .warming => (match parseFrame psdu with
          | some f => t.warmRx f
          | none => t)
        | .author | .snowdrop =>
          let (sfd, t) := t.rxSfd chan psdu.length
          let r : RxInfo := { chan := chan, input := input, rssi := rssi, sfd := sfd }
          (match parseFrame psdu with
           | some f =>
             if t.linkOn w then t.takeRx w f r else t
           | none => if t.linkOn w then (t.captureRx w r psdu true false false).countJudged .badHeader else t)
        | _ => t

/-- FRAME_RECEIVED: the wick, the demodulator, the PSDU with its FCS, the RSSI in dB below 0 dBm. -/
def execFrameReceived (w : Wick) (d : Fin 8) (psdu : List Byte) (rssi : Byte) (s : State) : Host.Outcome State Fault Refusal :=
  .next (doFrameReceived w d.val psdu rssi.toNat s)

end Sys2Proof.Machine
end

