-- ==== Sys2Proof/Machine/Dispatch.lean ====
section
/-! DEFINITION. Which meaning each command has: one arm per constructor of Instr. -/

namespace Sys2Proof.Machine

/-- The effect of a command on everything but the queue of waiting commands. -/
def exec (i : Instr) (s : State) : Host.Outcome State Fault Refusal :=
  match i with
  | .registerWrite m a v => Sys2Proof.Machine.execRegisterWrite m a v s
  | .writeHiCommit m a v => Sys2Proof.Machine.execWriteHiCommit m a v s
  | .readLoCapture m a same => Sys2Proof.Machine.execReadLoCapture m a s same
  | .irqClrWrite m page v same => Sys2Proof.Machine.execIrqClrWrite m page v same s
  | .irqSourceSet page n => Sys2Proof.Machine.execIrqSourceSet page n s
  | .errCntRead m page same => Sys2Proof.Machine.execErrCntRead m page same s
  | .pageLockSet m page v => Sys2Proof.Machine.execPageLockSet m page v s
  | .copyActivePage m w pos => Sys2Proof.Machine.execCopyActivePage m w pos s
  | .shFieldWrite m a v => Sys2Proof.Machine.execShFieldWrite m a v s
  | .lockAcquireRead m n rivals => Sys2Proof.Machine.execLockAcquireRead m n rivals s
  | .lockRelease m n v => Sys2Proof.Machine.execLockRelease m n v s
  | .lockForce m v => Sys2Proof.Machine.execLockForce m v s
  | .locksDisable m => Sys2Proof.Machine.execLocksDisable m s
  | .portRead m w port autoInc => Sys2Proof.Machine.execPortRead m w port autoInc s
  | .portWrite m w port autoInc => Sys2Proof.Machine.execPortWrite m w port autoInc s
  | .portErase m w port autoInc => Sys2Proof.Machine.execPortErase m w port autoInc s
  | .portCmdDone w port => Sys2Proof.Machine.execPortCmdDone w port s
  | .cfgArm m w mode => Sys2Proof.Machine.execCfgArm m w mode s
  | .cfgValidationDone => Sys2Proof.Machine.execCfgValidationDone s
  | .cfgCancel m w mode same => Sys2Proof.Machine.execCfgCancel m w mode same s
  | .cfgSwapInstant => Sys2Proof.Machine.execCfgSwapInstant s
  | .copyActive m w => Sys2Proof.Machine.execCopyActive m w s
  | .clearShadow m w => Sys2Proof.Machine.execClearShadow m w s
  | .validate m w => Sys2Proof.Machine.execValidate m w s
  | .cfgCmdDone => Sys2Proof.Machine.execCfgCmdDone s
  | .hostWriteFrame b cut => Sys2Proof.Machine.execHostWriteFrame b cut s
  | .hostReadFrame b cut => Sys2Proof.Machine.execHostReadFrame b cut s
  | .frameAbort => Sys2Proof.Machine.execFrameAbort s
  | .hostWakeRise => Sys2Proof.Machine.execHostWakeRise s
  | .hostlinkSleep low => Sys2Proof.Machine.execHostlinkSleep low s
  | .sessOpen m => Sys2Proof.Machine.execSessOpen m s
  | .sessOpenDone => Sys2Proof.Machine.execSessOpenDone s
  | .lockoutEnd => Sys2Proof.Machine.execLockoutEnd s
  | .sessClose m => Sys2Proof.Machine.execSessClose m s
  | .hostlinkEnableWrite m v => Sys2Proof.Machine.execHostlinkEnableWrite m v s
  | .chCfgWrite m ch v ack => Sys2Proof.Machine.execChCfgWrite m ch v ack s
  | .descriptorWrite m ch r v => Sys2Proof.Machine.execDescriptorWrite m ch r v s
  | .post m ch => Sys2Proof.Machine.execPost m ch s
  | .doorbellDeliver ch => Sys2Proof.Machine.execDoorbellDeliver ch s
  | .revoke m ch ack => Sys2Proof.Machine.execRevoke m ch ack s
  | .chAck m ch ret seq reset => Sys2Proof.Machine.execChAck m ch ret seq s reset
  | .mboxPageDisable m secure => Sys2Proof.Machine.execMboxPageDisable m secure s
  | .tableRead ch => Sys2Proof.Machine.execTableRead ch s
  | .tableWrite ch => Sys2Proof.Machine.execTableWrite ch s
  | .tableErase ch => Sys2Proof.Machine.execTableErase ch s
  | .results ch => Sys2Proof.Machine.execResults ch s
  | .packetOpen f => Sys2Proof.Machine.execPacketOpen f s
  | .packetCommit f ty payload => Sys2Proof.Machine.execPacketCommit f ty payload s
  | .packetAbandon f => Sys2Proof.Machine.execPacketAbandon f s
  | .flush m f => Sys2Proof.Machine.execFlush m f s
  | .flushBoundary f => Sys2Proof.Machine.execFlushBoundary f s
  | .fEnClear m f => Sys2Proof.Machine.execFEnClear m f s
  | .fDataRead m f => Sys2Proof.Machine.execFDataRead m f s
  | .preambleDetect w l => Sys2Proof.Machine.execPreambleDetect w l s
  | .demodSfdTimeout w d => Sys2Proof.Machine.execDemodSfdTimeout w d s
  | .phrCheck w d p => Sys2Proof.Machine.execPhrCheck w d p s
  | .frameReceived w d psdu rssi => Sys2Proof.Machine.execFrameReceived w d psdu rssi s
  | .pllUnlock w => Sys2Proof.Machine.execPllUnlock w s
  | .pllRelock w => Sys2Proof.Machine.execPllRelock w s
  | .loadPreset m w p => Sys2Proof.Machine.execLoadPreset m w p s
  | .presetLoadDone => Sys2Proof.Machine.execPresetLoadDone s
  | .ledgerRequest w channel cls psdu wake air rival => Sys2Proof.Machine.execLedgerRequest w channel cls psdu wake air s rival
  | .seqAllocate w => Sys2Proof.Machine.execSeqAllocate w s
  | .frameTransmit w => Sys2Proof.Machine.execFrameTransmit w s
  | .frameTxEnd w => Sys2Proof.Machine.execFrameTxEnd w s
  | .grantLapse w => Sys2Proof.Machine.execGrantLapse w s
  | .bucketBoundary => Sys2Proof.Machine.execBucketBoundary s
  | .presumptionEnd => Sys2Proof.Machine.execPresumptionEnd s
  | .quietAssert m => Sys2Proof.Machine.execQuietAssert m s
  | .secondBoundary => Sys2Proof.Machine.execSecondBoundary s
  | .beaconSend w => Sys2Proof.Machine.execBeaconSend w s
  | .taperTrain => Sys2Proof.Machine.execTaperTrain s
  | .rendezvousSend => Sys2Proof.Machine.execRendezvousSend s
  | .ackSend => Sys2Proof.Machine.execAckSend s
  | .seenEntryExpire => Sys2Proof.Machine.execSeenEntryExpire s
  | .linkDisable m w => Sys2Proof.Machine.execLinkDisable m w s
  | .mirrorCopy => Sys2Proof.Machine.execMirrorCopy s
  | .txnSubmit m w => Sys2Proof.Machine.execTxnSubmit m w s
  | .internalSubmit p ty dest opcode args ack win att nb na => Sys2Proof.Machine.execInternalSubmit p ty dest opcode args ack win att nb na s
  | .txnOffer => Sys2Proof.Machine.execTxnOffer s
  | .txnRequeueExpiry n => Sys2Proof.Machine.execTxnRequeueExpiry n s
  | .txnDeadline n => Sys2Proof.Machine.execTxnDeadline n s
  | .attemptTimeout n same => Sys2Proof.Machine.execAttemptTimeout n s same
  | .backoffExpiry n => Sys2Proof.Machine.execBackoffExpiry n s
  | .quarantineEnd n => Sys2Proof.Machine.execQuarantineEnd n s
  | .abort m w tag same => Sys2Proof.Machine.execAbort m w tag same s
  | .abortAll m w same => Sys2Proof.Machine.execAbortAll m w s same
  | .txnDisable m w => Sys2Proof.Machine.execTxnDisable m w s
  | .resPop m w => Sys2Proof.Machine.execResPop m w s
  | .respSel m w v => Sys2Proof.Machine.execRespSel m w v s
  | .guestLookupTimeout => Sys2Proof.Machine.execGuestLookupTimeout s
  | .regQueryReceived node fromSeg => Sys2Proof.Machine.execRegQueryReceived node fromSeg s
  | .regAnswerReceived node lent => Sys2Proof.Machine.execRegAnswerReceived node lent s
  | .guestInReceived osrc node seg => Sys2Proof.Machine.execGuestInReceived osrc node seg s
  | .returnRequestDue a => Sys2Proof.Machine.execReturnRequestDue a s
  | .returnReqReceived osrc node => Sys2Proof.Machine.execReturnReqReceived osrc node s
  | .returnConfReceived osrc node => Sys2Proof.Machine.execReturnConfReceived osrc node s
  | .fabricRepeatTimer => Sys2Proof.Machine.execFabricRepeatTimer s
  | .fabricAckReceived ltype node => Sys2Proof.Machine.execFabricAckReceived ltype node s
  | .pushSend a n => Sys2Proof.Machine.execPushSend a n s
  | .roleRecompute => Sys2Proof.Machine.execRoleRecompute s
  | .faultLastSExpiry a n => Sys2Proof.Machine.execFaultLastSExpiry a n s
  | .faultBucketRotate => Sys2Proof.Machine.execFaultBucketRotate s
  | .faultAck m w a => Sys2Proof.Machine.execFaultAck m w a s
  | .notHeardExpiry a => Sys2Proof.Machine.execNotHeardExpiry a s
  | .noticePop m w => Sys2Proof.Machine.execNoticePop m w s
  | .dailyResolution => Sys2Proof.Machine.execDailyResolution s
  | .stepBroadcast => Sys2Proof.Machine.execStepBroadcast s
  | .stepInstant => Sys2Proof.Machine.execStepInstant s
  | .schedRefresh => Sys2Proof.Machine.execSchedRefresh s
  | .periodicReplan => Sys2Proof.Machine.execPeriodicReplan s
  | .trackEnd n => Sys2Proof.Machine.execTrackEnd n s
  | .waveAbort m w sel restore same => Sys2Proof.Machine.execWaveAbort m w sel restore same s
  | .waveAbortAll m w restore same => Sys2Proof.Machine.execWaveAbortAll m w restore s same
  | .inject m w => Sys2Proof.Machine.execInject m w s
  | .waveHandoffReceived seg id flags node kind cms tArr => Sys2Proof.Machine.execWaveHandoffReceived seg id flags node kind cms tArr s
  | .keepAwakeHold p => Sys2Proof.Machine.execKeepAwakeHold p s
  | .profileHourClose => Sys2Proof.Machine.execProfileHourClose s
  | .profileBlockCopy => Sys2Proof.Machine.execProfileBlockCopy s
  | .preBrighten => Sys2Proof.Machine.execPreBrighten s
  | .preBrightenResend => Sys2Proof.Machine.execPreBrightenResend s
  | .waveDisable m w => Sys2Proof.Machine.execWaveDisable m w s
  | .meterEnable m w => Sys2Proof.Machine.execMeterEnable m w s
  | .meterDisable m w => Sys2Proof.Machine.execMeterDisable m w s
  | .stopSaveDone w => Sys2Proof.Machine.execStopSaveDone w s
  | .commonFieldWrite m w harm off v => Sys2Proof.Machine.execCommonFieldWrite m w harm off v s
  | .trimWrite m w off v => Sys2Proof.Machine.execTrimWrite m w off v s
  | .seal m w => Sys2Proof.Machine.execSeal m w s
  | .sampleClip w ch => Sys2Proof.Machine.execSampleClip w ch s
  | .overloadEnd w ch => Sys2Proof.Machine.execOverloadEnd w ch s
  | .settlingEnd w c => Sys2Proof.Machine.execSettlingEnd w c s
  | .powerSampleClose w x l => Sys2Proof.Machine.execPowerSampleClose w x l s
  | .perSecondClose w => Sys2Proof.Machine.execPerSecondClose w s
  | .meterCompare refA refB => Sys2Proof.Machine.execMeterCompare refA refB s
  | .harmonicWindowClose w l mHz locked => Sys2Proof.Machine.execHarmonicWindowClose w l mHz locked s
  | .agg10minClose w => Sys2Proof.Machine.execAgg10minClose w s
  | .voltageEventStart w x mv => Sys2Proof.Machine.execVoltageEventStart w x mv s
  | .voltageEventEnd w x mv => Sys2Proof.Machine.execVoltageEventEnd w x mv s
  | .missingNeutralDeclare w l ms => Sys2Proof.Machine.execMissingNeutralDeclare w l s ms
  | .missingNeutralClear w l ms => Sys2Proof.Machine.execMissingNeutralClear w s l ms
  | .intervalClose => Sys2Proof.Machine.execIntervalClose s
  | .accClear m w => Sys2Proof.Machine.execAccClear m w s
  | .capture m w => Sys2Proof.Machine.execCapture m w s
  | .captureDone l => Sys2Proof.Machine.execCaptureDone l s
  | .recFetch m w n => Sys2Proof.Machine.execRecFetch m w n s
  | .meterCheckpoint w finished => Sys2Proof.Machine.execMeterCheckpoint w finished s
  | .hIndexRead m w => Sys2Proof.Machine.execHIndexRead m w s
  | .planDue => Sys2Proof.Machine.execPlanDue s
  | .attrStart m w p => Sys2Proof.Machine.execAttrStart m w p s
  | .participantsFix => Sys2Proof.Machine.execParticipantsFix s
  | .chipEnd => Sys2Proof.Machine.execChipEnd s
  | .sessionChipsEnd => Sys2Proof.Machine.execSessionChipsEnd s
  | .solveDone => Sys2Proof.Machine.execSolveDone s
  | .attrAbort m w same => Sys2Proof.Machine.execAttrAbort m w same s
  | .baseClear m w a => Sys2Proof.Machine.execBaseClear m w a s
  | .attrDisable m w => Sys2Proof.Machine.execAttrDisable m w s
  | .libBegin m w => Sys2Proof.Machine.execLibBegin m w s
  | .libDataWrite m w k v => Sys2Proof.Machine.execLibDataWrite m w k v s
  | .libFinish m w => Sys2Proof.Machine.execLibFinish m w s
  | .libDelete m w => Sys2Proof.Machine.execLibDelete m w s
  | .libOpDone norFail => Sys2Proof.Machine.execLibOpDone norFail s
  | .start m w => Sys2Proof.Machine.execStart m w s
  | .pause m w same => Sys2Proof.Machine.execPause m w same s
  | .resume m w => Sys2Proof.Machine.execResume m w s
  | .activate m w => Sys2Proof.Machine.execActivate m w s
  | .campaignAbort m w same => Sys2Proof.Machine.execCampaignAbort m w same s
  | .blockSend => Sys2Proof.Machine.execBlockSend s
  | .campaignHold => Sys2Proof.Machine.execCampaignHold s
  | .queryClose same => Sys2Proof.Machine.execQueryClose s same
  | .activationInstant => Sys2Proof.Machine.execActivationInstant s
  | .confirmWaitEnd => Sys2Proof.Machine.execConfirmWaitEnd s
  | .campaignDisable m w => Sys2Proof.Machine.execCampaignDisable m w s
  | .heartbeat w => Sys2Proof.Machine.execHeartbeat w s
  | .lossTimerExpiry => Sys2Proof.Machine.execLossTimerExpiry s
  | .voterDisagreement voter w held => Sys2Proof.Machine.execVoterDisagreement voter w held s
  | .lockstepMismatch w => Sys2Proof.Machine.execLockstepMismatch w s
  | .sramEccCorrection w => Sys2Proof.Machine.execSramEccCorrection w s
  | .sramDoubleError w => Sys2Proof.Machine.execSramDoubleError w s
  | .wickReady w ms => Sys2Proof.Machine.execWickReady w ms s
  | .startDeadlineExpiry w invalid => Sys2Proof.Machine.execStartDeadlineExpiry w invalid s
  | .bootStable w => Sys2Proof.Machine.execBootStable w s
  | .controllerCheckpoint => Sys2Proof.Machine.execControllerCheckpoint s
  | .handover m same => Sys2Proof.Machine.execHandover m s same
  | .cancel m => Sys2Proof.Machine.execCancel m s
  | .handoverSwapInstant ready => Sys2Proof.Machine.execHandoverSwapInstant ready s
  | .outgoingDomainsOff => Sys2Proof.Machine.execOutgoingDomainsOff s
  | .selftestNow m w => Sys2Proof.Machine.execSelftestNow m w s
  | .selftestDue w => Sys2Proof.Machine.execSelftestDue w s
  | .selftestReport w steps dryRan dur => Sys2Proof.Machine.execSelftestReport w steps dryRan dur s
  | .restore m w => Sys2Proof.Machine.execRestore m w s
  | .faultClr m w => Sys2Proof.Machine.execFaultClr m w s
  | .countClr m w => Sys2Proof.Machine.execCountClr m w s
  | .faultWindowHour => Sys2Proof.Machine.execFaultWindowHour s
  | .soakComplete => Sys2Proof.Machine.execSoakComplete s
  | .recoveryRetry => Sys2Proof.Machine.execRecoveryRetry s
  | .wickEnWrite m a b => Sys2Proof.Machine.execWickEnWrite m a b s
  | .fabAddrWrite m w addr seg => Sys2Proof.Machine.execFabAddrWrite m w addr seg s
  | .helloSend link => Sys2Proof.Machine.execHelloSend link s
  | .helloReceived x => Sys2Proof.Machine.execHelloReceived x s
  | .neighbourAbsent same => Sys2Proof.Machine.execNeighbourAbsent s same
  | .portConflictClear p => Sys2Proof.Machine.execPortConflictClear p s
  | .lsaOriginate => Sys2Proof.Machine.execLsaOriginate s
  | .lsaReceived x => Sys2Proof.Machine.execLsaReceived x s
  | .lsaExpire => Sys2Proof.Machine.execLsaExpire s
  | .dbRequestReceived x => Sys2Proof.Machine.execDbRequestReceived x s
  | .routeCompute => Sys2Proof.Machine.execRouteCompute s
  | .fabricForward x => Sys2Proof.Machine.execFabricForward x s
  | .eventFwdSend => Sys2Proof.Machine.execEventFwdSend s
  | .eventFwdResend => Sys2Proof.Machine.execEventFwdResend s
  | .eventFwdReceived x => Sys2Proof.Machine.execEventFwdReceived x s
  | .eventAckReceived x => Sys2Proof.Machine.execEventAckReceived x s
  | .rpaRead m w => Sys2Proof.Machine.execRpaRead m w s
  | .rpaWrite m w => Sys2Proof.Machine.execRpaWrite m w s
  | .rpaOpenChal m w => Sys2Proof.Machine.execRpaOpenChal m w s
  | .rpaOpen m w => Sys2Proof.Machine.execRpaOpen m w s
  | .rpaClose m w => Sys2Proof.Machine.execRpaClose m w s
  | .rpaRequestReceived x => Sys2Proof.Machine.execRpaRequestReceived x s
  | .rpaResponseReceived x => Sys2Proof.Machine.execRpaResponseReceived x s
  | .rpaTimeout same => Sys2Proof.Machine.execRpaTimeout s same
  | .rpaIdleExpiry => Sys2Proof.Machine.execRpaIdleExpiry s
  | .ptpMessageReceived p msg => Sys2Proof.Machine.execPtpMessageReceived p msg s
  | .ptpMessageSend p k t3 => Sys2Proof.Machine.execPtpMessageSend p k t3 s
  | .announceReceiptTimeout p => Sys2Proof.Machine.execAnnounceReceiptTimeout p s
  | .gnssPpsEdge us ns => Sys2Proof.Machine.execGnssPpsEdge us ns s
  | .nmeaSentence rmc sumOk utc statusA => Sys2Proof.Machine.execNmeaSentence rmc sumOk utc statusA s
  | .gnssLoss => Sys2Proof.Machine.execGnssLoss s
  | .timeSourceSelect => Sys2Proof.Machine.execTimeSourceSelect s
  | .epochSWrite m v => Sys2Proof.Machine.execEpochSWrite m v s
  | .timeSet m gained => Sys2Proof.Machine.execTimeSet m s gained
  | .vinRise mv loopOk lidClosed => Sys2Proof.Machine.execVinRise mv loopOk lidClosed s
  | .moduleStart lost resetHigh pfailHigh => Sys2Proof.Machine.execModuleStart lost s resetHigh pfailHigh
  | .xtalOk => Sys2Proof.Machine.execXtalOk s
  | .holdReady mv => Sys2Proof.Machine.execHoldReady mv s
  | .holdWaitExpiry => Sys2Proof.Machine.execHoldWaitExpiry s
  | .resetNLow => Sys2Proof.Machine.execResetNLow s
  | .pfailNFall => Sys2Proof.Machine.execPfailNFall s
  | .vinMonitorTrip mv => Sys2Proof.Machine.execVinMonitorTrip mv s
  | .finalSave => Sys2Proof.Machine.execFinalSave s
  | .finalSaveDone valid => Sys2Proof.Machine.execFinalSaveDone valid s
  | .vholdExhausted mv => Sys2Proof.Machine.execVholdExhausted mv s
  | .frKeyWrite m v => Sys2Proof.Machine.execFrKeyWrite m v s
  | .factoryReset m => Sys2Proof.Machine.execFactoryReset m s
  | .koOutWrite m v => Sys2Proof.Machine.execKoOutWrite m v s
  | .kfMismatchTimer n => Sys2Proof.Machine.execKfMismatchTimer n s
  | .gpioEdge n rising => Sys2Proof.Machine.execGpioEdge n rising s
  | .gpioEvtClear m v same => Sys2Proof.Machine.execGpioEvtClear m v same s
  | .txDataWrite m v => Sys2Proof.Machine.execTxDataWrite m v s
  | .uartTxEmpty => Sys2Proof.Machine.execUartTxEmpty s
  | .uartByteReceived v parity frame => Sys2Proof.Machine.execUartByteReceived v parity frame s
  | .rxDataRead m => Sys2Proof.Machine.execRxDataRead m s
  | .uartDisable m => Sys2Proof.Machine.execUartDisable m s
  | .go m => Sys2Proof.Machine.execGo m s
  | .csbTransferEnd end_ data => Sys2Proof.Machine.execCsbTransferEnd end_ data s
  | .vauxOvercurrent => Sys2Proof.Machine.execVauxOvercurrent s
  | .vaultPowerOn good permille lost => Sys2Proof.Machine.execVaultPowerOn good permille lost s
  | .rootRetry good => Sys2Proof.Machine.execRootRetry good s
  | .vaultImport ch kat => Sys2Proof.Machine.execVaultImport ch kat s
  | .vaultIdentity ch => Sys2Proof.Machine.execVaultIdentity ch s
  | .push m => Sys2Proof.Machine.execPush m s
  | .roll m force => Sys2Proof.Machine.execRoll m force s
  | .keyCancel m => Sys2Proof.Machine.execKeyCancel m s
  | .rollInstant => Sys2Proof.Machine.execRollInstant s
  | .rollGraceEnd => Sys2Proof.Machine.execRollGraceEnd s
  | .remask => Sys2Proof.Machine.execRemask s
  | .rngHealthFail => Sys2Proof.Machine.execRngHealthFail s
  | .loopSample level => Sys2Proof.Machine.execLoopSample level s
  | .lidOpen => Sys2Proof.Machine.execLidOpen s
  | .tamperArmWrite m en loop lid => Sys2Proof.Machine.execTamperArmWrite m en loop lid s
  | .snKeyWrite m v => Sys2Proof.Machine.execSnKeyWrite m v s
  | .snCmd m => Sys2Proof.Machine.execSnCmd m s
  | .snufferFire causes => Sys2Proof.Machine.execSnufferFire causes s
  | .snuffOverwriteDone => Sys2Proof.Machine.execSnuffOverwriteDone s
  | .pufReenrolDone => Sys2Proof.Machine.execPufReenrolDone s
  | .beginUpdate m => Sys2Proof.Machine.execBeginUpdate m s
  | .stagingEraseDone => Sys2Proof.Machine.execStagingEraseDone s
  | .stgDataWrite m k v => Sys2Proof.Machine.execStgDataWrite m k v s
  | .verify m => Sys2Proof.Machine.execVerify m s
  | .verifyDone norFails => Sys2Proof.Machine.execVerifyDone norFails s
  | .updateActivate m confirm => Sys2Proof.Machine.execUpdateActivate m confirm s
  | .actStepPass ok => Sys2Proof.Machine.execActStepPass ok s
  | .probationEnd => Sys2Proof.Machine.execProbationEnd s
  | .updateRollback reason boot => Sys2Proof.Machine.execUpdateRollback reason boot s
  | .updateAbort m disable same => Sys2Proof.Machine.execUpdateAbort m disable same s
  | .meterReload w ok => Sys2Proof.Machine.execMeterReload w ok s
  | .sensorCondition r => Sys2Proof.Machine.execSensorCondition r s
  | .eventEnqueue source code params => Sys2Proof.Machine.execEventEnqueue source code params s
  | .eventWrite => Sys2Proof.Machine.execEventWrite s
  | .tokenRefill code => Sys2Proof.Machine.execTokenRefill code s
  | .rlRateWrite m v => Sys2Proof.Machine.execRlRateWrite m v s
  | .rSeqFetch m seq => Sys2Proof.Machine.execRSeqFetch m seq s
  | .bistStart m pll rival => Sys2Proof.Machine.execBistStart m pll s rival
  | .bistAbort m disable same => Sys2Proof.Machine.execBistAbort m disable s same
  | .bistConditionCheck => Sys2Proof.Machine.execBistConditionCheck s
  | .bistRunEnd pass detail => Sys2Proof.Machine.execBistRunEnd pass detail s
  | .failFlagsClear m v same => Sys2Proof.Machine.execFailFlagsClear m v s same
  | .mssRestart ecc => Sys2Proof.Machine.execMssRestart ecc s
  | .hostlinkDomainRestart => Sys2Proof.Machine.execHostlinkDomainRestart s
  | .meterDomainRunning w => Sys2Proof.Machine.execMeterDomainRunning w s
  | .fllLossOfLock w => Sys2Proof.Machine.execFllLossOfLock w s
  | .fllRelock w => Sys2Proof.Machine.execFllRelock w s
  | .phyStatusPoll p v => Sys2Proof.Machine.execPhyStatusPoll p v s
  | .rngRestartDone => Sys2Proof.Machine.execRngRestartDone s
  | .lidClose => Sys2Proof.Machine.execLidClose s
  | .kfInputChange n v => Sys2Proof.Machine.execKfInputChange n v s
  | .regAnswerExpiry => Sys2Proof.Machine.execRegAnswerExpiry s
  | .revertInhibitWrite m v => Sys2Proof.Machine.execRevertInhibitWrite m v s
  | .vioLoss mv => Sys2Proof.Machine.execVioLoss mv s
  | .vioReturn mv => Sys2Proof.Machine.execVioReturn mv s

end Sys2Proof.Machine
end

