-- ==== Sys2Proof/Machine/Tick.lean ====
section
/-! DEFINITION. What one cycle of the 32.768 kHz base does when no command waits (R5, R41, R117). -/

namespace Sys2Proof.Machine

/-- The counts of the base and of segment time go up by one while the Pilot domain is powered (R5, R24). DESIGN CHOICE (log entry 1). -/
def State.advance (s : State) : State :=
  if s.pdOn 0 then { s with base := s.base + 1, now := (s.now + 1) % 2 ^ 48 } else s

/-- The open hour of the profile counts begins, and whether the wave engine has run in it is noted (R234). -/
def State.noteWave (s : State) : State :=
  if s.author.isSome && (s.wave.openHour.isNone || (s.waveRuns && !s.wave.ran)) then
    s.setWave { s.wave with openHour := some (s.wave.openHour.getD (s.localMin / 60)), ran := s.wave.ran || s.waveRuns }
  else s

/-- Whether an announced message waits at an endpoint of a domain. -/
def State.messageWaits (s : State) (is : Nat → Bool) : Bool :=
  (List.range 16).any (fun ch => s.on (MBOX.PENDING ch) && s.on (MBOX.ANNOUNCED ch) && is (s.get (MBOX.RECEIVER ch)))

/-- Whether a domain that may sleep has nothing to do: the MSS, a wick's core, the vault (R363). DESIGN CHOICE (log entry 201). -/
def State.domainIdle (s : State) (n : Nat) : Bool :=
  if n = 1 then
    s.log.queue.isEmpty && s.bist.isNone && s.arb.testing.isEmpty && s.get UPDATE.U_STATE != 1 && s.get UPDATE.U_STATE != 4 &&
      s.get UPDATE.ACT_STEP = 0 && !s.on CABINET_IO.UART_EN && !s.on CABINET_IO.CSB_EN && !s.messageWaits (· = 1)
  else if n = 8 then s.hl.opening.isNone
  else
    let w : Wick := if n = 2 then .a else .b
    (s.role w).beats && !s.stopped w && s.bist.isNone && !s.messageWaits (fun e => e = endpointOf w.master || (e = 7 && s.isController w))

/-- In a cycle without a command the domains that may sleep and have nothing to do sleep, and the others wake.
DESIGN CHOICE (log entry 201). -/
def State.sleepDomains (s : State) : State :=
  s.set PWR.PD_SLEEP (([1, 2, 5, 8] : List Nat).foldl (fun v n => setBits v n 1 (b2n (s.pdOn n && s.domainIdle n))) (s.get PWR.PD_SLEEP))

/-- What a write of the MRAM changes: the journal, the banks, the ledger's rings, the event log, the controller's and the metering's checkpoints. -/
def State.mramMark (s : State) : List Nat :=
  [s.jseq, s.cfg.commitCount, s.ledger.boundaries, (match s.log.newest with | some n => n + 1 | none => 0), s.ckptJseq, s.meter.domA.ckptSeq,
   s.meter.domB.ckptSeq]

/-- PD9 is on while a master asks for the MRAM, and off once 1 ms has passed without an access (R363). DESIGN CHOICE (log entry 201). -/
def State.mramSleeps (s : State) : State :=
  if s.mramMark ≠ s.power.mramMark then
    let t := s.setPd 9 (s.pdOn 1)
    { t with power := { t.power with mramMark := s.mramMark, mramAt := s.base } }
  else if s.power.mramAt + 33 ≤ s.base then s.setPd 9 false
  else s

/-- A cycle of the base without a command: time goes on, a session whose frame was never sent closes at its instant S (R280), idle domains sleep (R363), the condition sources set their bits. Whatever else falls due in time is a command.
DESIGN CHOICE (log entries 1, 12). -/
def State.tick (s : State) : State :=
  let t := s.advance.noteWave
  (((if t.authorRuns then t.attrLost else t).sleepDomains).mramSleeps).latchConditions

end Sys2Proof.Machine
end

