-- ==== Sys2Proof/Machine/Step.lean ====
section
/-! DEFINITION. One step: the command at the front of the queue, or one cycle of the base where none waits. -/

namespace Sys2Proof.Machine

/-- The state with its queue of waiting commands replaced. DESIGN CHOICE (log entry 178). -/
def State.withPending (s : State) (l : List Instr) : State := { s with pending := l }

/-- One step of the block. DESIGN CHOICE (log entry 1). -/
def step (s : State) : Host.Outcome State Fault Refusal :=
  match s.pending with
  | [] => .next s.tick
  | c :: rest => exec c (s.withPending rest)

/-- The state with the command that a table word spells at the front of its queue: unchanged, since no row of the table gives bits.
DESIGN CHOICE (log entry 178). -/
def State.withFetchWord (s : State) (nbits w : Nat) : State :=
  match decodeTableWord nbits w with
  | some c => s.withPending (c :: s.pending)
  | none => s

end Sys2Proof.Machine
end

