-- ==== Sys2Proof/Laws/State.lean ====
section
/-! SUPPORT. Laws of finite maps and of the register file: what a read finds after a write, and what a write of a register leaves. -/

namespace Sys2Proof.Machine

/-! ### Finite maps -/

@[simp] theorem Map.get?_nil {α : Type} (n : Nat) : Map.get? ([] : Map α) n = none := rfl

@[simp] theorem Map.get?_put_same {α : Type} (m : Map α) (n : Nat) (x : α) : (m.put n x).get? n = some x := by
  induction m with
  | nil => simp [Map.put, Map.get?]
  | cons c t ih =>
    obtain ⟨k, v⟩ := c
    simp only [Map.put]
    split
    · simp [Map.get?]
    · split
      · simp [Map.get?]
      · simp only [Map.get?, *]
        simp

theorem Map.get?_put_ne {α : Type} (m : Map α) {n k : Nat} (h : k ≠ n) (x : α) : (m.put n x).get? k = m.get? k := by
  induction m with
  | nil => simp [Map.put, Map.get?, h]
  | cons c t ih =>
    obtain ⟨j, v⟩ := c
    simp only [Map.put]
    split
    · simp [Map.get?, h]
    · split
      · rename_i e
        subst e
        simp [Map.get?, h]
      · simp only [Map.get?, ih]

@[simp] theorem Map.get?_del_same {α : Type} (m : Map α) (n : Nat) : (m.del n).get? n = none := by
  induction m with
  | nil => rfl
  | cons c t ih =>
    obtain ⟨k, v⟩ := c
    simp only [Map.del]
    split
    · exact ih
    · simp only [Map.get?, *]
      simp

theorem Map.get?_del_ne {α : Type} (m : Map α) {n k : Nat} (h : k ≠ n) : (m.del n).get? k = m.get? k := by
  induction m with
  | nil => rfl
  | cons c t ih =>
    obtain ⟨j, v⟩ := c
    simp only [Map.del]
    split
    · rename_i e
      subst e
      simp only [Map.get?, ih, if_neg h]
    · simp only [Map.get?, ih]

/-! ### Byte memories -/

/-- A byte reads as it was written. -/
@[simp] theorem Mem.get_set_same (m : Mem) (a : Nat) (b : Byte) : (m.set a b).get a = b := by
  unfold Mem.set Mem.get
  split
  · simp [*]
  · simp

/-- A write of one byte leaves the others. -/
theorem Mem.get_set_ne (m : Mem) {a c : Nat} (h : c ≠ a) (b : Byte) : (m.set a b).get c = m.get c := by
  unfold Mem.set Mem.get
  split
  · rw [Map.get?_del_ne m h]
  · rw [Map.get?_put_ne m h]

/-- Writing bytes leaves every address outside them. -/
theorem Mem.get_write_out (m : Mem) (l : List Byte) {a c : Nat} (h : c < a ∨ a + l.length ≤ c) : (m.write a l).get c = m.get c := by
  induction l generalizing m a with
  | nil => rfl
  | cons b t ih =>
    simp only [List.length_cons] at h
    rw [Mem.write, ih _ (by omega), Mem.get_set_ne _ (by omega)]

/-- Bytes written read as they were written. -/
theorem Mem.get_write_in (m : Mem) (l : List Byte) (a i : Nat) (h : i < l.length) : (m.write a l).get (a + i) = l[i] := by
  induction l generalizing m a i with
  | nil => simp at h
  | cons b t ih =>
    rw [Mem.write]
    cases i with
    | zero => rw [Nat.add_zero, Mem.get_write_out _ _ (by omega)]; simp
    | succ i =>
      have := ih (m.set a b) (a + 1) i (by simpa using h)
      rw [show a + (i + 1) = a + 1 + i by omega, this]
      rfl

/-- In its canonical form a memory lists a cell only after every lower one. -/
theorem Mem.wf_cons (a : Nat) (b : Byte) (t : Mem) : Mem.wf ((a, b) :: t) = true ↔ b ≠ 0 ∧ (∀ c ∈ t, a < c.1) ∧ Mem.wf t = true := by
  induction t generalizing a b with
  | nil => simp [Mem.wf]
  | cons c t ih =>
    obtain ⟨a', b'⟩ := c
    rw [Mem.wf]
    simp only [Bool.and_eq_true, bne_iff_ne, ne_eq, decide_eq_true_eq, List.mem_cons, forall_eq_or_imp]
    constructor
    · rintro ⟨⟨h1, h2⟩, h3⟩
      refine ⟨h1, ⟨h2, fun c hc => ?_⟩, h3⟩
      have := ((ih a' b').1 h3).2.1 c hc
      omega
    · rintro ⟨h1, ⟨h2, -⟩, h3⟩
      exact ⟨⟨h1, h2⟩, h3⟩

theorem Map.mem_del {α : Type} (m : Map α) (n : Nat) (c : Nat × α) : c ∈ m.del n → c ∈ m := by
  induction m with
  | nil => simp [Map.del]
  | cons d t ih =>
    obtain ⟨k, v⟩ := d
    simp only [Map.del]
    split
    · exact fun h => List.mem_cons_of_mem _ (ih h)
    · intro h
      rcases List.mem_cons.1 h with h | h
      · exact h ▸ List.mem_cons_self
      · exact List.mem_cons_of_mem _ (ih h)

theorem Map.mem_put {α : Type} (m : Map α) (n : Nat) (x : α) (c : Nat × α) : c ∈ m.put n x → c = (n, x) ∨ c ∈ m := by
  induction m with
  | nil => simp [Map.put]
  | cons d t ih =>
    obtain ⟨k, v⟩ := d
    simp only [Map.put]
    split
    · simp
    · split
      · intro h
        rcases List.mem_cons.1 h with h | h
        · exact .inl h
        · exact .inr (List.mem_cons_of_mem _ h)
      · intro h
        rcases List.mem_cons.1 h with h | h
        · exact .inr (h ▸ List.mem_cons_self)
        · rcases ih h with h | h
          · exact .inl h
          · exact .inr (List.mem_cons_of_mem _ h)

/-- Removing a cell keeps the canonical form. -/
theorem Mem.wf_del (m : Mem) (n : Nat) (h : m.wf = true) : Mem.wf (Map.del m n) = true := by
  induction m with
  | nil => exact h
  | cons d t ih =>
    obtain ⟨k, v⟩ := d
    obtain ⟨h1, h2, h3⟩ := (Mem.wf_cons _ _ _).1 h
    rw [Map.del]
    split
    · exact ih h3
    · exact (Mem.wf_cons _ _ _).2 ⟨h1, fun c hc => h2 c (Map.mem_del _ _ _ hc), ih h3⟩

/-- Putting a nonzero byte keeps the canonical form. -/
theorem Mem.wf_put (m : Mem) (n : Nat) (b : Byte) (hb : b ≠ 0) (h : m.wf = true) : Mem.wf (Map.put m n b) = true := by
  induction m with
  | nil => simpa [Map.put, Mem.wf] using hb
  | cons d t ih =>
    obtain ⟨k, v⟩ := d
    obtain ⟨h1, h2, h3⟩ := (Mem.wf_cons _ _ _).1 h
    rw [Map.put]
    split
    · rename_i hk
      refine (Mem.wf_cons _ _ _).2 ⟨hb, ?_, h⟩
      intro c hc
      rcases List.mem_cons.1 hc with hc | hc
      · exact hc ▸ hk
      · exact hk.trans (h2 c hc)
    · split
      · rename_i e
        subst e
        exact (Mem.wf_cons _ _ _).2 ⟨hb, h2, h3⟩
      · refine (Mem.wf_cons _ _ _).2 ⟨h1, ?_, ih h3⟩
        intro c hc
        rcases Map.mem_put _ _ _ _ hc with hc | hc
        · subst hc; dsimp only; omega
        · exact h2 c hc

/-- A write of one byte keeps the canonical form. -/
theorem Mem.wf_set (m : Mem) (a : Nat) (b : Byte) (h : m.wf = true) : (m.set a b).wf = true := by
  unfold Mem.set
  split
  · exact Mem.wf_del m a h
  · exact Mem.wf_put m a b ‹_› h

/-- A write of bytes keeps the canonical form. -/
theorem Mem.wf_write (m : Mem) (a : Nat) (l : List Byte) (h : m.wf = true) : (m.write a l).wf = true := by
  induction l generalizing m a with
  | nil => exact h
  | cons b t ih => exact ih _ _ (Mem.wf_set m a b h)

/-- A part of a memory is in canonical form. -/
theorem Mem.wf_filter (m : Mem) (p : Host.Cell → Bool) (h : m.wf = true) : Mem.wf (m.filter p) = true := by
  induction m with
  | nil => exact h
  | cons d t ih =>
    obtain ⟨k, v⟩ := d
    obtain ⟨h1, h2, h3⟩ := (Mem.wf_cons _ _ _).1 h
    rw [List.filter_cons]
    split
    · exact (Mem.wf_cons _ _ _).2 ⟨h1, fun c hc => h2 c (List.mem_of_mem_filter hc), ih h3⟩
    · exact ih h3

/-! ### Registers -/

/-- A field reads as it was written, cut to its width. -/
@[simp] theorem State.get_set_same (s : State) (f : Field) (v : Nat) : (s.set f v).get f = v % 2 ^ f.width := by
  unfold State.get State.set setReg Map.getD
  dsimp only
  split <;> simp [*]

/-- A write of a field leaves every field of another key. -/
theorem State.get_set_ne (s : State) {f g : Field} (h : g.key ≠ f.key) (v : Nat) : (s.set f v).get g = s.get g := by
  unfold State.get State.set setReg Map.getD
  dsimp only
  split
  · rw [Map.get?_del_ne _ h]
  · rw [Map.get?_put_ne _ h]

/-! ### What a write of a register leaves -/

@[simp] theorem State.set_pending (s : State) (f : Field) (v : Nat) : (s.set f v).pending = s.pending := rfl
@[simp] theorem State.set_base (s : State) (f : Field) (v : Nat) : (s.set f v).base = s.base := rfl
@[simp] theorem State.set_now (s : State) (f : Field) (v : Nat) : (s.set f v).now = s.now := rfl
@[simp] theorem State.set_fresh (s : State) (f : Field) (v : Nat) : (s.set f v).fresh = s.fresh := rfl
@[simp] theorem State.set_viaAlias (s : State) (f : Field) (v : Nat) : (s.set f v).viaAlias = s.viaAlias := rfl
@[simp] theorem State.set_journal (s : State) (f : Field) (v : Nat) : (s.set f v).journal = s.journal := rfl
@[simp] theorem State.set_jseq (s : State) (f : Field) (v : Nat) : (s.set f v).jseq = s.jseq := rfl
@[simp] theorem State.set_ring (s : State) (f : Field) (v : Nat) : (s.set f v).ring = s.ring := rfl
@[simp] theorem State.set_hold (s : State) (f : Field) (v : Nat) : (s.set f v).hold = s.hold := rfl
@[simp] theorem State.set_busData (s : State) (f : Field) (v : Nat) : (s.set f v).busData = s.busData := rfl
@[simp] theorem State.set_timers (s : State) (f : Field) (v : Nat) : (s.set f v).timers = s.timers := rfl
@[simp] theorem State.set_roleA (s : State) (f : Field) (v : Nat) : (s.set f v).roleA = s.roleA := rfl
@[simp] theorem State.set_roleB (s : State) (f : Field) (v : Nat) : (s.set f v).roleB = s.roleB := rfl
@[simp] theorem State.set_stoppedA (s : State) (f : Field) (v : Nat) : (s.set f v).stoppedA = s.stoppedA := rfl
@[simp] theorem State.set_stoppedB (s : State) (f : Field) (v : Nat) : (s.set f v).stoppedB = s.stoppedB := rfl
@[simp] theorem State.set_saving (s : State) (f : Field) (v : Nat) : (s.set f v).saving = s.saving := rfl
@[simp] theorem State.set_locks (s : State) (f : Field) (v : Nat) : (s.set f v).locks = s.locks := rfl
@[simp] theorem State.set_cfg (s : State) (f : Field) (v : Nat) : (s.set f v).cfg = s.cfg := rfl
@[simp] theorem State.set_log (s : State) (f : Field) (v : Nat) : (s.set f v).log = s.log := rfl
@[simp] theorem State.set_bist (s : State) (f : Field) (v : Nat) : (s.set f v).bist = s.bist := rfl
@[simp] theorem State.set_fifos (s : State) (f : Field) (v : Nat) : (s.set f v).fifos = s.fifos := rfl
@[simp] theorem State.set_hl (s : State) (f : Field) (v : Nat) : (s.set f v).hl = s.hl := rfl
@[simp] theorem State.set_chPoster (s : State) (f : Field) (v : Nat) : (s.set f v).chPoster = s.chPoster := rfl
@[simp] theorem State.set_chReset (s : State) (f : Field) (v : Nat) : (s.set f v).chReset = s.chReset := rfl
@[simp] theorem State.set_chWaiting (s : State) (f : Field) (v : Nat) : (s.set f v).chWaiting = s.chWaiting := rfl
@[simp] theorem State.set_window (s : State) (f : Field) (v : Nat) : (s.set f v).window = s.window := rfl
@[simp] theorem State.set_ledger (s : State) (f : Field) (v : Nat) : (s.set f v).ledger = s.ledger := rfl
@[simp] theorem State.set_link (s : State) (f : Field) (v : Nat) : (s.set f v).link = s.link := rfl
@[simp] theorem State.set_txn (s : State) (f : Field) (v : Nat) : (s.set f v).txn = s.txn := rfl
@[simp] theorem State.set_keys (s : State) (f : Field) (v : Nat) : (s.set f v).keys = s.keys := rfl
@[simp] theorem State.set_keyLeft (s : State) (f : Field) (v : Nat) : (s.set f v).keyLeft = s.keyLeft := rfl
@[simp] theorem State.set_authorSince (s : State) (f : Field) (v : Nat) : (s.set f v).authorSince = s.authorSince := rfl
@[simp] theorem State.set_reg (s : State) (f : Field) (v : Nat) : (s.set f v).reg = s.reg := rfl
@[simp] theorem State.set_fab (s : State) (f : Field) (v : Nat) : (s.set f v).fab = s.fab := rfl
@[simp] theorem State.set_wave (s : State) (f : Field) (v : Nat) : (s.set f v).wave = s.wave := rfl
@[simp] theorem State.set_meter (s : State) (f : Field) (v : Nat) : (s.set f v).meter = s.meter := rfl
@[simp] theorem State.set_attr (s : State) (f : Field) (v : Nat) : (s.set f v).attr = s.attr := rfl
@[simp] theorem State.set_camp (s : State) (f : Field) (v : Nat) : (s.set f v).camp = s.camp := rfl
@[simp] theorem State.set_arb (s : State) (f : Field) (v : Nat) : (s.set f v).arb = s.arb := rfl
@[simp] theorem State.set_upd (s : State) (f : Field) (v : Nat) : (s.set f v).upd = s.upd := rfl
@[simp] theorem State.set_clock (s : State) (f : Field) (v : Nat) : (s.set f v).clock = s.clock := rfl
@[simp] theorem State.set_power (s : State) (f : Field) (v : Nat) : (s.set f v).power = s.power := rfl
@[simp] theorem State.set_cab (s : State) (f : Field) (v : Nat) : (s.set f v).cab = s.cab := rfl
@[simp] theorem State.set_vault (s : State) (f : Field) (v : Nat) : (s.set f v).vault = s.vault := rfl
@[simp] theorem State.set_mss (s : State) (f : Field) (v : Nat) : (s.set f v).mss = s.mss := rfl
@[simp] theorem State.set_tpEn (s : State) (f : Field) (v : Nat) : (s.set f v).tpEn = s.tpEn := rfl
@[simp] theorem State.set_tpUnlocked (s : State) (f : Field) (v : Nat) : (s.set f v).tpUnlocked = s.tpUnlocked := rfl

/-- Reading a field looks at the registers only. -/
theorem State.get_of_regs {s t : State} (h : t.regs = s.regs) (f : Field) : t.get f = s.get f := by
  unfold State.get
  rw [h]

end Sys2Proof.Machine
end

