-- ==== Sys2Proof/Safety.lean ====
section
/-! DEFINITION. The terms in which the statements speak: what a command answers, when an access is carried out, which registers stay, and the invariants of the block. -/

namespace Sys2Proof.Machine

/-- An outcome is a next state that has a property. -/
def Answers (o : Host.Outcome State Fault Refusal) (P : State → Prop) : Prop := ∃ t, o = .next t ∧ P t

/-- Every register field stays but those named. -/
def KeepsRegs (s t : State) (l : List Field) : Prop := ∀ f : Field, f.key ∉ l.map Field.key → t.get f = s.get f

/-- A master's write of a word of a physical page is not refused by any rule that all pages share: the master is not stopped (R14), the
page position exists (R30), the page answers (R35) and takes the master's writes (R34, R43). -/
def State.MayWrite (s : State) (m : Master) (page off : Nat) : Prop :=
  s.acts m = true ∧ reservedPage page = false ∧ s.writeCodes m page off = []

/-- A master's read of a physical page is not refused: the master is not stopped (R14), the page position exists (R30), the page answers
(R35) and takes the master's reads (R34). -/
def State.MayRead (s : State) (m : Master) (page : Nat) : Prop :=
  s.acts m = true ∧ reservedPage page = false ∧ s.readCodes m page = []

/-- The page that holds the other wick's copy of a wick page; a shared page has none but itself (R33). -/
def twinPage (page : Nat) : Nat :=
  match pageWick page with
  | some w => w.other.page (page % 16)
  | none => page

/-- A field and its twin on the other wick's page. -/
def withTwin (l : List Field) : List Field := l ++ l.map (fun f => { f with page := twinPage f.page })

/-- At most one wick holds AUTHOR or SNOWDROP, and a wick holds MIRROR only while the other holds AUTHOR (R13). -/
def State.RolesOk (s : State) : Prop :=
  ¬ (s.isController .a = true ∧ s.isController .b = true) ∧
    (s.roleA = .mirror → s.roleB = .author) ∧ (s.roleB = .mirror → s.roleA = .author)

/-- The bytes of a host-link request but its CRC: command, address, length, payload (R68). -/
def requestBody (cmd addr len : Nat) (payload : List Byte) : List Byte := leBytes 1 cmd ++ leBytes 3 addr ++ leBytes 2 len ++ payload

/-- The bytes of a non-secure host-link request with its CRC (R68, R70). -/
def requestBytes (cmd addr len : Nat) (payload : List Byte) : List Byte :=
  requestBody cmd addr len payload ++ leBytes 2 (crc16 (requestBody cmd addr len payload))

/-- The bytes of a non-secure response: sync, status, data, CRC (R69, R70). -/
def answerBytes (status : Nat) (data : List Byte) : List Byte :=
  leBytes 1 0xA5 ++ (leBytes 2 status ++ data) ++ leBytes 2 (crc16 (leBytes 2 status ++ data))

/-- Every byte memory of the block is in its canonical form. -/
def State.MemsOk (s : State) : Prop :=
  s.window.wf = true ∧ s.cfg.half0.mem.wf = true ∧ s.cfg.half1.mem.wf = true ∧ s.reg.mem.wf = true ∧ s.log.area.wf = true ∧
    s.upd.pkg.wf = true

end Sys2Proof.Machine
end

