-- ==== Sys2Proof/Certificates/Slice0/Obligations.lean ====
section
/-! DEFINITION. The statements for the provers. `Answers` says that a command has a next state and what holds there; `KeepsRegs` and the record equations are the frames. -/

open Sys2Proof Sys2Proof.Machine

/-! ### The queue (the block's own step) -/

/-- A step runs the command at the front of the queue, on the state with the queue's rest. -/
def Obligations.StepRunsTheFrontCommand : Prop :=
  ∀ (s : State) (c : Instr) (rest : List Instr), s.pending = c :: rest → step s = exec c (s.withPending rest)

/-- With no command waiting a step lets one cycle of the base pass. The model's own choice (log entry 1): while the Pilot domain is powered
the base and segment time go up by one, and no role, table, key or queue changes. -/
def Obligations.EmptyQueueLetsOneCyclePass : Prop :=
  ∀ s : State, s.pending = [] → Answers (step s) (fun t =>
    t.base = (if s.pdOn 0 = true then s.base + 1 else s.base) ∧
    t.now = (if s.pdOn 0 = true then (s.now + 1) % 2 ^ 48 else s.now) ∧
    t.pending = [] ∧ t.roleA = s.roleA ∧ t.roleB = s.roleB ∧ t.cfg = s.cfg ∧ t.reg = s.reg ∧ t.keys = s.keys ∧ t.txn = s.txn)

/-- No command touches the queue or the count of base cycles: only a step takes a command, only an idle step lets time pass. -/
def Obligations.CommandsLeaveQueueAndBase : Prop :=
  ∀ (c : Instr) (s t : State), exec c s = .next t → t.pending = s.pending ∧ t.base = s.base

/-- R13 as an invariant: from any state that meets it, not only those reached from reset, a step gives one that meets it. -/
def Obligations.RolesStayLegal : Prop :=
  ∀ s t : State, s.RolesOk → step s = .next t → t.RolesOk

/-- The canonical form of every byte memory is an invariant: the shared window, both banks, the registry, the log area and the staged package
keep strictly rising addresses and no listed zero, from any state that has it. -/
def Obligations.MemoriesStayCanonical : Prop :=
  ∀ s t : State, s.MemsOk → step s = .next t → t.MemsOk

/-- After reset the roles are legal (R13), the memories in their canonical form, both wicks OFF and the queue empty. -/
def Obligations.ResetMeetsTheInvariants : Prop :=
  State.reset.RolesOk ∧ State.reset.MemsOk ∧ State.reset.roleA = .off ∧ State.reset.roleB = .off ∧ State.reset.pending = []

/-! ### Register accesses (R9, R30 to R43) -/

/-- REGISTER_WRITE, WRITE_HI_COMMIT and READ_LO_CAPTURE (R9, R31, R32): each plain field of a written word takes its part of the value under
its own limits, and no register outside the word, on either wick, changes (CTRL words, offset 0x008, act besides and are left out of the
frame); a write of a _HI register after a held _LO commits both halves; a read of a _LO register holds its _HI for the master. The split
values are stated for SET_UTC_S and SEGTIME of the TIME page. Where it says more than those rules it follows a choice or a reading of the
model: log entries 15, 16. -/
def Obligations.WritesStoreTheirWords : Prop :=
  (∀ (s : State) (m : Master) (a : Addr) (v : Word) (p off : Nat),
    s.resolve (a.toNat / 4096) = .inl p → a.toNat % 4096 = off →
    ((wordFields p off).map Field.key).Nodup → (∀ f ∈ wordFields p off, f.page = p) → isSubmission p off = false →
    s.MayWrite m p off → s.plainCodes m p off = [] →
    (p = 0xA ∧ off = 0x050 → s.get UPDATE.U_STATE = 2) → ¬ (m = .hostN ∧ p = 0xF ∧ off = 0x048) →
    Answers (exec (.registerWrite m a v) s) (fun t =>
      (∀ f ∈ wordFields p off, plainField f (bits v.toNat f.lo f.width) = true → t.get f = f.stored (bits v.toNat f.lo f.width)) ∧
      (off ≠ 0x008 → KeepsRegs s t (withTwin (wordFields p off)) ∧
        t = { s with regs := t.regs, journal := t.journal, jseq := t.jseq, ring := t.ring, viaAlias := false }))) ∧
  (∀ (s : State) (m : Master) (v : Word) (x : Nat), s.MayWrite m 0xD 0x08C → s.hold.get? (holdKey m 0xD 0x088 false) = some x → x < 2 ^ 32 →
    Answers (exec (.writeHiCommit m 0x00D08C v) s) (fun t =>
      t.get2 TIME.SET_UTC_S_LO TIME.SET_UTC_S_HI = x + 2 ^ 32 * (v.toNat % 2 ^ TIME.SET_UTC_S_HI.width) ∧
      t.hold.get? (holdKey m 0xD 0x088 false) = none ∧
      KeepsRegs s t [TIME.SET_UTC_S_LO, TIME.SET_UTC_S_HI] ∧ t = { s with regs := t.regs, hold := t.hold, viaAlias := false })) ∧
  (∀ (s : State) (m : Master) (same : Word), s.MayRead m 0xD → s.hold.get? (holdKey m 0xD 0x054 true) = none →
    Answers (exec (.readLoCapture m 0x00D054 same) s) (fun t =>
      t.busData = BitVec.ofNat 32 s.now ∧
      t.hold.get? (holdKey m 0xD 0x058 true) = some (s.now / 2 ^ 32 % 2 ^ TIME.SEGTIME_HI.width) ∧
      t = { s with hold := t.hold, busData := t.busData, viaAlias := false }))

/-- Refusals (R30, R36, R42): a write that meets a refusal changes no register but ERR_CNT and ERR_FIRST of the page that counts it, under the
lowest code; an access to an address that reaches no page is counted in the HOSTLINK page. Where it says more than those rules it follows
a choice or a reading of the model: log entry 14. -/
def Obligations.RefusedAccessesAreCounted : Prop :=
  (∀ (s : State) (m : Master) (p off c : Nat) (extra : List Nat) (k : State → State),
    s.acts m = true → reservedPage p = false → minimum? (s.writeCodes m p off ++ extra) = some c →
    let t := s.write m p off extra k
    t.get (HDR.ERR_COUNT (errPage p c)) = min (s.get (HDR.ERR_COUNT (errPage p c)) + 1) 0xFFFF ∧
    (s.get (HDR.ERR_COUNT (errPage p c)) = 0 → t.get (HDR.ERR_FIRST (errPage p c)) =
      (off % 4096 + 2 ^ 12 * s.sentPage p + 2 ^ 24 * c + 2 ^ 28 * m.id + 2 ^ 31) % 2 ^ 32) ∧
    (s.get (HDR.ERR_COUNT (errPage p c)) ≠ 0 → t.get (HDR.ERR_FIRST (errPage p c)) = s.get (HDR.ERR_FIRST (errPage p c))) ∧
    KeepsRegs s t [HDR.ERR_COUNT (errPage p c), HDR.ERR_FIRST (errPage p c)] ∧ t = { s with regs := t.regs }) ∧
  (∀ (s : State) (m : Master) (a : Addr) (v same : Word) (c : Nat), s.resolve (a.toNat / 4096) = .inr c →
    (c = 0xA ∧ 0x40 ≤ a.toNat / 4096 ∨ c = 0xB ∧ s.author = none ∧ 0x30 ≤ a.toNat / 4096 ∧ a.toNat / 4096 < 0x3D) ∧
    Answers (exec (.registerWrite m a v) s) (fun t =>
      t.get (HDR.ERR_COUNT 0xF) = min (s.get (HDR.ERR_COUNT 0xF) + 1) 0xFFFF ∧
      KeepsRegs s t [HDR.ERR_COUNT 0xF, HDR.ERR_FIRST 0xF] ∧ t = { s with regs := t.regs }) ∧
    Answers (exec (.readLoCapture m a same) s) (fun t =>
      t.busData = 0 ∧ t.get (HDR.ERR_COUNT 0xF) = min (s.get (HDR.ERR_COUNT 0xF) + 1) 0xFFFF ∧
      KeepsRegs s t [HDR.ERR_COUNT 0xF, HDR.ERR_FIRST 0xF] ∧ t = { s with regs := t.regs, busData := 0 }))

/-! ### Interrupts, error counters, page locks (R10, R41 to R43) -/

/-- The common header (R10, R41 to R43): IRQ_CLR clears the chosen bits but for those set in the same cycle, a source sets its own bit; a read
of ERR_CNT answers and clears it, an error of the same cycle stays for the next read; a set PAGE_LOCK bit stays set, a written 1 sets it
with SET_BY, and the non-secure port sets none. Where it says more than those rules it follows a choice or a reading of the model: log
entries 6, 13, 14, 19. -/
def Obligations.HeaderRegistersActAsGiven : Prop :=
  (∀ (s : State) (m : Master) (page : Nat) (v same : Word), s.MayWrite m page 0x01C → s.get (HDR.IRQ_RAW page) < 2 ^ 32 →
    Answers (exec (.irqClrWrite m page v same) s) (fun t =>
      (∀ n < 32, (t.get (HDR.IRQ_RAW page)).testBit n = (((s.get (HDR.IRQ_RAW page)).testBit n && !v.toNat.testBit n) || same.toNat.testBit n)) ∧
      KeepsRegs s t [HDR.IRQ_RAW page] ∧ t = { s with regs := t.regs })) ∧
  (∀ (s : State) (page : Nat) (n : Fin 32),
    Answers (exec (.irqSourceSet page n) s) (fun t =>
      (∀ k < 32, (t.get (HDR.IRQ_RAW page)).testBit k = ((s.get (HDR.IRQ_RAW page)).testBit k || decide (k = n.val))) ∧
      KeepsRegs s t [HDR.IRQ_RAW page] ∧ t = { s with regs := t.regs })) ∧
  (∀ (s : State) (m : Master) (page : Nat), s.MayRead m page →
    Answers (exec (.errCntRead m page none) s) (fun t =>
      t.busData = BitVec.ofNat 32 (s.get (HDR.ERR_COUNT page)) ∧ t.get (HDR.ERR_COUNT page) = 0 ∧ t.get (HDR.ERR_FIRST page) = 0 ∧
      KeepsRegs s t [HDR.ERR_COUNT page, HDR.ERR_FIRST page] ∧ t = { s with regs := t.regs, busData := t.busData }) ∧
    ∀ e : PageErr, Answers (exec (.errCntRead m page (some e)) s) (fun t =>
      t.busData = BitVec.ofNat 32 (s.get (HDR.ERR_COUNT page)) ∧ t.get (HDR.ERR_COUNT page) = 1 ∧
      t.get (HDR.ERR_FIRST page) = (e.off % 4096 + 2 ^ 12 * s.sentPage page + 2 ^ 24 * e.code + 2 ^ 28 * e.master.id + 2 ^ 31) % 2 ^ 32 ∧
      KeepsRegs s t [HDR.ERR_COUNT page, HDR.ERR_FIRST page] ∧ t = { s with regs := t.regs, busData := t.busData })) ∧
  (∀ (s : State) (m : Master) (page : Nat) (v : Word), page < 0x30 → m ≠ .hostN → s.MayWrite m page 0x028 →
    Answers (exec (.pageLockSet m page v) s) (fun t =>
      t.get (HDR.NS_LOCK page) = (if v.toNat.testBit 0 = true then 1 else s.get (HDR.NS_LOCK page)) ∧
      t.get (HDR.HOST_LOCK page) = (if v.toNat.testBit 1 = true then 1 else s.get (HDR.HOST_LOCK page)) ∧
      (v.toNat.testBit 0 = true ∨ v.toNat.testBit 1 = true → t.get (HDR.SET_BY page) = m.id) ∧
      KeepsRegs s t (withTwin [HDR.NS_LOCK page, HDR.HOST_LOCK page, HDR.SET_BY page]) ∧
      t = { s with regs := t.regs, journal := t.journal, jseq := t.jseq, ring := t.ring })) ∧
  (∀ (s : State) (page : Nat) (v : Word), reservedPage page = false →
    Answers (exec (.pageLockSet .hostN page v) s) (fun t =>
      t.get (HDR.NS_LOCK page) = s.get (HDR.NS_LOCK page) ∧ t.get (HDR.HOST_LOCK page) = s.get (HDR.HOST_LOCK page)))

/-- A clean shadow write (R57): a word of a page's SH fields goes to the shadow bank alone, its journal record with it; the active bank and
every register stay. COPY_ACTIVE of SHADOW_CTL gives the page's shadow fields the active values. No final save runs, which keeps every
other writer out of the MRAM (R23). -/
def Obligations.ShadowWritesLeaveTheActiveBank : Prop :=
  (∀ (s : State) (m : Master) (a : Addr) (v : Word) (w : Wick) (pos off : Nat) (f : Field),
    s.resolve (a.toNat / 4096) = .inl (w.page pos) → a.toNat % 4096 = off → pos < 0xD →
    (pageShFields pos).filter (fun g => g.off = off) = [f] →
    s.MayWrite m (w.page pos) off → s.shadowCodes m w = [] → s.saving = false →
    Answers (exec (.shFieldWrite m a v) s) (fun t =>
      t.shadow.sget f = f.stored (bits v.toNat f.lo f.width) ∧ t.active = s.active ∧ t.shadow.mem = s.shadow.mem ∧
      t = { s with cfg := t.cfg, jseq := t.jseq, ring := t.ring, viaAlias := false })) ∧
  (∀ (s : State) (m : Master) (w : Wick) (pos : Nat), pageHasSh pos = true →
    s.MayWrite m (w.page pos) 0x02C → s.shadowCodes m w = [] → s.saving = false →
    Answers (exec (.copyActivePage m w pos) s) (fun t =>
      (∀ f ∈ pageShFields pos, t.shadow.sget f = s.active.sget f) ∧ t.active = s.active ∧
      t = { s with cfg := t.cfg, jseq := t.jseq, ring := t.ring }))

/-! ### The lock registers (R47 to R53) -/

/-- LOCKn (R48, R49, R51, R52, R53): a read of a free lock grants it, among masters that read it in one cycle to the one of highest priority;
a read of a held lock answers its owner and grants nothing; zero written by the owner releases it, any other write is counted under
NOT_OWNER; locks 16 to 31 are not for the non-secure port; a disabled page grants nothing and guards nothing; LOCK_FORCE releases what it
names; clearing ENABLE releases all. Where it says more than those rules it follows a choice or a reading of the model: log entry 6. -/
def Obligations.LocksAreGrantedReleasedAndForced : Prop :=
  (∀ (s : State) (m : Master) (n : Fin 32) (rivals : List Master), s.MayRead m 2 → mayLock m n.val = true → s.on (HDR.ENABLE 2) = true →
    s.locks.get? n.val = none →
    Answers (exec (.lockAcquireRead m n rivals) s) (fun t => ∃ o, t.locks.get? n.val = some o ∧ o ≤ m.id ∧
      (o = m.id ∨ ∃ r ∈ rivals, r.id = o ∧ mayLock r n.val = true) ∧ (∀ r ∈ rivals, mayLock r n.val = true → o ≤ r.id) ∧
      t.busData = (if o = m.id then BitVec.ofNat 32 (m.id + 2 ^ 31) else BitVec.ofNat 32 o) ∧
      (∀ k, k ≠ n.val → t.locks.get? k = s.locks.get? k) ∧ t = { s with locks := t.locks, busData := t.busData })) ∧
  (∀ (s : State) (m : Master) (n : Fin 32) (rivals : List Master) (o : Nat), s.MayRead m 2 → mayLock m n.val = true →
    s.on (HDR.ENABLE 2) = true → s.locks.get? n.val = some o →
    exec (.lockAcquireRead m n rivals) s = .next { s with busData := BitVec.ofNat 32 (if o = m.id then m.id + 2 ^ 31 else o) }) ∧
  (∀ (s : State) (m : Master) (n : Fin 32) (rivals : List Master), s.MayRead m 2 → mayLock m n.val = true → s.on (HDR.ENABLE 2) = false →
    exec (.lockAcquireRead m n rivals) s = .next { s with busData := 0 }) ∧
  (∀ (s : State) (m : Master) (n : Fin 32), s.MayWrite m 2 (0x080 + 4 * n.val) → s.locks.get? n.val = some m.id →
    Answers (exec (.lockRelease m n 0) s) (fun t => t.locks.get? n.val = none ∧
      (∀ k, k ≠ n.val → t.locks.get? k = s.locks.get? k) ∧ t = { s with locks := t.locks })) ∧
  (∀ (s : State) (m : Master) (v : Word), m = .mss ∨ m = .hostS → s.MayWrite m 2 0x044 →
    Answers (exec (.lockForce m v) s) (fun t =>
      (∀ n, t.locks.get? n = (if n < 32 ∧ v.toNat.testBit n = true then none else s.locks.get? n)) ∧
      ((∃ n < 32, v.toNat.testBit n = true ∧ (s.locks.get? n).isSome = true) → (t.get (HDR.IRQ_RAW 2)).testBit 0 = true) ∧
      t.cfg = s.cfg ∧ t.txn = s.txn ∧ t.keys = s.keys ∧ t.roleA = s.roleA ∧ t.roleB = s.roleB)) ∧
  (∀ (s : State) (m : Master), s.MayWrite m 2 0x008 →
    Answers (exec (.locksDisable m) s) (fun t => t.locks = [] ∧ t.get (HDR.ENABLE 2) = 0 ∧
      (s.locks ≠ [] → (t.get (HDR.IRQ_RAW 2)).testBit 1 = true) ∧
      KeepsRegs s t [HDR.ENABLE 2, HDR.IRQ_RAW 2] ∧ t = { s with regs := t.regs, locks := [] })) ∧
  (∀ (s : State) (m : Master) (n : Fin 32) (rivals : List Master), s.MayRead m 2 → mayLock m n.val = false →
    Answers (exec (.lockAcquireRead m n rivals) s) (fun t => t.busData = 0 ∧
      t.get (HDR.ERR_COUNT 2) = min (s.get (HDR.ERR_COUNT 2) + 1) 0xFFFF ∧
      (s.get (HDR.ERR_COUNT 2) = 0 → bits (t.get (HDR.ERR_FIRST 2)) 24 4 = 1) ∧
      KeepsRegs s t [HDR.ERR_COUNT 2, HDR.ERR_FIRST 2] ∧ t = { s with regs := t.regs, busData := 0 })) ∧
  (∀ (m : Master) (n : Fin 32), mayLock m n.val = false ↔ 16 ≤ n.val ∧ m = .hostN) ∧
  (∀ (s : State) (m : Master) (n : Fin 32) (v : Word), s.MayWrite m 2 (0x080 + 4 * n.val) → s.locks.get? n.val ≠ some m.id ∨ v ≠ 0 →
    Answers (exec (.lockRelease m n v) s) (fun t => t.get (HDR.ERR_COUNT 2) = min (s.get (HDR.ERR_COUNT 2) + 1) 0xFFFF ∧
      (s.get (HDR.ERR_COUNT 2) = 0 → bits (t.get (HDR.ERR_FIRST 2)) 24 4 = 4) ∧
      KeepsRegs s t [HDR.ERR_COUNT 2, HDR.ERR_FIRST 2] ∧ t = { s with regs := t.regs })) ∧
  (∀ (s : State) (m : Master) (n : Nat), s.on (HDR.ENABLE 2) = false → s.guardHeld m n = false)

/-! ### Table ports and configuration banks (R53 to R65, R456) -/

/-- The windowed ports (R54 to R56): an accepted READ puts the entry into PORT_DATA; an accepted WRITE or ERASE of a banked table changes that
entry of the shadow bank and nothing else of either bank; the completion clears BUSY, sets DONE and advances INDEX under AUTO_INC. A final
save keeps the MRAM from every other writer (R23); none runs here. Where it says more than those rules it follows a choice or a reading of
the model: log entry 33. -/
def Obligations.PortCommandsReachOneEntry : Prop :=
  (∀ (s : State) (m : Master) (w : Wick) (port : PortId) (autoInc : Bool) (tab : Table),
    let p := w.page (portPos port)
    s.MayWrite m p 0x108 → s.on (PORT.BUSY p) = false → portTable port (s.get (PORT.TABLE p)) = some tab → tab.store ≠ .profile →
    s.entryCodes m w port (s.get (PORT.TABLE p)) (s.on (PORT.BANK p)) (s.get (PORT.INDEX p)) .read = [] →
    Answers (exec (.portRead m w port autoInc) s) (fun t =>
      (∀ k < 32, t.get (PORT.DATA p k) = entryNum (s.readEntry w tab (s.on (PORT.BANK p)) (s.get (PORT.INDEX p))) (4 * k) 4) ∧
      t.on (PORT.BUSY p) = true ∧ t = { s with regs := t.regs })) ∧
  (∀ (s : State) (m : Master) (w : Wick) (port : PortId) (autoInc : Bool) (tab : Table),
    let p := w.page (portPos port)
    let i := s.get (PORT.INDEX p)
    let e := s.portEntry p
    s.MayWrite m p 0x108 → s.saving = false → s.on (PORT.BUSY p) = false → portTable port (s.get (PORT.TABLE p)) = some tab → tab.store = .bank →
    s.entryCodes m w port (s.get (PORT.TABLE p)) (s.on (PORT.BANK p)) i (.write e) = [] →
    Answers (exec (.portWrite m w port autoInc) s) (fun t =>
      (∀ k < tab.bytes, t.shadow.mem.get (tab.at i + k) = (e[k]?).getD 0) ∧
      (∀ x, x < tab.at i ∨ tab.at i + tab.bytes ≤ x → t.shadow.mem.get x = s.shadow.mem.get x) ∧
      t.shadow.sh = s.shadow.sh ∧ t.active = s.active ∧ t.on (PORT.BUSY p) = true ∧
      t = { s with regs := t.regs, cfg := t.cfg, jseq := t.jseq, ring := t.ring })) ∧
  (∀ (s : State) (m : Master) (w : Wick) (port : PortId) (autoInc : Bool) (tab : Table),
    let p := w.page (portPos port)
    let i := s.get (PORT.INDEX p)
    s.MayWrite m p 0x108 → s.saving = false → s.on (PORT.BUSY p) = false → portTable port (s.get (PORT.TABLE p)) = some tab → tab.store = .bank →
    s.entryCodes m w port (s.get (PORT.TABLE p)) (s.on (PORT.BANK p)) i .erase = [] →
    Answers (exec (.portErase m w port autoInc) s) (fun t =>
      (∀ k < tab.bytes, t.shadow.mem.get (tab.at i + k) = 0) ∧
      (∀ x, x < tab.at i ∨ tab.at i + tab.bytes ≤ x → t.shadow.mem.get x = s.shadow.mem.get x) ∧
      t.shadow.sh = s.shadow.sh ∧ t.active = s.active ∧ t.on (PORT.BUSY p) = true ∧
      t = { s with regs := t.regs, cfg := t.cfg, jseq := t.jseq, ring := t.ring })) ∧
  (∀ (s : State) (w : Wick) (port : PortId),
    let p := w.page (portPos port)
    s.on (PORT.BUSY p) = true → s.stopped w = false → s.saving = false →
    Answers (exec (.portCmdDone w port) s) (fun t =>
      t.on (PORT.BUSY p) = false ∧ t.on (PORT.DONE p) = true ∧
      (s.on (PORT.AUTO_INC p) = true → t.get (PORT.INDEX p) = (s.get (PORT.INDEX p) + 1) % 2 ^ 16) ∧
      (s.on (PORT.AUTO_INC p) = false → t.get (PORT.INDEX p) = s.get (PORT.INDEX p)) ∧
      KeepsRegs s t [PORT.BUSY p, PORT.DONE p, PORT.AUTO_INC p, PORT.INDEX p] ∧ t = { s with regs := t.regs }))

/-- Configuration banks (R58 to R61, R64, R65, R456): arming, validation, cancelling; a swap exchanges the two banks, so that the old active
bank becomes the shadow and still holds the old configuration; COPY_ACTIVE, CLEAR_SHADOW and VALIDATE act on the whole shadow bank at
their completion. Where it says more than those rules it follows a choice or a reading of the model: log entries 35, 36, 37. -/
def Obligations.SwapsAndBankCommands : Prop :=
  (∀ (s : State) (m : Master) (w : Wick) (mode : BitVec 2), s.MayWrite m (w.page 0xC) 0x040 → s.plainCodes m (w.page 0xC) 0x040 = [] →
    s.isAuthor w = true → s.swapArmed = false → s.saving = false → s.on (HDR.ENABLE (w.page 0xC)) = true → mode = 1 ∨ mode = 2 →
    s.cfg.cmd = none → s.cfg.preset = none →
    (mode = 2 → s.timedReason (s.get2 (CFGBANK.CFG_SWAP_TIME_LO w) (CFGBANK.CFG_SWAP_TIME_HI w)) = 0) →
    Answers (exec (.cfgArm m w mode) s) (fun t =>
      t.cfg = { s.cfg with state := 1, reason := 0, failedTypes := 0, swapMode := mode.toNat, swapTime := s.get2 (CFGBANK.CFG_SWAP_TIME_LO w) (CFGBANK.CFG_SWAP_TIME_HI w) } ∧
      t = { s with cfg := t.cfg, regs := t.regs, journal := t.journal, jseq := t.jseq, ring := t.ring })) ∧
  (∀ (s : State) (w : Wick), s.author = some w → s.stopped w = false → s.saving = false → s.cfg.state = 1 →
    (s.shadowFails = 0 → s.cfg.swapMode = 1 → Answers (exec .cfgValidationDone s) (fun t =>
      t.cfg = { s.cfg with state := 2, swapAt := nextMultiple (s.now + millis 100) s.active.beaconTicks, redo := s.cfg.redo && t.bankOpen } ∧
      t = { s with cfg := t.cfg, jseq := t.jseq, ring := t.ring })) ∧
    (s.shadowFails ≠ 0 → Answers (exec .cfgValidationDone s) (fun t =>
      t.cfg = { s.cfg with state := 4, reason := 4, failedTypes := s.shadowFails, redo := s.cfg.redo && t.bankOpen } ∧
      (t.get (HDR.IRQ_RAW (w.page 0xC))).testBit 1 = true ∧ KeepsRegs s t [HDR.IRQ_RAW (w.page 0xC)] ∧
      t = { s with cfg := t.cfg, regs := t.regs, jseq := t.jseq, ring := t.ring }))) ∧
  (∀ (s : State) (m : Master) (w : Wick) (mode : BitVec 2), s.MayWrite m (w.page 0xC) 0x040 → s.plainCodes m (w.page 0xC) 0x040 = [] →
    s.isAuthor w = true → s.swapArmed = true → s.saving = false →
    Answers (exec (.cfgCancel m w mode false) s) (fun t =>
      t.cfg = { s.cfg with state := 5, reason := 0 } ∧ (t.get (HDR.IRQ_RAW (w.page 0xC))).testBit 2 = true ∧
      t = { s with cfg := t.cfg, regs := t.regs, journal := t.journal, jseq := t.jseq, ring := t.ring })) ∧
  (∀ (s : State) (w : Wick), s.author = some w → s.stopped w = false → s.saving = false → s.cfg.state = 2 → s.cfg.swapAt ≤ s.now →
    Answers (exec .cfgSwapInstant s) (fun t =>
      t.active = s.shadow ∧ t.shadow = s.active ∧ t.cfg.commitHalf = t.cfg.activeHalf ∧ t.cfg.state = 3 ∧
      t.cfg.commitCount = (s.cfg.commitCount + 1) % 2 ^ 16 ∧ t.roleA = s.roleA ∧ t.roleB = s.roleB ∧ t.keys = s.keys)) ∧
  (∀ (s : State) (m : Master) (w : Wick) (x : Instr) (c : BankCmd),
    (x = .copyActive m w ∧ c = .copyActive) ∨ (x = .clearShadow m w ∧ c = .clearShadow) ∨ (x = .validate m w ∧ c = .validate) →
    s.MayWrite m (w.page 0xC) 0x068 → s.plainCodes m (w.page 0xC) 0x068 = [] → s.isAuthor w = true → s.swapArmed = false → s.saving = false →
    s.cfg.cmd = none →
    Answers (exec x s) (fun t =>
      t.cfg = { s.cfg with cmd := some c, cmdDone := false, cmdFailed := 0 } ∧ t = { s with cfg := t.cfg, jseq := t.jseq, ring := t.ring })) ∧
  (∀ (s : State) (w : Wick) (c : BankCmd), s.cfg.cmd = some c → s.author = some w → s.stopped w = false → s.saving = false →
    Answers (exec .cfgCmdDone s) (fun t =>
      t.cfg.cmd = none ∧ t.active = s.active ∧
      (c = .copyActive → t.shadow.mem = s.active.mem ∧ t.shadow.sh = s.active.sh ∧ t.cfg.cmdDone = true) ∧
      (c = .clearShadow → t.shadow.mem = [] ∧ t.shadow.sh = [] ∧ t.cfg.cmdDone = true) ∧
      (c = .validate → t.shadow = s.shadow ∧ t.cfg.cmdFailed = s.shadowFails ∧ t.cfg.cmdDone = decide (s.shadowFails = 0)) ∧
      (t.get (HDR.IRQ_RAW (w.page 0xC))).testBit 3 = true ∧ KeepsRegs s t [HDR.IRQ_RAW (w.page 0xC)] ∧
      t = { s with cfg := t.cfg, regs := t.regs, jseq := t.jseq, ring := t.ring }))

/-! ### The host link (R66 to R82) -/

/-- Frames of the host link into the non-secure half of the shared window (R68 to R73, R82): a good write stores its payload at the address
and answers status 0; a good read answers the bytes there; an aborted frame only counts; a frame with a wrong CRC executes nothing and
answers the CRC code. Where it says more than those rules it follows a choice or a reading of the model: log entries 22, 23. -/
def Obligations.FramesExecuteOrAreRefused : Prop :=
  (∀ (s : State) (o : Nat) (l : List Byte) (cut : Bool), s.listens = true → 0 < l.length → l.length ≤ 4096 → o + l.length ≤ 0x20000 →
    Answers (exec (.hostWriteFrame (requestBytes 1 (0x800000 + o) l.length l) cut) s) (fun t =>
      (∀ i < l.length, t.window.get (o + i) = (l[i]?).getD 0) ∧
      (∀ x, x < o ∨ o + l.length ≤ x → t.window.get x = s.window.get x) ∧
      t.hl.response = (if cut then [] else answerBytes 0 []) ∧ t.get HOSTLINK.LAST_STATUS = 0 ∧
      KeepsRegs s t [HOSTLINK.LAST_STATUS, HOSTLINK.LAST_OP, HOSTLINK.LAST_QUAD, HOSTLINK.LAST_SECURE] ∧
      t = { s with regs := t.regs, window := t.window, hl := { s.hl with response := t.hl.response } })) ∧
  (∀ (s : State) (o n : Nat) (cut : Bool), s.listens = true → 0 < n → n ≤ 4096 → o + n ≤ 0x20000 →
    Answers (exec (.hostReadFrame (requestBytes 2 (0x800000 + o) n []) cut) s) (fun t =>
      t.hl.response = (if cut then [] else answerBytes 0 (s.window.read o n)) ∧ t.get HOSTLINK.LAST_STATUS = 0 ∧
      KeepsRegs s t [HOSTLINK.LAST_STATUS, HOSTLINK.LAST_OP, HOSTLINK.LAST_QUAD, HOSTLINK.LAST_SECURE] ∧
      t = { s with regs := t.regs, hl := { s.hl with response := t.hl.response } })) ∧
  (∀ s : State, s.listens = true → Answers (exec .frameAbort s) (fun t =>
    t.hl.response = [] ∧ t.get HOSTLINK.ABORT_CNT = min (s.get HOSTLINK.ABORT_CNT + 1) (2 ^ HOSTLINK.ABORT_CNT.width - 1) ∧
    KeepsRegs s t [HOSTLINK.ABORT_CNT] ∧ t = { s with regs := t.regs, hl := { s.hl with response := [] } })) ∧
  (∀ (s : State) (a : Nat) (l : List Byte) (crc : Nat) (cut : Bool), s.listens = true → a < 2 ^ 24 → l.length < 2 ^ 16 → crc < 2 ^ 16 →
    crc ≠ crc16 (requestBody 1 a l.length l) →
    Answers (exec (.hostWriteFrame (requestBody 1 a l.length l ++ leBytes 2 crc) cut) s) (fun t =>
      t.hl.response = (if cut then [] else answerBytes 1 []) ∧
      t.get HOSTLINK.CRC_ERR_CNT = min (s.get HOSTLINK.CRC_ERR_CNT + 1) (2 ^ HOSTLINK.CRC_ERR_CNT.width - 1) ∧
      KeepsRegs s t [HOSTLINK.CRC_ERR_CNT, HOSTLINK.LAST_STATUS, HOSTLINK.LAST_OP, HOSTLINK.LAST_QUAD, HOSTLINK.LAST_SECURE] ∧
      t = { s with regs := t.regs, hl := { s.hl with response := t.hl.response } }))

/-- PD10 and the secure session (R75 to R81): PD10 wakes with HOST_WAKE, sleeps after IDLE_MS, and its restart empties the FIFOs and ends the
session; an OPEN that passes its checks runs, its completion opens the session with a new key and number; CLOSE and clearing ENABLE end
it; a lockout ends in time. Where it says more than those rules it follows a choice or a reading of the model: log entries 2, 8, 9, 25,
26, 27, 28, 29, 30. -/
def Obligations.SessionsAndTheHostLinkDomain : Prop :=
  (∀ s : State, Answers (exec .hostWakeRise s) (fun t => (t.get PWR.PD_SLEEP).testBit 10 = false ∧
    KeepsRegs s t [PWR.PD_SLEEP] ∧ t = { s with regs := t.regs, hl := { s.hl with wokeAt := s.base } })) ∧
  (∀ (s : State) (low : Word), s.pdOn 10 = true → s.get HOSTLINK.IDLE_MS ≠ 0 → millis (s.get HOSTLINK.IDLE_MS) ≤ low.toNat →
    s.hl.wokeAt + low.toNat ≤ s.base → s.streamBusy = false →
    Answers (exec (.hostlinkSleep low) s) (fun t => (t.get PWR.PD_SLEEP).testBit 10 = true ∧ KeepsRegs s t [PWR.PD_SLEEP] ∧
      t = { s with regs := t.regs })) ∧
  (∀ s : State, s.pdOn 10 = true → Answers (exec .hostlinkDomainRestart s) (fun t => t.fifos = [] ∧ t.hl.key = none ∧ t.hl.opening = none ∧
    (∀ f < 4, t.on (STREAM.RESTARTED f) = true) ∧ (∀ c, c.2 ≠ Master.hostS.id → (c ∈ t.locks ↔ c ∈ s.locks)) ∧
    t.cfg = s.cfg ∧ t.window = s.window ∧ t.txn = s.txn ∧ t.keys = s.keys ∧ t.roleA = s.roleA ∧ t.roleB = s.roleB)) ∧
  (∀ (s : State) (m : Master), s.MayWrite m 0xF 0x054 → s.on (HDR.ENABLE 0xF) = true → s.on VAULT.RNG_OK = true →
    s.hl.opening = none → s.lockedOut = false →
    let chal := s.wordBytes HOSTLINK.SESS_CHALLENGE 4
    let pub := s.wordBytes HOSTLINK.SESS_HOST_PUB 16
    let r := s.openReason chal pub (s.wordBytes HOSTLINK.SESS_HOST_TAG 4)
    Answers (exec (.sessOpen m) s) (fun t =>
      (r = 0 → t.get HOSTLINK.STATE = 1 ∧ t.hl.opening = some (chal ++ pub) ∧ KeepsRegs s t [HOSTLINK.STATE] ∧
        t = { s with regs := t.regs, hl := { s.hl with opening := t.hl.opening } }) ∧
      (r ≠ 0 → t.get HOSTLINK.FAIL_REASON = r ∧ t.hl = s.hl ∧ (t.get (HDR.IRQ_RAW 0xF)).testBit 1 = true ∧
        t = { s with regs := t.regs, timers := t.timers, fresh := t.fresh }))) ∧
  (∀ (s : State) (o : List Byte) (k : SlotKey), s.hl.opening = some o → s.on (HDR.ENABLE 0xF) = true → s.on VAULT.RNG_OK = true →
    s.keys.get? 0 = some k →
    Answers (exec .sessOpenDone s) (fun t => t.hl.opening = none ∧ t.hl.key.isSome = true ∧ t.get HOSTLINK.STATE = 2 ∧
      t.get HOSTLINK.LAST_CTR = 0 ∧ t.get HOSTLINK.FAIL_COUNT = 0 ∧
      t.get HOSTLINK.SESSION_ID = (s.get HOSTLINK.SESSION_ID + 1) % 2 ^ 16 ∧ (t.get (HDR.IRQ_RAW 0xF)).testBit 0 = true ∧
      t.keys = s.keys ∧ t.cfg = s.cfg ∧ t.window = s.window)) ∧
  (∀ s : State, s.due tmLockout = true → Answers (exec .lockoutEnd s) (fun t => t.armed tmLockout = false ∧
    (∀ n, n ≠ tmLockout → t.timers.get? n = s.timers.get? n) ∧ t = { s with timers := t.timers })) ∧
  (∀ s : State, s.MayWrite .hostS 0xF 0x054 → s.hl.key.isSome = true → Answers (exec (.sessClose .hostS) s) (fun t =>
    t.hl.key = none ∧ (∀ c ∈ t.locks, c.2 ≠ Master.hostS.id) ∧ (t.get (HDR.IRQ_RAW 0xF)).testBit 2 = true ∧
    t.keys = s.keys ∧ t.cfg = s.cfg ∧ t.window = s.window)) ∧
  (∀ (s : State) (m : Master) (v : Word), m ≠ .hostN → s.MayWrite m 0xF 0x008 → Answers (exec (.hostlinkEnableWrite m v) s) (fun t =>
    t.on (HDR.ENABLE 0xF) = v.toNat.testBit 0 ∧ (v.toNat.testBit 0 = false → t.hl.key = none) ∧
    (v.toNat.testBit 0 = true → t.hl = s.hl) ∧ t.keys = s.keys ∧ t.cfg = s.cfg ∧ t.window = s.window))

/-! ### Mailboxes (R84 to R94) -/

/-- Mailbox channels (R84 to R93): setting up, posting, the doorbell; acknowledging, revoking and closing empty the slot and leave the return
code in RESULT; while ENABLE of a page is 0 POST is refused with CLOSED, and clearing it revokes each pending message on the page with
CHANNEL_CLOSED. Where it says more than those rules it follows a choice or a reading of the model: log entries 6, 42. -/
def Obligations.MailboxMessagesPassOnce : Prop :=
  (∀ (s : State) (m : Master) (ch : Fin 16) (v : Word), m = .mss ∨ m = .hostS → s.MayWrite m (chPage ch.val) (0x040 + 0x20 * (ch.val % 8)) →
    s.on (MBOX.OPEN ch.val) = false →
    Answers (exec (.chCfgWrite m ch v none) s) (fun t =>
      let snd := v.toNat % 8
      let rcv := v.toNat / 16 % 8
      t.get (MBOX.SENDER ch.val) = snd ∧ t.get (MBOX.RECEIVER ch.val) = rcv ∧ t.on (MBOX.CFG_INVALID ch.val) = cfgInvalid ch.val snd rcv ∧
      t.on (MBOX.OPEN ch.val) = (v.toNat.testBit 8 && !cfgInvalid ch.val snd rcv) ∧
      KeepsRegs s t [MBOX.SENDER ch.val, MBOX.RECEIVER ch.val, MBOX.CFG_INVALID ch.val, MBOX.OPEN ch.val] ∧ t = { s with regs := t.regs })) ∧
  (∀ (s : State) (m : Master) (ch : Fin 16) (v : Word), s.actsAs m (s.get (MBOX.SENDER ch.val)) = true → s.on (MBOX.PENDING ch.val) = false →
    (s.MayWrite m (chPage ch.val) (0x044 + 0x20 * (ch.val % 8)) → Answers (exec (.descriptorWrite m ch .offset v) s) (fun t =>
      t.get (MBOX.OFFSET ch.val) = v.toNat % 2 ^ (MBOX.OFFSET ch.val).width ∧ KeepsRegs s t [MBOX.OFFSET ch.val] ∧ t = { s with regs := t.regs })) ∧
    (s.MayWrite m (chPage ch.val) (0x048 + 0x20 * (ch.val % 8)) → Answers (exec (.descriptorWrite m ch .length v) s) (fun t =>
      t.get (MBOX.LENGTH ch.val) = v.toNat % 2 ^ (MBOX.LENGTH ch.val).width ∧ KeepsRegs s t [MBOX.LENGTH ch.val] ∧ t = { s with regs := t.regs })) ∧
    (s.MayWrite m (chPage ch.val) (0x04C + 0x20 * (ch.val % 8)) → Answers (exec (.descriptorWrite m ch .opcode v) s) (fun t =>
      t.get (MBOX.OPCODE ch.val) = v.toNat % 2 ^ (MBOX.OPCODE ch.val).width ∧ KeepsRegs s t [MBOX.OPCODE ch.val] ∧ t = { s with regs := t.regs }))) ∧
  (∀ (s : State) (m : Master) (ch : Fin 16), s.MayWrite m (chPage ch.val) (0x050 + 0x20 * (ch.val % 8)) →
    s.actsAs m (s.get (MBOX.SENDER ch.val)) = true → s.on (MBOX.PENDING ch.val) = false → s.on (MBOX.OPEN ch.val) = true →
    s.on (HDR.ENABLE (chPage ch.val)) = true → s.get (MBOX.LENGTH ch.val) ≠ 0 →
    s.get (MBOX.OFFSET ch.val) + s.get (MBOX.LENGTH ch.val) ≤ 0x20000 →
    Answers (exec (.post m ch) s) (fun t =>
      t.on (MBOX.PENDING ch.val) = true ∧ t.on (MBOX.ANNOUNCED ch.val) = false ∧ t.get (MBOX.CMD_STATUS ch.val) = 0 ∧
      t.get (MBOX.POST_SEQ ch.val) = (s.get (MBOX.POST_SEQ ch.val) + 1) % 2 ^ (MBOX.POST_SEQ ch.val).width ∧
      t.chPoster.get? ch.val = some m.id ∧
      KeepsRegs s t [MBOX.PENDING ch.val, MBOX.ANNOUNCED ch.val, MBOX.CMD_STATUS ch.val, MBOX.POST_SEQ ch.val] ∧
      t = { s with regs := t.regs, chPoster := t.chPoster, chReset := s.chReset.del ch.val })) ∧
  (∀ (s : State) (ch : Fin 16), s.on (MBOX.PENDING ch.val) = true → s.on (MBOX.ANNOUNCED ch.val) = false → s.receiverUp ch.val = true →
    hostEndpoint (s.get (MBOX.RECEIVER ch.val)) = true →
    Answers (exec (.doorbellDeliver ch) s) (fun t =>
      t.on (MBOX.ANNOUNCED ch.val) = true ∧ t.on (MBOX.PENDING ch.val) = true ∧ (t.get PWR.PD_SLEEP).testBit 10 = false ∧
      (t.get (HDR.IRQ_RAW (chPage ch.val))).testBit (ch.val % 8) = true ∧
      KeepsRegs s t [MBOX.ANNOUNCED ch.val, PWR.PD_SLEEP, HDR.IRQ_RAW (chPage ch.val)] ∧ t = { s with regs := t.regs })) ∧
  (∀ (s : State) (m : Master) (ch : Fin 16) (ret : BitVec 16) (seq : Byte), s.MayWrite m (chPage ch.val) (0x054 + 0x20 * (ch.val % 8)) →
    s.actsAs m (s.get (MBOX.RECEIVER ch.val)) = true → s.on (MBOX.PENDING ch.val) = true → seq.toNat = s.get (MBOX.POST_SEQ ch.val) →
    hostEndpoint (endpointOf m) = false ∨ ret.toNat < 0xFF00 →
    Answers (exec (.chAck m ch ret seq false) s) (fun t =>
      t.on (MBOX.PENDING ch.val) = false ∧ t.get (MBOX.RESULT ch.val) = ret.toNat ∧
      (hostEndpoint (s.get (MBOX.SENDER ch.val)) = true → (t.get (HDR.IRQ_RAW (chPage ch.val))).testBit (8 + ch.val % 8) = true) ∧
      KeepsRegs s t [MBOX.PENDING ch.val, MBOX.ANNOUNCED ch.val, MBOX.RESULT ch.val, MBOX.RET_CODE ch.val, MBOX.ACK_SEQ ch.val,
        HDR.IRQ_RAW (chPage ch.val)] ∧ t = { s with regs := t.regs, chWaiting := t.chWaiting })) ∧
  (∀ (s : State) (m : Master) (ch : Fin 16), s.MayWrite m (chPage ch.val) (0x050 + 0x20 * (ch.val % 8)) →
    s.actsAs m (s.get (MBOX.SENDER ch.val)) = true → s.on (MBOX.PENDING ch.val) = true →
    Answers (exec (.revoke m ch none) s) (fun t =>
      t.on (MBOX.PENDING ch.val) = false ∧ t.get (MBOX.RESULT ch.val) = 0xFF03 ∧ t.get (MBOX.CMD_STATUS ch.val) = 0 ∧
      t.get (MBOX.REVOKED_CNT ch.val) = min (s.get (MBOX.REVOKED_CNT ch.val) + 1) (2 ^ (MBOX.REVOKED_CNT ch.val).width - 1) ∧
      KeepsRegs s t [MBOX.PENDING ch.val, MBOX.ANNOUNCED ch.val, MBOX.RESULT ch.val, MBOX.CMD_STATUS ch.val, MBOX.REVOKED_CNT ch.val,
        HDR.IRQ_RAW (chPage ch.val)] ∧ t = { s with regs := t.regs, chWaiting := t.chWaiting })) ∧
  (∀ (s : State) (m : Master) (secure : Bool), s.MayWrite m (3 + b2n secure) 0x008 →
    Answers (exec (.mboxPageDisable m secure) s) (fun t =>
      t.on (HDR.ENABLE (3 + b2n secure)) = false ∧
      (∀ ch < 16, chPage ch = 3 + b2n secure → t.on (MBOX.PENDING ch) = false) ∧
      (∀ ch < 16, chPage ch = 3 + b2n secure → s.on (MBOX.PENDING ch) = true → t.get (MBOX.RESULT ch) = 0xFF02) ∧
      (∀ ch < 16, chPage ch ≠ 3 + b2n secure → t.get (MBOX.PENDING ch) = s.get (MBOX.PENDING ch) ∧ t.get (MBOX.RESULT ch) = s.get (MBOX.RESULT ch)) ∧
      t = { s with regs := t.regs, chWaiting := t.chWaiting })) ∧
  (∀ (s : State) (m : Master) (ch : Fin 16), s.MayWrite m (chPage ch.val) (0x050 + 0x20 * (ch.val % 8)) →
    s.actsAs m (s.get (MBOX.SENDER ch.val)) = true → s.on (MBOX.PENDING ch.val) = false → s.on (HDR.ENABLE (chPage ch.val)) = false →
    Answers (exec (.post m ch) s) (fun t => t.get (MBOX.CMD_STATUS ch.val) = 2 ∧ KeepsRegs s t [MBOX.CMD_STATUS ch.val] ∧
      t = { s with regs := t.regs }))

/-- The controller's table service (R94): a request that is pending and announced at a wick that runs as AUTHOR, well-formed, with no entry
refused, is carried out for each of its entries and answered with 0: TABLE_READ puts every entry into the message area, TABLE_WRITE stores
every entry of the message area in the shadow bank, TABLE_ERASE clears them; RESULTS hands out the oldest records of the result queue. No
final save runs (R23). Where it says more than those rules it follows a choice or a reading of the model: log entry 32. -/
def Obligations.ControllerServesTables : Prop :=
  (∀ (s : State) (ch : Fin 16) (m : Master) (w : Wick) (r : Request), s.chWick ch.val = some w → (s.chPoster.get? ch.val).bind Master.ofId = some m →
    s.on (MBOX.PENDING ch.val) = true → s.on (MBOX.ANNOUNCED ch.val) = true → s.stopped w = false → s.isController w = true →
    s.requestOf ch.val = .inl r → s.MayWrite w.master (chPage ch.val) (0x054 + 0x20 * (ch.val % 8)) →
    s.actsAs w.master (s.get (MBOX.RECEIVER ch.val)) = true → s.get (MBOX.OPCODE ch.val) = 0x0201 →
    s.readCodes m (w.page (portPos r.port)) = [] → (∀ k < r.count, s.entryCodes m w r.port r.number r.shadow (r.first + k) .read = []) →
    Answers (exec (.tableRead ch) s) (fun t => t.on (MBOX.PENDING ch.val) = false ∧ t.get (MBOX.RESULT ch.val) = 0 ∧
      (∀ k < r.count, ∀ j < r.table.bytes, t.window.get (s.chArea ch.val + 16 + k * r.table.bytes + j) =
        ((s.readEntry w r.table r.shadow (r.first + k))[j]?).getD 0) ∧
      (∀ x, x < s.chArea ch.val + 16 ∨ s.chArea ch.val + 16 + r.count * r.table.bytes ≤ x → t.window.get x = s.window.get x) ∧
      t = { s with regs := t.regs, window := t.window, chWaiting := t.chWaiting })) ∧
  (∀ (s : State) (ch : Fin 16) (m : Master) (w : Wick) (r : Request), s.chWick ch.val = some w → (s.chPoster.get? ch.val).bind Master.ofId = some m →
    s.on (MBOX.PENDING ch.val) = true → s.on (MBOX.ANNOUNCED ch.val) = true → s.stopped w = false → s.isAuthor w = true → m ≠ .hostN →
    s.saving = false → s.requestOf ch.val = .inl r → r.table.store = .bank → s.MayWrite w.master (chPage ch.val) (0x054 + 0x20 * (ch.val % 8)) →
    s.actsAs w.master (s.get (MBOX.RECEIVER ch.val)) = true → s.writeCodes m (w.page (portPos r.port)) 0x108 = [] →
    let e := fun (k : Nat) => s.window.read (s.chArea ch.val + 16 + k * r.table.bytes) r.table.bytes
    (s.get (MBOX.OPCODE ch.val) = 0x0202 → (∀ k < r.count, s.entryCodes m w r.port r.number r.shadow (r.first + k) (.write (e k)) = []) →
      Answers (exec (.tableWrite ch) s) (fun t => t.on (MBOX.PENDING ch.val) = false ∧ t.get (MBOX.RESULT ch.val) = 0 ∧
        (∀ k < r.count, ∀ j < r.table.bytes, t.shadow.mem.get (r.table.at (r.first + k) + j) = ((e k)[j]?).getD 0) ∧
        (∀ x, x < r.table.at r.first ∨ r.table.at (r.first + r.count) ≤ x → t.shadow.mem.get x = s.shadow.mem.get x) ∧ t.active = s.active ∧
        t = { s with regs := t.regs, cfg := t.cfg, jseq := t.jseq, ring := t.ring, chWaiting := t.chWaiting })) ∧
    (s.get (MBOX.OPCODE ch.val) = 0x0203 → (∀ k < r.count, s.entryCodes m w r.port r.number r.shadow (r.first + k) .erase = []) →
      Answers (exec (.tableErase ch) s) (fun t => t.on (MBOX.PENDING ch.val) = false ∧ t.get (MBOX.RESULT ch.val) = 0 ∧
        (∀ k < r.count, ∀ j < r.table.bytes, t.shadow.mem.get (r.table.at (r.first + k) + j) = 0) ∧
        (∀ x, x < r.table.at r.first ∨ r.table.at (r.first + r.count) ≤ x → t.shadow.mem.get x = s.shadow.mem.get x) ∧ t.active = s.active ∧
        t = { s with regs := t.regs, cfg := t.cfg, jseq := t.jseq, ring := t.ring, chWaiting := t.chWaiting }))) ∧
  (∀ (s : State) (ch : Fin 16) (m : Master) (w : Wick) (n : Nat), s.chWick ch.val = some w → (s.chPoster.get? ch.val).bind Master.ofId = some m →
    s.on (MBOX.PENDING ch.val) = true → s.on (MBOX.ANNOUNCED ch.val) = true → s.stopped w = false → s.isController w = true → m ≠ .hostN →
    s.MayWrite w.master (chPage ch.val) (0x054 + 0x20 * (ch.val % 8)) → s.actsAs w.master (s.get (MBOX.RECEIVER ch.val)) = true →
    s.get (MBOX.OPCODE ch.val) = 0x0204 → 0 < n → n ≤ 4096 → 16 + 20 * n ≤ s.get (MBOX.LENGTH ch.val) →
    s.window.read (s.chArea ch.val) 16 = leBytes 2 0 ++ leBytes 4 0 ++ leBytes 2 n ++ leBytes 2 20 ++ leBytes 6 0 →
    Answers (exec (.results ch) s) (fun t => t.on (MBOX.PENDING ch.val) = false ∧
      t.get (MBOX.RESULT ch.val) = 0x2000 + min n s.txn.results.length ∧ t.txn = { s.txn with results := s.txn.results.drop n } ∧
      t.window = s.window.write (s.chArea ch.val + 16) ((s.txn.results.take n).flatMap (fun x => x.flatMap (leBytes 4))) ∧
      t = { s with regs := t.regs, window := t.window, txn := t.txn, jseq := t.jseq, ring := t.ring, chWaiting := t.chWaiting }))

/-! ### Stream FIFOs (R95 to R99) -/

/-- Stream FIFOs (R95 to R99): opening reserves a slot, committing appends the length word and the payload, abandoning frees the space and
counts a drop; a flush discards all before its boundary; a read takes the oldest word, counts it and checks its parity; an empty FIFO
answers the last word again. -/
def Obligations.StreamsCarryWholePackets : Prop :=
  (∀ (s : State) (f : Fin 4), s.fifoAccepts f.val = true → (s.fifo f.val).openSlots = none → 0 < (s.fifo f.val).free f.val →
    Answers (exec (.packetOpen f) s) (fun t => t.fifo f.val = { s.fifo f.val with openSlots := some 1 } ∧
      (t.get PWR.PD_SLEEP).testBit 10 = false ∧ (∀ g, g ≠ f.val → t.fifo g = s.fifo g) ∧ KeepsRegs s t [PWR.PD_SLEEP] ∧
      t = { s with regs := t.regs, fifos := t.fifos })) ∧
  (∀ (s : State) (f : Fin 4) (ty : Byte) (l : List Word) (n : Nat), (s.fifo f.val).openSlots = some n →
    (s.fifo f.val).words.length + 1 + l.length ≤ fifoSize f.val →
    Answers (exec (.packetCommit f ty l) s) (fun t =>
      (t.fifo f.val).words.map Prod.fst = (s.fifo f.val).words.map Prod.fst ++
        (BitVec.ofNat 32 (l.length % 2 ^ 16 + 2 ^ 16 * ty.toNat + 2 ^ 24 * s.get (STREAM.F_NEXT_SEQ f.val)) :: l) ∧
      (∀ w p, (w, p) ∈ (t.fifo f.val).words → (w, p) ∈ (s.fifo f.val).words ∨ p = oddParity w) ∧
      (t.fifo f.val).openSlots = none ∧
      t.get (STREAM.F_NEXT_SEQ f.val) = (s.get (STREAM.F_NEXT_SEQ f.val) + 1) % 2 ^ (STREAM.F_NEXT_SEQ f.val).width ∧
      (∀ g, g ≠ f.val → t.fifo g = s.fifo g) ∧ KeepsRegs s t [STREAM.F_NEXT_SEQ f.val] ∧ t = { s with regs := t.regs, fifos := t.fifos })) ∧
  (∀ (s : State) (f : Fin 4) (n : Nat), (s.fifo f.val).openSlots = some n →
    Answers (exec (.packetAbandon f) s) (fun t =>
      (t.fifo f.val).words = (s.fifo f.val).words ∧ (t.fifo f.val).openSlots = none ∧
      t.get (STREAM.DROP_CNT f.val) = min (s.get (STREAM.DROP_CNT f.val) + 1) (2 ^ (STREAM.DROP_CNT f.val).width - 1) ∧
      (t.get (HDR.IRQ_RAW 5)).testBit (8 + f.val) = true ∧ (∀ g, g ≠ f.val → t.fifo g = s.fifo g) ∧
      KeepsRegs s t [STREAM.DROP_CNT f.val, HDR.IRQ_RAW 5] ∧ t = { s with regs := t.regs, fifos := t.fifos })) ∧
  (∀ (s : State) (m : Master) (f : Fin 4), s.MayWrite m 5 (0x040 + 0x20 * f.val) → s.on (STREAM.FLUSH_BUSY f.val) = false →
    Answers (exec (.flush m f) s) (fun t => t.on (STREAM.FLUSH_BUSY f.val) = true ∧
      t.fifo f.val = { s.fifo f.val with flushMark := if (s.fifo f.val).openSlots = none then some (s.fifo f.val).words.length else none } ∧
      KeepsRegs s t [STREAM.FLUSH_BUSY f.val] ∧ t = { s with regs := t.regs, fifos := t.fifos }) ∧
    Answers (exec (.fEnClear m f) s) (fun t => t.on (STREAM.FLUSH_BUSY f.val) = true ∧ t.on (STREAM.F_EN f.val) = false ∧
      KeepsRegs s t [STREAM.FLUSH_BUSY f.val, STREAM.F_EN f.val] ∧ t = { s with regs := t.regs, fifos := t.fifos })) ∧
  (∀ (s : State) (f : Fin 4) (n : Nat), (s.fifo f.val).flushMark = some n → s.on (STREAM.FLUSH_BUSY f.val) = true →
    Answers (exec (.flushBoundary f) s) (fun t => (t.fifo f.val).words = (s.fifo f.val).words.drop n ∧ (t.fifo f.val).flushMark = none ∧
      t.on (STREAM.FLUSH_BUSY f.val) = false ∧ (t.get (HDR.IRQ_RAW 5)).testBit (16 + f.val) = true ∧
      KeepsRegs s t [STREAM.FLUSH_BUSY f.val, HDR.IRQ_RAW 5] ∧ t = { s with regs := t.regs, fifos := t.fifos })) ∧
  (∀ (s : State) (m : Master) (f : Fin 4) (w : Word) (p : Bool) (l : List (Word × Bool)), s.MayRead m 5 → (s.fifo f.val).words = (w, p) :: l →
    Answers (exec (.fDataRead m f) s) (fun t => t.busData = w ∧ (t.fifo f.val).words = l ∧ (t.fifo f.val).lastRead = w ∧
      t.get (STREAM.F_RD_COUNT f.val) = (s.get (STREAM.F_RD_COUNT f.val) + 1) % 2 ^ (STREAM.F_RD_COUNT f.val).width ∧
      (p ≠ oddParity w → t.on (STREAM.POISON f.val) = true ∧ (t.get (HDR.IRQ_RAW 5)).testBit (12 + f.val) = true) ∧
      (p = oddParity w → KeepsRegs s t [STREAM.F_RD_COUNT f.val]) ∧ t = { s with regs := t.regs, fifos := t.fifos, busData := w })) ∧
  (∀ (s : State) (m : Master) (f : Fin 4), s.MayRead m 5 → (s.fifo f.val).words = [] →
    Answers (exec (.fDataRead m f) s) (fun t => t.busData = (s.fifo f.val).lastRead ∧ t.on (STREAM.UNDERRUN f.val) = true ∧
      KeepsRegs s t [STREAM.UNDERRUN f.val] ∧ t = { s with regs := t.regs, busData := t.busData }))

/-! ### The radio (R100 to R116) -/

/-- Demodulators and presets (R102 to R108, R110, R116): a detection on a channel with RX attaches one free demodulator, which an SFD not in
time or a bad PHR releases; a relock sets PLL_LOCK; LOAD_PRESET fills the shadow profile with the preset image and zeros behind it. Where
it says more than those rules it follows a choice or a reading of the model: log entries 2, 44, 45. -/
def Obligations.ReceiversAndPresets : Prop :=
  (∀ (s : State) (w : Wick) (x : Detect), s.receiving w = true → s.blanked w = false → x.chan < s.active.nChan → (s.active.chan x.chan).rx = true →
    (∀ d ∈ s.busyDemods w, s.get (RADIO.CHANNEL w d) ≠ x.chan) → s.freeDemods w ≠ [] →
    Answers (exec (.preambleDetect w [x]) s) (fun t => ∃ d ∈ s.freeDemods w, t.on (RADIO.DEMOD_BUSY w d) = true ∧
      t.get (RADIO.CHANNEL w d) = x.chan % 64 ∧ (s.on (RADIO.SINGLE_INPUT w) = true → t.get (RADIO.INPUT w d) = 0) ∧
      (s.on (RADIO.SINGLE_INPUT w) = false → x.divNeg < x.mainNeg → t.get (RADIO.INPUT w d) = 1) ∧
      KeepsRegs s t [RADIO.DEMOD_BUSY w d, RADIO.CHANNEL w d, RADIO.INPUT w d] ∧ t.armed (tmSfd w d) = true ∧
      t = { s with regs := t.regs, timers := t.timers, fresh := t.fresh })) ∧
  (∀ (s : State) (w : Wick) (d : Fin 8), s.due (tmSfd w d.val) = true →
    Answers (exec (.demodSfdTimeout w d) s) (fun t => t.on (RADIO.DEMOD_BUSY w d.val) = false ∧ t.armed (tmSfd w d.val) = false ∧
      KeepsRegs s t [RADIO.DEMOD_BUSY w d.val] ∧ t = { s with regs := t.regs, timers := t.timers })) ∧
  (∀ (s : State) (w : Wick) (d : Fin 8) (p : Phr), s.on (RADIO.DEMOD_BUSY w d.val) = true →
    Answers (exec (.phrCheck w d p) s) (fun t => t.armed (tmSfd w d.val) = false ∧
      (phrOk p = true → t.on (RADIO.DEMOD_BUSY w d.val) = true ∧ t = { s with timers := t.timers }) ∧
      (phrOk p = false → t.on (RADIO.DEMOD_BUSY w d.val) = false ∧ t.get (RADIO.RX_PHR_ERR w) = min (s.get (RADIO.RX_PHR_ERR w) + 1) 0xFFFF ∧
        KeepsRegs s t [RADIO.DEMOD_BUSY w d.val, RADIO.RX_PHR_ERR w] ∧ t = { s with regs := t.regs, timers := t.timers }))) ∧
  (∀ (s : State) (w : Wick), s.pdOn (radioPd w) = true →
    Answers (exec (.pllRelock w) s) (fun t => t.on (RADIO.PLL_LOCK w) = true ∧ KeepsRegs s t [RADIO.PLL_LOCK w] ∧ t = { s with regs := t.regs })) ∧
  (∀ (s : State) (m : Master) (w : Wick) (p : Fin 8), s.MayWrite m (w.page 1) 0x040 → s.shadowCodes m w = [] → s.cfg.preset = none →
    1 ≤ p.val → p.val ≤ 3 →
    Answers (exec (.loadPreset m w p) s) (fun t => t.get (RADIO.CMD_STATUS w) = 1 ∧ t.get (RADIO.CMD_REASON w) = 0 ∧
      t.cfg = { s.cfg with preset := some p.val } ∧ KeepsRegs s t [RADIO.CMD_STATUS w, RADIO.CMD_REASON w] ∧
      t = { s with regs := t.regs, cfg := t.cfg, jseq := t.jseq, ring := t.ring })) ∧
  (∀ (s : State) (p : Nat) (w : Wick), s.cfg.preset = some p → s.author = some w → s.stopped w = false → s.saving = false →
    Answers (exec .presetLoadDone s) (fun t => t.cfg.preset = none ∧ t.get (RADIO.CMD_STATUS w) = 0 ∧ t.active = s.active ∧
      (∀ k < 768, t.shadow.mem.get (tabProfile.base + k) = ((presetImage p)[k]?).getD 0) ∧
      (∀ x, x < tabProfile.base ∨ tabProfile.base + 768 ≤ x → t.shadow.mem.get x = s.shadow.mem.get x) ∧ t.shadow.sh = s.shadow.sh ∧
      KeepsRegs s t [RADIO.CMD_STATUS w] ∧ t = { s with regs := t.regs, cfg := t.cfg, jseq := t.jseq, ring := t.ring }))

/-- Frames received and a lost PLL lock (R26, R103, R105): a frame with a good FCS frees its demodulator and is counted, at a MIRROR with no
other effect; one with a bad FCS only counts an error; at the AUTHOR a frame of another segment is counted and goes no further; losing
lock clears PLL_LOCK and is counted. Where it says more than those rules it follows a choice or a reading of the model: log entries 9, 46,
52. -/
def Obligations.ReceivedFramesAreCounted : Prop :=
  (∀ (s : State) (w : Wick) (d : Fin 8) (psdu : List Byte) (rssi : Byte), s.on (RADIO.DEMOD_BUSY w d.val) = true → 5 ≤ psdu.length →
    psdu.length ≤ 511 →
    let good := fcs (psdu.take (psdu.length - 4)) % 2 ^ 32 = leNat (psdu.drop (psdu.length - 4))
    (s.role w = .mirror → Answers (exec (.frameReceived w d psdu rssi) s) (fun t =>
      t.on (RADIO.DEMOD_BUSY w d.val) = false ∧ t.get (RADIO.RSSI_NEG w d.val) = rssi.toNat ∧
      (good → t.get (RADIO.RX_FRAMES w) = (s.get (RADIO.RX_FRAMES w) + 1) % 2 ^ 32 ∧ t.get (RADIO.RX_FCS_ERR w) = s.get (RADIO.RX_FCS_ERR w)) ∧
      (¬ good → t.get (RADIO.RX_FCS_ERR w) = min (s.get (RADIO.RX_FCS_ERR w) + 1) 0xFFFF ∧ t.get (RADIO.RX_FRAMES w) = s.get (RADIO.RX_FRAMES w)) ∧
      t = { s with regs := t.regs, timers := t.timers })) ∧
    (∀ f : RxFrame, s.role w = .author → s.stopped w = false → s.linkOn w = true → s.captures w = false → parseFrame psdu = some f →
      f.headerOk = true → f.ty ≠ 15 → f.seg ≠ s.get (FABRIC.SEG_ID s.cw) → s.cw = w →
      Answers (exec (.frameReceived w d psdu rssi) s) (fun t =>
        t.on (RADIO.DEMOD_BUSY w d.val) = false ∧
        (good → t.get (LINK.FOREIGN_CNT w) = min (s.get (LINK.FOREIGN_CNT w) + 1) (2 ^ (LINK.FOREIGN_CNT w).width - 1)) ∧
        t = { s with regs := t.regs, timers := t.timers, fresh := t.fresh }))) ∧
  (∀ (s : State) (w : Wick), s.on (RADIO.PLL_LOCK w) = true → s.link.onAir.get? w.idx = none → s.get PILOT.TH_PLL = 0 →
    Answers (exec (.pllUnlock w) s) (fun t => t.on (RADIO.PLL_LOCK w) = false ∧
      t.get (RADIO.PLL_UNLOCK_CNT w) = min (s.get (RADIO.PLL_UNLOCK_CNT w) + 1) 0xFFFF ∧
      (t.get (HDR.IRQ_RAW (w.page 1))).testBit 0 = true ∧ (∀ d < 8, t.on (RADIO.DEMOD_BUSY w d) = false) ∧
      t = { s with regs := t.regs, timers := t.timers, arb := t.arb }))

/-! ### The duty ledger and the sequence allocator (R19, R117 to R130) -/

/-- The duty ledger (R117 to R122, R125, R127, R131): a request that passes every check is charged with its time on air and granted, one that
does not is refused under the first check it fails and nothing is charged; bucket boundaries slide every account; presumptions end in time
or by a quiet assertion; a grant not used in 2 ms lapses with its charge kept; at a whole second the link takes its channel. Where it says
more than those rules it follows a choice or a reading of the model: log entries 9, 52, 59, 60, 62, 65. -/
def Obligations.LedgerChargesWhatItGrants : Prop :=
  (∀ (s : State) (w : Wick) (x : LedgerReq), s.on (RADIO.PLL_LOCK w) = true → s.stopped w = false →
    let r := reqOf x
    let u := s.closeBuckets
    let i := (s.active.chan r.channel).sub
    let toa := s.active.toaUs r.channel r.psdu r.wake
    (u.ledgerCode w r = 0 → Answers (exec (.ledgerRequest w x.channel x.cls x.psdu x.wake x.air none) s) (fun t =>
      (s.link.grants.get? w.idx = none → ∃ g, t.link.grants.get? w.idx = some g ∧ g.channel = x.channel.val ∧ g.toa = toa ∧ g.since = s.base) ∧
      (s.link.grants.get? w.idx ≠ none → t.link = s.link) ∧
      (∀ k, k ≠ w.idx → t.link.grants.get? k = s.link.grants.get? k) ∧
      t.ledger.account i = chargeOpen (u.ledger.account i) toa ∧ (∀ j, j ≠ i → t.ledger.account j = u.ledger.account j) ∧
      t = { s with ledger := t.ledger, link := { s.link with grants := t.link.grants } })) ∧
    (u.ledgerCode w r ≠ 0 → s.active.profFilled = true → x.channel.val < s.active.nChan →
      Answers (exec (.ledgerRequest w x.channel x.cls x.psdu x.wake x.air none) s) (fun t => t.ledger = u.ledger ∧
        t.get DUTY.LR_CODE = u.ledgerCode w r ∧ t.get DUTY.LR_CHANNEL = x.channel.val ∧
        t.get (RADIO.TX_REFUSED w) = min (s.get (RADIO.TX_REFUSED w) + 1) 0xFFFF ∧ (t.get (HDR.IRQ_RAW (w.page 1))).testBit 1 = true ∧
        t = { s with regs := t.regs, ledger := u.ledger }))) ∧
  (∀ (s t : State) (x y : LedgerReq), exec (.ledgerRequest .a y.channel y.cls y.psdu y.wake y.air none) s = .next t →
    exec (.ledgerRequest .b x.channel x.cls x.psdu x.wake x.air (some y)) s = exec (.ledgerRequest .b x.channel x.cls x.psdu x.wake x.air none) t ∧
    exec (.ledgerRequest .a y.channel y.cls y.psdu y.wake y.air (some x)) s = exec (.ledgerRequest .b x.channel x.cls x.psdu x.wake x.air none) t) ∧
  (∀ s : State, s.base / 32768 = s.ledger.boundaries + 1 → Answers (exec .bucketBoundary s) (fun t =>
    t.ledger.boundaries = s.ledger.boundaries + 1 ∧ (∀ i, (s.ledger.accounts.get? i).isSome = true → t.ledger.account i = (0 :: s.ledger.account i).take 3601) ∧
    t = { s with ledger := t.ledger })) ∧
  (∀ s : State, Answers (exec .presumptionEnd s) (fun t =>
    (∀ p, p ∈ t.ledger.presumed ↔ p ∈ s.ledger.presumed ∧ s.base < p.2) ∧ t.ledger.accounts = s.ledger.accounts ∧
    KeepsRegs s t [HDR.IRQ_RAW 0xC] ∧ t = { s with regs := t.regs, ledger := t.ledger })) ∧
  (∀ s : State, s.MayWrite .hostS 0xC 0x008 → s.presuming = true → Answers (exec (.quietAssert .hostS) s) (fun t =>
    t.presuming = false ∧ t.on DUTY.ASSERTED = true ∧ t.ledger.accounts = s.ledger.accounts ∧ t.ledger.presumed = [] ∧
    t = { s with regs := t.regs, ledger := t.ledger, log := t.log })) ∧
  (∀ s : State, Answers (exec .secondBoundary s) (fun t => t.link.second = s.now / 32768 ∧ t = { s with link := { s.link with second := t.link.second } })) ∧
  (∀ (s : State) (w : Wick) (g : Grant), s.link.grants.get? w.idx = some g → g.since + 65 < s.base →
    Answers (exec (.grantLapse w) s) (fun t => t.link.grants.get? w.idx = none ∧ t.ledger = s.ledger ∧
      (∀ n, g.use = .slot n → (s.slot n).state = 2 → (t.slot n).state = 1 ∧ (t.slot n).desc = (s.slot n).desc) ∧
      (∀ n f, g.use = .slot n → g.frame = some f → s.ringRoom = true → s.stopped w = false → s.saving = false → s.exhausted w = false →
        s.record? w f = none →
        t.link.records.get? f.seq = some { wick := w.idx, retry := f.retry, fcnt := s.link.fcnt.getD w.idx 0 }) ∧
      t = { s with link := { s.link with grants := t.link.grants, fcnt := t.link.fcnt, fcntCeiling := t.link.fcntCeiling, records := t.link.records },
                   txn := t.txn, jseq := t.jseq, ring := t.ring }))

/-! ### The link engine (R25, R26, R121, R131 to R163, R319) -/

/-- Keying (R19, R25, R101, R121, R145, R146, R170): a granted frame goes on the air under its grant with its PSDU and its counter, the ledger
not being charged again, and is counted at its end; the beacon goes out in its time; the allocator issues the next number of one sequence
to the wick that holds AUTHOR or SNOWDROP. Where it says more than those rules it follows a choice or a reading of the model: log entries
59, 67. -/
def Obligations.FramesAndBeaconsAreKeyed : Prop :=
  (∀ (s : State) (w : Wick) (g : Grant) (f : OutFrame), s.link.grants.get? w.idx = some g → g.frame = some f → s.mayKey w g = true →
    s.on (RADIO.TX_EN w) = true → s.ringRoom = true → f.ty ≠ 0xF →
    Answers (exec (.frameTransmit w) s) (fun t =>
      t.link.grants.get? w.idx = none ∧ t.link.onAir.get? w.idx = some { g with since := s.base } ∧ t.on (RADIO.TX_ACTIVE w) = true ∧
      (s.record? w f = none → t.link.lastPsdu.get? w.idx = some (s.psdu w f (s.link.fcnt.getD w.idx 0) (s.sfdOf g)) ∧
        t.link.fcnt.get? w.idx = some (s.link.fcnt.getD w.idx 0 + 1)) ∧
      (∀ r, s.record? w f = some r → t.link.lastPsdu.get? w.idx = some (s.psdu w f r.fcnt (s.sfdOf g)) ∧ t.link.fcnt = s.link.fcnt ∧
        t.link.records.get? f.seq = none) ∧ t.ledger = s.ledger ∧
      (∀ n, g.use = .slot n → (t.slot n).attempts = (s.slot n).attempts + 1 ∧ (t.slot n).keyed = true) ∧
      t.cfg = s.cfg ∧ t.roleA = s.roleA ∧ t.roleB = s.roleB ∧ t.keys = s.keys ∧ t.now = s.now)) ∧
  (∀ (s : State) (w : Wick) (g : Grant), s.link.onAir.get? w.idx = some g → g.cut = false → g.since + g.toa * 32768 / 1000000 ≤ s.base →
    Answers (exec (.frameTxEnd w) s) (fun t =>
      t.link.onAir.get? w.idx = none ∧ t.on (RADIO.TX_ACTIVE w) = false ∧ t.get (RADIO.TX_FRAMES w) = (s.get (RADIO.TX_FRAMES w) + g.count) % 2 ^ 32 ∧
      (g.use = .beacon → t.get (LINK.BEACONS_SENT w) = (s.get (LINK.BEACONS_SENT w) + 1) % 2 ^ (LINK.BEACONS_SENT w).width) ∧
      (∀ n, g.use = .slot n → (s.slot n).state = 2 → (s.slot n).desc.asks = true → (s.slot n).desc.ty = 1 → (t.slot n).state = 3) ∧
      t.ledger = s.ledger ∧ t.cfg = s.cfg ∧ t.roleA = s.roleA ∧ t.roleB = s.roleB)) ∧
  (∀ (s : State) (w : Wick),
    let k := s.nextBeacon
    let c := s.active.beaconChan k
    s.beaconOn w = true → k ≤ s.now + usTicks (s.active.preUs c) → s.link.onAir.get? w.idx = none → s.on (RADIO.TX_EN w) = true →
    s.transmitterFree w = true → s.ringRoom = true →
    s.closeBuckets.ledgerCode w { channel := c, cls := 0, psdu := beaconPsdu, wake := 0, air := false } = 0 →
    Answers (exec (.beaconSend w) s) (fun t =>
      (∃ g, t.link.onAir.get? w.idx = some g ∧ g.use = .beacon ∧ g.channel = c ∧ g.toa = s.active.toaUs c beaconPsdu 0) ∧
      t.on (RADIO.TX_ACTIVE w) = true ∧ t.link.lastBeacon = some k ∧ t.link.seqNext = (s.link.seqNext + 1) % 0x10000 ∧
      t.txn = s.txn ∧ t.cfg = s.cfg ∧ t.reg = s.reg ∧ t.roleA = s.roleA ∧ t.roleB = s.roleB)) ∧
  (∀ (s : State) (w : Wick),
    (s.isController w = true → s.stopped w = false → s.saving = false ∨ s.link.seqNext ≠ s.link.seqCeiling →
      Answers (exec (.seqAllocate w) s) (fun t => t.busData = BitVec.ofNat 32 s.link.seqNext ∧
        t.link.seqNext = (s.link.seqNext + 1) % 0x10000 ∧
        t = { s with busData := t.busData, link := { s.link with seqNext := t.link.seqNext, seqCeiling := t.link.seqCeiling } })) ∧
    (s.isController w = false → s.stopped w = false → s.saving = false →
      exec (.seqAllocate w) s = .next { s with link := { s.link with seqRefused := s.link.seqRefused + 1 } }) ∧
    (s.stopped w = true ∨ (s.saving = true ∧ s.link.seqNext = s.link.seqCeiling) → exec (.seqAllocate w) s = .next s))

/-- Taper trains and their rendezvous (R149): a granted train goes out on the sample channel of the plan's next HOME; at the rendezvous
instant the frame itself is keyed on the common channel and the plan is over. Where it says more than those rules it follows a choice or a
reading of the model: log entries 61, 70. -/
def Obligations.TapersAndRendezvousGoOut : Prop :=
  (∀ (s : State) (p : TaperPlan) (h : Nat) (homes : List Nat), s.link.taper = some p → p.homes = h :: homes →
    let w := s.cw
    let b := s.active
    let c := b.sampleChan h s.now
    let toa := b.toaUs c 34 0
    let n := b.trainFrames c
    s.linkOn w = true → s.transmitterFree w = true → s.grant? w = none → s.clearOfBeacon w s.now (n * toa) = true → s.clearOfAcks (n * toa) = true →
    clearOfSecond s.now = true ∨ b.commonChan s.now ≠ c → p.begun = true ∨ s.inTime (s.slot p.slot) = true →
    s.link.fcnt.getD w.idx 0 + n ≤ 0xFFFFFFFF → (b.access = true → s.now % 32768 + usTicks (n * toa) ≤ 32768) → s.on (RADIO.TX_EN w) = true → 0 < n →
    (s.askTrain w { channel := c, cls := (s.slot p.slot).desc.cls, psdu := 34, wake := 0, air := false } n 0).1 = 0 →
    Answers (exec .taperTrain s) (fun t =>
      (∃ g, t.link.onAir.get? w.idx = some g ∧ g.use = .taper p.slot ∧ g.channel = c ∧ g.count = n ∧ g.toa = n * toa) ∧
      t.link.taper = some { p with homes := homes, begun := true } ∧ t.on (RADIO.TX_ACTIVE w) = true ∧ t.txn = s.txn ∧ t.cfg = s.cfg ∧ t.reg = s.reg)) ∧
  (∀ (s : State) (p : TaperPlan), s.link.taper = some p → p.homes = [] → p.rendezvous ≤ s.now → s.now ≤ p.rendezvous + msTicks 5 →
    let w := s.cw
    let c := s.active.commonChan s.now
    let f := s.attemptFrame p.slot
    let toa := s.active.toaUs c f.psduLen 0
    s.linkOn w = true → s.transmitterFree w = true → s.grant? w = none → clearOfSecond s.now = true → s.clearOfBeacon w s.now toa = true →
    s.clearOfAcks toa = true → s.ringRoom = true → s.on (RADIO.TX_EN w) = true →
    s.closeBuckets.ledgerCode w { channel := c, cls := (s.slot p.slot).desc.cls, psdu := f.psduLen, wake := 0, air := false } = 0 →
    Answers (exec .rendezvousSend s) (fun t =>
      (∃ g, t.link.onAir.get? w.idx = some g ∧ g.use = .rendezvous p.slot ∧ g.channel = c) ∧ t.link.taper = none ∧
      t.on (RADIO.TX_ACTIVE w) = true ∧ (t.slot p.slot).attempts = (s.slot p.slot).attempts + 1 ∧ t.cfg = s.cfg))

/-- Acknowledgements, copies, the seen cache and the end of the link engine (R26, R152, R153, R163, R319). Where it says more than those rules
it follows a choice or a reading of the model: log entries 2, 57. -/
def Obligations.LinkSendsAcksAndCopies : Prop :=
  (∀ (s : State) (a : AckDue) (c : Nat),
    let w := s.cw
    s.link.acks = [a] → a.channel = some c → a.due ≤ s.base → s.base ≤ a.due + 6 → s.linkOn w = true → s.transmitterFree w = true →
    s.clearOfBeacon w s.now (s.active.toaUs c 41 0) = true → s.on (RADIO.TX_EN w) = true → s.isController w = true → s.ringRoom = true →
    s.closeBuckets.ledgerCode w { channel := c, cls := 1, psdu := 41, wake := 0, air := false } = 0 →
    Answers (exec .ackSend s) (fun t => t.link.acks = [] ∧ (∃ g, t.link.onAir.get? w.idx = some g ∧ g.use = .ack ∧ g.channel = c) ∧
      t.on (RADIO.TX_ACTIVE w) = true ∧ t.txn = s.txn ∧ t.cfg = s.cfg ∧ t.reg = s.reg)) ∧
  (∀ (s : State) (c : CopyDue) (l : List CopyDue) (w : Wick), s.link.copies = c :: l → s.copier = some w → c.due ≤ s.base → s.base ≤ c.due + 65 →
    s.isController w = false ∨ (s.clearOfBeacon w s.now (s.active.toaUs c.channel c.frame.psduLen 0) = true ∧
      s.clearOfAcks (s.active.toaUs c.channel c.frame.psduLen 0) = true) →
    clearOfSecond s.now = true → s.linkOn w = true → s.transmitterFree w = true → s.on (RADIO.TX_EN w) = true → c.frame.copy = true → c.frame.ty ≠ 0xF →
    s.closeBuckets.ledgerCode w { channel := c.channel, cls := 3, psdu := c.frame.psduLen, wake := 0, air := false } = 0 →
    Answers (exec .mirrorCopy s) (fun t => t.link.copies = l ∧ (∃ g, t.link.onAir.get? w.idx = some g ∧ g.use = .copy ∧ g.channel = c.channel) ∧
      t.get (WCORE.COPY_SENT w) = min (s.get (WCORE.COPY_SENT w) + 1) (2 ^ (WCORE.COPY_SENT w).width - 1) ∧
      t.txn = s.txn ∧ t.cfg = s.cfg ∧ t.reg = s.reg ∧ t.jseq = s.jseq)) ∧
  (∀ s : State, Answers (exec .seenEntryExpire s) (fun t =>
    (∀ e, e ∈ t.link.seen ↔ e ∈ s.link.seen ∧ s.base < e.since + 32768 * 300) ∧ t = { s with link := { s.link with seen := t.link.seen } })) ∧
  (∀ (s : State) (m : Master) (w : Wick), s.MayWrite m (w.page 2) 0x008 → s.isController w = true →
    Answers (exec (.linkDisable m w) s) (fun t => t.on (HDR.ENABLE (w.page 2)) = false ∧ t.link.acks = [] ∧ t.link.taper = none ∧
      t.link.grants.get? w.idx = none ∧ t.link.onAir = s.link.onAir ∧ t.ledger = s.ledger ∧ t.cfg = s.cfg ∧ t.reg = s.reg))

/-! ### Transactions (R164 to R183) -/

/-- Transactions (R164 to R170, R178, R181, R182): an accepted submission takes a free slot and is QUEUED with its descriptor; an offered
unicast to a lantern that listens all the time is requested and SENDING; the engine's waits end; clearing ENABLE closes every transaction;
RES_POP takes the oldest record away; RESP_SEL shows the answers of the group transaction that a tag names. Where it says more than those
rules it follows a choice or a reading of the model: log entries 71, 72. -/
def Obligations.TransactionsAreTakenAndShown : Prop :=
  (∀ (s : State) (m : Master) (w : Wick) (n : Nat), s.MayWrite m (w.page 3) 0x058 → s.submitCode m w = 0 → s.nextSlot? = some n →
    Answers (exec (.txnSubmit m w) s) (fun t => (t.slot n).state = 1 ∧ (t.slot n).desc = s.subDesc m ∧
      (t.slot n).epoch = ((s.slot n).epoch + 1) % 4 ∧ t.get ((TXN.SUB_CODE .a).forMaster m) = 0 ∧
      t.get ((TXN.SUB_TAG .a).forMaster m) = (n + 64 * (((s.slot n).epoch + 1) % 4)) % 256 ∧
      (∀ k, k ≠ n → t.slot k = s.slot k) ∧ t = { s with txn := t.txn, regs := t.regs, jseq := t.jseq, ring := t.ring })) ∧
  (∀ (s : State) (p : Purpose) (ty dest opcode : Nat) (args : List Byte) (ack : Bool) (win att nb na n : Nat),
    let d : Desc := { master := 0, purpose := p, ty := ty, dest := dest, opcode := opcode, args := args, ackReq := ack, respWin := win
                      maxAtt := att, notBefore := nb, notAfter := na, nodeId := 0, joinKey := [] }
    p ≠ .host → s.takesInternal d = true → s.nextSlot? = some n →
    Answers (exec (.internalSubmit p ty dest opcode args ack win att nb na) s) (fun t => (t.slot n).state = 1 ∧ (t.slot n).desc = d ∧
      (∀ k, k ≠ n → t.slot k = s.slot k) ∧ t = { s with txn := t.txn, jseq := t.jseq, ring := t.ring })) ∧
  (∀ (s : State) (n q : Nat),
    let w := s.cw
    let x := s.slot n
    let c := s.active.commonChan s.now
    s.linkFree = true → s.nextOffer = some n → x.seq = some q → x.desc.ty = 1 → s.wakes x = false →
    (s.attemptFrame n).psduLen ≤ 255 → s.reg.retained = [] → s.on (RADIO.TX_EN w) = true →
    s.closeBuckets.ledgerCode w { channel := c, cls := x.desc.cls, psdu := (s.attemptFrame n).psduLen, wake := 0, air := false } = 0 →
    Answers (exec .txnOffer s) (fun t => (t.slot n).state = 2 ∧ (t.slot n).keyed = false ∧ (t.slot n).seq = some q ∧
      (∃ g, t.link.grants.get? w.idx = some g ∧ g.use = .slot n ∧ g.channel = c) ∧ (∀ k, k ≠ n → t.slot k = s.slot k) ∧
      t.cfg = s.cfg ∧ t.reg = s.reg ∧ t.regs = s.regs)) ∧
  (∀ (s : State) (n : Fin 64), (s.slot n.val).state = 1 → (s.slot n.val).timer ≠ 0 → (s.slot n.val).timer ≤ s.base →
    Answers (exec (.txnRequeueExpiry n) s) (fun t => t.slot n.val = { s.slot n.val with timer := 0 } ∧
      (∀ k, k ≠ n.val → t.slot k = s.slot k) ∧ t = { s with txn := t.txn, jseq := t.jseq, ring := t.ring })) ∧
  (∀ (s : State) (n : Fin 64), (s.slot n.val).state = 4 → (s.slot n.val).timer ≤ s.base → s.linkFree = false →
    Answers (exec (.backoffExpiry n) s) (fun t => (t.slot n.val).state = 1 ∧ (t.slot n.val).timer = 0 ∧ (t.slot n.val).desc = (s.slot n.val).desc ∧
      (∀ k, k ≠ n.val → t.slot k = s.slot k) ∧ t = { s with txn := t.txn, jseq := t.jseq, ring := t.ring })) ∧
  (∀ (s : State) (n : Fin 64), (s.slot n.val).state = 4 → (s.slot n.val).timer ≤ s.base →
    let u := s.setSlot n.val { s.slot n.val with state := 1, timer := 0, planned := none, keyed := false }
    (u.linkFree = true → u.offerable n.val = true → exec (.backoffExpiry n) s = .next (u.offer n.val)) ∧
    (u.linkFree = false ∨ u.offerable n.val = false → exec (.backoffExpiry n) s = .next u)) ∧
  (∀ (s : State) (m : Master) (w : Wick), s.MayWrite m (w.page 3) 0x008 → s.isController w = true → s.txn.waiting = [] →
    (∀ n < 64, (s.slot n).live = true → (s.slot n).desc.purpose = .host) →
    Answers (exec (.txnDisable m w) s) (fun t => t.on (HDR.ENABLE (w.page 3)) = false ∧ (∀ n < 64, (t.slot n).live = false) ∧
      t = { s with txn := t.txn, link := t.link, regs := t.regs, journal := t.journal, jseq := t.jseq, ring := t.ring })) ∧
  (∀ (s : State) (m : Master) (w : Wick), s.MayWrite m (w.page 3) 0x204 → s.isController w = true →
    Answers (exec (.resPop m w) s) (fun t => t.txn = { s.txn with results := s.txn.results.drop 1 } ∧ t = { s with txn := t.txn, jseq := t.jseq, ring := t.ring })) ∧
  (∀ (s : State) (m : Master) (w : Wick) (v : Word),
    let n := v.toNat % 64
    let start := v.toNat / 65536 % 4096
    s.MayWrite m (w.page 3) 0x300 → (s.slot n).epoch = v.toNat / 64 % 4 → (s.slot n).desc.ty = 2 → (s.slot n).desc.asks = true →
    Answers (exec (.respSel m w v) s) (fun t => t.get (TXN.RESP_STATUS w) = 0 ∧
      t.get (TXN.RESP_TOTAL w) = (s.slot n).answers.length % 2 ^ (TXN.RESP_TOTAL w).width ∧
      (∀ k < 16, ∀ e, (s.slot n).answers[start + k]? = some e → t.get (TXN.E_ADDR w k) = e.1 % 2 ^ (TXN.E_ADDR w k).width ∧
        t.get (TXN.E_RESULT w k) = e.2.1 % 2 ^ (TXN.E_RESULT w k).width ∧ t.on (TXN.E_VALID w k) = true) ∧
      (∀ k < 16, (s.slot n).answers.length ≤ start + k → t.on (TXN.E_VALID w k) = false) ∧ t = { s with regs := t.regs })) ∧
  (∀ (s : State) (m : Master) (w : Wick), s.MayWrite m (w.page 3) 0x008 → s.isController w = true →
    exec (.txnDisable m w) s = .next (s.store (HDR.ENABLE (w.page 3)) 0).disableAll)

/-- How a host's transaction ends (R169 to R177, R181): out of time unsent it closes NOT_SENT and its slot is free; timed out after its last
attempt it closes TIMEOUT into quarantine, before that it backs off, and an accepted reply of the same cycle wins; the quarantine ends;
ABORT and ABORT_ALL close ABORTED, but for what completes in the same cycle; every close leaves one result record. Where it says more than
those rules it follows a choice or a reading of the model: log entries 2, 74. -/
def Obligations.HostTransactionsCloseWithARecord : Prop :=
  (∀ (s : State) (n : Fin 64),
    let x := s.slot n.val
    x.desc.purpose = .host → s.txn.waiting = [] → s.txn.results.length < 256 → s.link.taper = none →
    (x.state = 1 → s.inTime x = false → x.attempts = 0 → Answers (exec (.txnDeadline n) s) (fun t =>
      (t.slot n.val).state = 0 ∧ t.txn.results = s.txn.results ++ [s.resultRecord n.val 4 0xFF] ∧
      (∀ k, k ≠ n.val → t.slot k = s.slot k) ∧ t = { s with txn := t.txn, link := t.link, regs := t.regs, jseq := t.jseq, ring := t.ring })) ∧
    (x.state = 3 → x.timer ≤ s.base → s.maxAttempts x.desc ≤ x.attempts → 0 < x.attempts → x.desc.asks = true → x.desc.ty = 1 →
      Answers (exec (.attemptTimeout n none) s) (fun t =>
        (t.slot n.val).state = 5 ∧ t.txn.results = s.txn.results ++ [s.resultRecord n.val 2 0xFF] ∧
        (t.slot n.val).timer = s.base + 32768 * s.get (TXN.QUAR_S s.cw) ∧
        (∀ k, k ≠ n.val → t.slot k = s.slot k) ∧ t = { s with txn := t.txn, link := t.link, regs := t.regs, jseq := t.jseq, ring := t.ring })) ∧
    (∀ a : AckIn, x.state = 3 → 0 < x.attempts → x.desc.asks = true → x.desc.ty = 1 → a.tag.toNat = s.tag n.val → x.seq = some a.ackedSeq →
      a.src = x.desc.dest → a.result.toNat ≠ 3 → Answers (exec (.attemptTimeout n (some a)) s) (fun t =>
        (t.slot n.val).state = 5 ∧ t.txn.results = s.txn.results ++ [s.resultRecord n.val 0 a.result.toNat] ∧
        (∀ k, k ≠ n.val → t.slot k = s.slot k) ∧ t = { s with txn := t.txn, link := t.link, regs := t.regs, jseq := t.jseq, ring := t.ring })) ∧
    (x.state = 3 → x.timer ≤ s.base → x.attempts < s.maxAttempts x.desc →
      Answers (exec (.attemptTimeout n none) s) (fun t =>
        (t.slot n.val).state = 4 ∧ s.base ≤ (t.slot n.val).timer ∧ (t.slot n.val).timer ≤ s.base + millis 1600 ∧
        t.txn.results = s.txn.results ∧ (∀ k, k ≠ n.val → t.slot k = s.slot k) ∧ t = { s with txn := t.txn, jseq := t.jseq, ring := t.ring, fresh := t.fresh })) ∧
    (x.state = 5 → x.timer ≤ s.base → Answers (exec (.quarantineEnd n) s) (fun t =>
      (t.slot n.val).state = 0 ∧ t.txn.results = s.txn.results ∧ (∀ k, k ≠ n.val → t.slot k = s.slot k) ∧
      t = { s with txn := t.txn, jseq := t.jseq, ring := t.ring }))) ∧
  (∀ (s : State) (m : Master) (w : Wick) (tag : Byte),
    let n := tag.toNat % 64
    let x := s.slot n
    s.MayWrite m (w.page 3) 0x058 → s.isAuthor w = true → x.live = true → x.epoch = tag.toNat / 64 → mayAbort m x.desc = true →
    s.txn.waiting = [] → s.txn.results.length < 256 →
    Answers (exec (.abort m w tag false) s) (fun t => (t.slot n).live = false ∧
      t.txn.results = s.txn.results ++ [s.resultRecord n 5 0xFF] ∧ t.get ((TXN.SUB_CODE .a).forMaster m) = 7 ∧
      (∀ k, k ≠ n → t.slot k = s.slot k) ∧ t = { s with txn := t.txn, link := t.link, regs := t.regs, jseq := t.jseq, ring := t.ring })) ∧
  (∀ (s : State) (m : Master) (w : Wick) (same : List (Fin 64)), s.MayWrite m (w.page 3) 0x058 → s.isAuthor w = true → s.txn.waiting = [] →
    Answers (exec (.abortAll m w same) s) (fun t =>
      (∀ n : Fin 64, (t.slot n.val).live = true → n ∈ same ∨ ¬ ((t.slot n.val).desc.purpose = .host ∧ (t.slot n.val).desc.master = m.id)) ∧
      (∀ n : Fin 64, n ∈ same ∨ ¬ ((s.slot n.val).desc.purpose = .host ∧ (s.slot n.val).desc.master = m.id) → t.slot n.val = s.slot n.val) ∧
      t = { s with txn := t.txn, link := t.link, regs := t.regs, jseq := t.jseq, ring := t.ring })) ∧
  (∀ (s : State) (n : Fin 64),
    let x := s.slot n.val
    (x.state = 1 ∨ x.state = 4 → s.inTime x = false → (∀ p ∈ s.txn.waiting, s.inTime { Slot.empty with desc := p.1, submitted := p.2 } = true) →
      exec (.txnDeadline n) s = .next (if x.attempts = 0 then s.closeSlot n.val 4 0xFF else s.closeLast n.val)) ∧
    (x.state = 3 → x.timer ≤ s.base → s.maxAttempts x.desc ≤ x.attempts → exec (.attemptTimeout n none) s = .next (s.closeLast n.val)) ∧
    (x.state = 3 → x.timer ≤ s.base → x.attempts < s.maxAttempts x.desc → Answers (exec (.attemptTimeout n none) s) (fun t =>
      (t.slot n.val).state = 4 ∧ s.base ≤ (t.slot n.val).timer ∧ (t.slot n.val).timer ≤ s.base + millis 1600 ∧ t.txn.results = s.txn.results ∧
      (∀ k, k ≠ n.val → t.slot k = s.slot k) ∧ t = { s with txn := t.txn, jseq := t.jseq, ring := t.ring, fresh := t.fresh })) ∧
    (x.state = 5 → x.timer ≤ s.base → Answers (exec (.quarantineEnd n) s) (fun t => t.txn.results = s.txn.results ∧
      t.txn.waiting = s.txn.waiting.drop 1 ∧ (s.txn.waiting = [] → (t.slot n.val).state = 0) ∧
      (∀ p ∈ s.txn.waiting.head?, ∃ k, (t.slot k).state = 1 ∧ (t.slot k).desc = p.1) ∧
      t = { s with txn := t.txn, jseq := t.jseq, ring := t.ring }))) ∧
  (∀ (s : State) (m : Master) (w : Wick) (tag : Byte) (same : Bool),
    let n := tag.toNat % 64
    let x := s.slot n
    s.MayWrite m (w.page 3) 0x058 → s.isController w = true →
    (x.live = true → x.epoch = tag.toNat / 64 → mayAbort m x.desc = true →
      exec (.abort m w tag false) s = .next ((s.giveUp n 5).setSubCode m 7)) ∧
    (x.state ≠ 0 → x.epoch = tag.toNat / 64 → mayAbort m x.desc = true → x.state = 5 ∨ same = true →
      exec (.abort m w tag same) s = .next (s.setSubCode m 8)) ∧
    (x.state = 0 ∨ x.epoch ≠ tag.toNat / 64 ∨ mayAbort m x.desc = false → exec (.abort m w tag same) s = .next (s.setSubCode m 9))) ∧
  (∀ (s : State) (m : Master) (w : Wick) (same : List (Fin 64)), s.MayWrite m (w.page 3) 0x058 → s.isController w = true →
    Answers (exec (.abortAll m w same) s) (fun t => t.get ((TXN.SUB_CODE .a).forMaster m) =
      (if ∀ n : Fin 64, (s.slot n.val).live = true → (s.slot n.val).desc.purpose = .host → (s.slot n.val).desc.master = m.id → n ∈ same then 9 else 7)))

/-! ### Guests, lookups, fabric messages that are repeated (R189 to R191, R345, R346) -/

/-- Lookups, roaming and returning (R190, R191, R346): an unanswered lookup ends with its 3 s and is counted; a query for an entry that may
roam is answered with what it lends; an answer is kept for 600 s; a home entry becomes AWAY and names the segment; an AWAY lantern is
asked back; a guest is sent LEAVE and erased; messages are repeated until acknowledged, 30 times at most. Where it says more than those
rules it follows a choice or a reading of the model: log entries 2, 76, 77. -/
def Obligations.GuestsAndLookups : Prop :=
  (∀ s : State, Answers (exec .guestLookupTimeout s) (fun t =>
    (∀ r, r ∈ t.reg.lookups ↔ r ∈ s.reg.lookups ∧ s.base < r.due) ∧ KeepsRegs s t [REGISTRY.JOIN_UNKNOWN_CNT s.cw] ∧
    t.get (REGISTRY.JOIN_UNKNOWN_CNT s.cw) = min (s.get (REGISTRY.JOIN_UNKNOWN_CNT s.cw) + (s.reg.lookups.filter (fun r => decide (r.due ≤ s.base))).length)
      (2 ^ (REGISTRY.JOIN_UNKNOWN_CNT s.cw).width - 1) ∧
    t = { s with regs := t.regs, reg := { s.reg with lookups := t.reg.lookups } })) ∧
  (∀ (s : State) (node : BitVec 64) (seg : BitVec 16) (a m : Nat), s.findNode node.toNat = some a → s.authorRuns = true →
    s.entryState a = 1 ∨ s.entryState a = 2 ∨ s.entryState a = 5 → s.entryFlag a 0 = true → s.on (HDR.ENABLE (s.cw.page 0xB)) = true → s.segModule seg.toNat = some m →
    Answers (exec (.regQueryReceived node seg) s) (fun t =>
      t.fab.queue = s.fab.queue ++ [{ ltype := 0x12, odest := m, osrc := s.get (FABRIC.FAB_ADDR s.cw), hops := 0, via := none, body := leBytes 8 node.toNat ++ leBytes 1 0 ++ s.joinKey a ++ leBytes 8 (s.rget a 0x28 8) ++ leBytes 4 (s.rget a 0x30 4) ++ s.reg.mem.read (tabRegistry.at (a - 1) + 0x44) 32 ++ leBytes 4 (s.rget a 0x3C 4) ++ leBytes 4 (s.rget a 0x40 4) }] ∧
      t = { s with fab := { s.fab with queue := t.fab.queue } })) ∧
  (∀ (s : State) (node : BitVec 64), Answers (exec (.regAnswerReceived node none) s) (fun t =>
    (∀ x, x ∈ t.reg.answers ↔ x = { nodeId := node.toNat, lent := none, due := s.base + 32768 * 600 } ∨ (x ∈ s.reg.answers ∧ x.nodeId ≠ node.toNat)) ∧
    t = { s with reg := { s.reg with answers := t.reg.answers } })) ∧
  (∀ s : State, Answers (exec .regAnswerExpiry s) (fun t => (∀ x, x ∈ t.reg.answers ↔ x ∈ s.reg.answers ∧ s.base < x.due) ∧
    t = { s with reg := { s.reg with answers := t.reg.answers } })) ∧
  (∀ (s : State) (node : BitVec 64) (seg : BitVec 16) (m : Nat), s.on (HDR.ENABLE (s.cw.page 0xB)) = true → s.segModule seg.toNat = some m →
    (∀ a, s.findNode node.toNat = some a → s.authorRuns = false ∨ s.entryFlag a 0 = false ∨
      (s.entryState a ≠ 1 ∧ s.entryState a ≠ 2 ∧ s.entryState a ≠ 5)) →
    Answers (exec (.regQueryReceived node seg) s) (fun t =>
      t.fab.queue = s.fab.queue ++ [{ ltype := 0x12, odest := m, osrc := s.get (FABRIC.FAB_ADDR s.cw), hops := 0, via := none, body := leBytes 8 node.toNat ++ leBytes 1 1 }] ∧
      t = { s with fab := { s.fab with queue := t.fab.queue } })) ∧
  (∀ (s : State) (osrc seg : BitVec 16) (node : BitVec 64) (a : Nat), s.findNode node.toNat = some a →
    s.entryState a = 1 ∨ s.entryState a = 2 ∨ s.entryState a = 5 → s.on (HDR.ENABLE (s.cw.page 0xB)) = true →
    Answers (exec (.guestInReceived osrc node seg) s) (fun t => t.entryState a = 5 ∧ t.rget a 0x22 2 = seg.toNat ∧
      t.fab.queue = s.fab.queue ++ [{ ltype := 0x16, odest := osrc.toNat, osrc := s.get (FABRIC.FAB_ADDR s.cw), hops := 0, via := none, body := leBytes 1 0x13 ++ leBytes 8 node.toNat }] ∧
      (∀ x, (x < tabRegistry.at (a - 1) ∨ tabRegistry.at (a - 1) + 128 ≤ x) → t.reg.mem.get x = s.reg.mem.get x) ∧
      t = { s with reg := t.reg, fab := { s.fab with queue := t.fab.queue }, jseq := t.jseq, ring := t.ring })) ∧
  (∀ (s : State) (a : BitVec 16) (since : Nat), s.authorSince = some since → s.entryState a.toNat = 5 → s.rget a.toNat 0x22 2 ≠ 0xFFFF →
    s.get (REGISTRY.RETURN_S s.cw) ≠ 0 → since + 32768 * s.get (REGISTRY.RETURN_S s.cw) ≤ s.base →
    (∀ x ∈ s.fab.repeats, ¬ (x.ltype = 0x14 ∧ x.nodeId = s.nodeId a.toNat)) →
    Answers (exec (.returnRequestDue a) s) (fun t =>
      t.fab.repeats = s.fab.repeats ++ [{ ltype := 0x14, seg := s.rget a.toNat 0x22 2, nodeId := s.nodeId a.toNat, body := leBytes 8 (s.nodeId a.toNat), count := 0, due := s.base + 32768 * 10 }] ∧
      t = { s with regs := t.regs, fab := { s.fab with queue := t.fab.queue, repeats := t.fab.repeats } })) ∧
  (∀ (s : State) (osrc : BitVec 16) (node : BitVec 64) (a : Nat), s.findNode node.toNat = some a →
    (s.entryState a = 6 → Answers (exec (.returnReqReceived osrc node) s) (fun t => t.entryState a = 0 ∧ t.reg.notices.getLast? = some (a, 9) ∧
      (∃ r ∈ t.fab.repeats, r.ltype = 0x15 ∧ r.nodeId = node.toNat ∧ r.seg = s.rget a 0x22 2) ∧
      t = { s with reg := t.reg, fab := t.fab, txn := t.txn, attr := t.attr, keyLeft := t.keyLeft, regs := t.regs, jseq := t.jseq, ring := t.ring })) ∧
    (s.entryState a = 5 → Answers (exec (.returnConfReceived osrc node) s) (fun t => t.entryState a = 5 ∧ t.rget a 0x22 2 = 0xFFFF ∧
      t = { s with reg := t.reg, fab := t.fab, jseq := t.jseq, ring := t.ring }))) ∧
  (∀ s : State, Answers (exec .fabricRepeatTimer s) (fun t =>
    (∀ r ∈ s.fab.repeats, s.base < r.due → r ∈ t.fab.repeats) ∧
    (∀ r ∈ s.fab.repeats, r.due ≤ s.base → r.count + 1 < 30 → { r with count := r.count + 1, due := s.base + 32768 * 10 } ∈ t.fab.repeats) ∧
    (∀ r ∈ t.fab.repeats, r.count < 30 ∨ r ∈ s.fab.repeats) ∧
    t = { s with regs := t.regs, fab := { s.fab with queue := t.fab.queue, repeats := t.fab.repeats } })) ∧
  (∀ (s : State) (ltype : Byte) (node : BitVec 64), Answers (exec (.fabricAckReceived ltype node) s) (fun t =>
    (∀ r, r ∈ t.fab.repeats ↔ r ∈ s.fab.repeats ∧ ¬ (r.ltype = ltype.toNat ∧ r.nodeId = node.toNat)) ∧
    t = { s with fab := { s.fab with repeats := t.fab.repeats } }))

/-! ### The registry's services (R193 to R196, R211) -/

/-- The registry's services (R193 to R196, R211): a pending push that may be tried is submitted; a role and parent found a second time are
applied and pushed; a fault bit active for LAST_S becomes lasting with a notice, windows slide every 6 h, FAULT_ACK clears; a lantern not
heard for SILENT_S is noticed; NOTICE_POP takes the oldest notice away. Where it says more than those rules it follows a choice or a
reading of the model: log entry 76. -/
def Obligations.LanternsArePushedAndWatched : Prop :=
  (∀ (s : State) (a : BitVec 16) (n : Fin 7) (d : Desc) (k : Nat), s.registryRuns = true → s.registered a.toNat = true → s.mayPush a.toNat = true →
    s.pushing a.toNat = false → s.pushDesc a.toNat n.val = some d → s.takesInternal d = true → s.nextSlot? = some k →
    Answers (exec (.pushSend a n) s) (fun t => (t.slot k).state = 1 ∧ (t.slot k).desc = d ∧ (∀ j, j ≠ k → t.slot j = s.slot j) ∧
      t = { s with txn := t.txn, jseq := t.jseq, ring := t.ring })) ∧
  (∀ (s : State) (a : Nat), s.registryRuns = true → s.on (REGISTRY.AUTO_ROLE s.cw) = true → s.reg.roleDue = none → s.registeredList = [a] →
    s.direct a = true → 2 ≤ s.cfgGet (LINK.MAX_TTL .a) →
    (s.lantern a).candidate = some (s.entryFlag a 3, 0) → ((s.lantern a).router, s.parent a) ≠ (s.entryFlag a 3, 0) →
    Answers (exec .roleRecompute s) (fun t => t.parent a = 0 ∧ (t.lantern a).router = s.entryFlag a 3 ∧ (t.lantern a).candidate = none ∧
      t.pendingBit a 0 = true ∧ t.reg.roleDue = some (s.base + 32768 * 900) ∧ t = { s with reg := t.reg, jseq := t.jseq, ring := t.ring })) ∧
  (∀ (s : State) (a : BitVec 16) (n : Fin 7) (d : Desc), s.registryRuns = true → s.registered a.toNat = true → s.mayPush a.toNat = true →
    s.pushing a.toNat = false → s.pushDesc a.toNat n.val = some d → s.takesInternal d = true → s.nextSlot? = none →
    Answers (exec (.pushSend a n) s) (fun t => t.txn = { s.txn with waiting := s.txn.waiting ++ [(d, s.now)] } ∧
      t = { s with txn := t.txn, jseq := t.jseq, ring := t.ring })) ∧
  (∀ s : State, s.registryRuns = true → s.on (REGISTRY.AUTO_ROLE s.cw) = true → (∀ d, s.reg.roleDue = some d → d ≤ s.base) →
    Answers (exec .roleRecompute s) (fun t => t.reg.roleDue = some (s.base + 32768 * 900) ∧
      (∀ a, a ∉ s.registeredList → t.lantern a = s.lantern a) ∧ t = { s with reg := t.reg, jseq := t.jseq, ring := t.ring })) ∧
  (∀ (s : State) (a : BitVec 16) (n : Fin 16) (since : Nat), (s.lantern a.toNat).activeSince.get? n.val = some since → s.registryRuns = true →
    since + 32768 * s.get (REGISTRY.LAST_S s.cw) ≤ s.base → bit (s.rget a.toNat 0x66 2) n.val = false →
    Answers (exec (.faultLastSExpiry a n) s) (fun t =>
      (∀ k < 16, bit (t.rget a.toNat 0x66 2) k = (bit (s.rget a.toNat 0x66 2) k || decide (k = n.val))) ∧
      t.reg.notices.getLast? = some (a.toNat, 1) ∧ t = { s with reg := t.reg, regs := t.regs, log := t.log, jseq := t.jseq, ring := t.ring })) ∧
  (∀ (s : State) (a : Nat) (x : Lantern), s.reg.lanterns = [(a, x)] → s.reg.rotated + 32768 * 21600 ≤ s.base →
    Answers (exec .faultBucketRotate s) (fun t => t.reg.rotated = s.reg.rotated + 32768 * 21600 ∧
      (t.lantern a).faultCounts = x.faultCounts.map (fun c => (c.1, (0 :: c.2).take 4)) ∧
      t = { s with reg := t.reg, regs := t.regs, jseq := t.jseq, ring := t.ring })) ∧
  (∀ (s : State) (m : Master) (w : Wick) (a : BitVec 16), s.MayWrite m (w.page 4) 0x064 → s.isController w = true →
    isLantern a.toNat = true → s.entryState a.toNat ≠ 0 →
    Answers (exec (.faultAck m w a) s) (fun t => t.rget a.toNat 0x66 2 = 0 ∧ (t.lantern a.toNat).faultCounts = [] ∧
      t.entryState a.toNat = s.entryState a.toNat ∧ t = { s with reg := t.reg, jseq := t.jseq, ring := t.ring })) ∧
  (∀ (s : State) (a : BitVec 16), s.registryRuns = true → isLantern a.toNat = true → s.entryState a.toNat = 2 → s.pendingBit a.toNat 5 = false →
    (s.lantern a.toNat).heardBase + 32768 * s.get (REGISTRY.SILENT_S s.cw) ≤ s.base →
    Answers (exec (.notHeardExpiry a) s) (fun t => t.pendingBit a.toNat 5 = true ∧ t.reg.notices.getLast? = some (a.toNat, 3) ∧
      t.entryState a.toNat = 2 ∧ t = { s with reg := t.reg, regs := t.regs, jseq := t.jseq, ring := t.ring })) ∧
  (∀ (s : State) (m : Master) (w : Wick), s.MayWrite m (w.page 4) 0x064 → s.isController w = true →
    Answers (exec (.noticePop m w) s) (fun t => t.reg = { s.reg with notices := s.reg.notices.drop 1 } ∧ t = { s with reg := t.reg, jseq := t.jseq, ring := t.ring })) ∧
  (∀ s : State, s.reg.rotated + 32768 * 21600 ≤ s.base → Answers (exec .faultBucketRotate s) (fun t =>
    t.reg.rotated = s.reg.rotated + 32768 * 21600 ∧
    (s.reg.lanterns.keys.Nodup → ∀ a x, s.reg.lanterns.get? a = some x →
      (t.lantern a).faultCounts = x.faultCounts.map (fun c => (c.1, (0 :: c.2).take 4))) ∧
    t = { s with reg := t.reg, regs := t.regs, jseq := t.jseq, ring := t.ring }))

/-! ### The schedule service (R197 to R204) -/

/-- A day's steps (R199 to R201): the resolution holds the day's steps, one of a program per minute, with those of the next day whose
broadcast or instant comes before it begins, and runs no step again; a step whose lead has come is broadcast once; at its instant its
contactors are set and STEP is raised; once a local day every program's plan is sent. Where it says more than those rules it follows a
choice or a reading of the model: log entries 84, 85. -/
def Obligations.ScheduleResolvesAndRuns : Prop :=
  (∀ s : State, s.schedRuns = true → s.utcOk = true → s.reg.day ≠ some s.localDay →
    Answers (exec .dailyResolution s) (fun t => t.reg.day = some s.localDay ∧
      t.reg.daySteps = ((s.active.programs.flatMap (fun p => s.resolve1 s.active p s.localDay)) ++ s.earlySteps s.active s.localDay).map s.carryStep ∧
      (∀ p, ∀ x ∈ s.resolve1 s.active p s.localDay, x.program = p ∧ x.minute < 1440 ∧
        ∀ y ∈ s.resolve1 s.active p s.localDay, x.minute = y.minute → x = y) ∧
      (∀ x ∈ t.reg.daySteps, x.at_ < s.now → (x.sent = true ∧ x.done = true) ∨
        ∃ y ∈ s.reg.daySteps, y.program = x.program ∧ y.step = x.step ∧ y.at_ = x.at_ ∧ x.sent = y.sent ∧ x.done = y.done) ∧
      t.astroOk s.cw = true ∧ t = { s with reg := t.reg, regs := t.regs, jseq := t.jseq, ring := t.ring })) ∧
  (∀ (s : State) (x : DayStep) (k : Nat), s.schedRuns = true → s.utcOk = true → s.reg.day.isSome = true → s.reg.daySteps = [x] → x.sent = false → x.level ≠ 0xFFFF →
    x.at_ ≤ s.now + 32768 * s.cfgGet (SCHED.LEAD_S .a) → s.now + 32768 ≤ x.at_ → s.on (HDR.ENABLE (s.cw.page 3)) = true → s.nextSlot? = some k →
    Answers (exec .stepBroadcast s) (fun t => t.reg.daySteps = [{ x with sent := true }] ∧ (t.slot k).state = 1 ∧
      (t.slot k).desc = groupCommand .step (s.active.progTarget x.program) 0x02
        (leBytes 2 x.level ++ leBytes 2 (s.active.progFade x.program) ++ leBytes 4 x.at_) 2 0 (x.at_ - 32768) ∧
      (∀ j, j ≠ k → t.slot j = s.slot j) ∧ t = { s with txn := t.txn, reg := t.reg, jseq := t.jseq, ring := t.ring })) ∧
  (∀ (s : State) (x : DayStep), s.schedRuns = true → s.utcOk = true → s.reg.day.isSome = true → s.reg.daySteps = [x] → x.done = false → x.at_ ≤ s.now →
    s.on (SCHED.KO_EN s.cw) = true →
    Answers (exec .stepInstant s) (fun t => t.reg.daySteps = [{ x with done := true }] ∧ (t.get (HDR.IRQ_RAW (s.cw.page 5))).testBit 0 = true ∧
      (∀ n < 4, bit (t.get CABINET_IO.KO_OUT) n =
        (if bit x.ko n = true ∧ bit (s.get CABINET_IO.KO_HOST_MASK) n = false then bit x.ko (4 + n) else bit (s.get CABINET_IO.KO_OUT) n)) ∧
      KeepsRegs s t [CABINET_IO.KO_OUT, HDR.IRQ_RAW (s.cw.page 5)] ∧
      t = { s with reg := t.reg, regs := t.regs, timers := t.timers, jseq := t.jseq, ring := t.ring })) ∧
  (∀ (s : State) (p k : Nat), s.schedRuns = true → s.authorRuns = true → s.utcOk = true → s.reg.refreshed ≠ some s.localDay →
    (s.cfgGet (SCHED.REFRESH_MIN .a) : Int) ≤ s.localMin - 1440 * s.localDay → s.active.programs = [p] → s.nextSlot? = some k →
    s.on (HDR.ENABLE (s.cw.page 3)) = true → s.isAuthor s.cw = true →
    Answers (exec .schedRefresh s) (fun t => t.reg.refreshed = some s.localDay ∧ (t.get (HDR.IRQ_RAW (s.cw.page 5))).testBit 3 = true ∧
      (t.slot k).desc = groupCommand (.refresh p) (s.active.progTarget p) 0x40 (s.schedDays p) 2 0 0 ∧
      (∀ j, j ≠ k → t.slot j = s.slot j) ∧ t = { s with txn := t.txn, reg := t.reg, regs := t.regs, jseq := t.jseq, ring := t.ring })) ∧
  (∀ s : State, s.schedRuns = true → s.utcOk = true → s.reg.day.isSome = true →
    (Answers (exec .stepBroadcast s) (fun t => t.reg = { s.reg with daySteps := s.reg.daySteps.map (fun x =>
        if x.sent = false ∧ x.level ≠ 0xFFFF ∧ x.at_ ≤ s.now + 32768 * s.cfgGet (SCHED.LEAD_S .a) then { x with sent := true } else x) } ∧
      t = { s with txn := t.txn, reg := t.reg, jseq := t.jseq, ring := t.ring })) ∧
    ((∃ x ∈ s.reg.daySteps, x.done = false ∧ x.at_ ≤ s.now) → Answers (exec .stepInstant s) (fun t =>
      t.reg = { s.reg with daySteps := s.reg.daySteps.map (fun x => if x.done = false ∧ x.at_ ≤ s.now then { x with done := true } else x) } ∧
      (t.get (HDR.IRQ_RAW (s.cw.page 5))).testBit 0 = true ∧
      (s.on (SCHED.KO_EN s.cw) = false → KeepsRegs s t [HDR.IRQ_RAW (s.cw.page 5)] ∧ t.timers = s.timers) ∧
      t = { s with reg := t.reg, regs := t.regs, timers := t.timers, jseq := t.jseq, ring := t.ring }))) ∧
  (∀ s : State, s.schedRuns = true → s.authorRuns = true → s.utcOk = true → s.reg.refreshed ≠ some s.localDay →
    (s.cfgGet (SCHED.REFRESH_MIN .a) : Int) ≤ s.localMin - 1440 * s.localDay →
    Answers (exec .schedRefresh s) (fun t => t.reg = { s.reg with refreshed := some s.localDay } ∧
      (t.get (HDR.IRQ_RAW (s.cw.page 5))).testBit 3 = true ∧ KeepsRegs s t [HDR.IRQ_RAW (s.cw.page 5)] ∧
      t = { s with txn := t.txn, reg := t.reg, regs := t.regs, jseq := t.jseq, ring := t.ring }))

/-! ### The wave engine (R213 to R240) -/

/-- Tracks and their waves (R220, R223, R228 to R231, R240): after a periodic plan no LIVE track is overdue; a track whose end has come ends
with its wave; ABORT ends one wave, ABORT_ALL all of them, a cleared ENABLE every track, without hand-off messages. Where it says more
than those rules it follows a choice or a reading of the model: log entries 80, 88, 90. -/
def Obligations.TracksAndWavesEnd : Prop :=
  (∀ s : State, s.waveRuns = true → s.wave.tracks.keys.Nodup → Answers (exec .periodicReplan s) (fun t =>
    (∀ n k, t.wave.tracks.get? n = some k → k.state = 1 → s.wave.tracks.has n = true ∧ s.base < k.nextPlan) ∧
    (∀ n, (∀ k, s.wave.tracks.get? n = some k → k.state ≠ 1 ∨ s.base < k.nextPlan) → t.wave.tracks.get? n = s.wave.tracks.get? n) ∧
    t = { s with wave := t.wave, txn := t.txn, fab := t.fab, log := t.log, regs := t.regs, jseq := t.jseq, ring := t.ring, fresh := t.fresh })) ∧
  (∀ (s : State) (n : Fin 64) (k : Track), s.waveRuns = true → s.wave.tracks.get? n.val = some k → s.trackEndAt k ≤ s.now →
    Answers (exec (.trackEnd n) s) (fun t => t.wave.tracks.get? n.val = none ∧
      (∀ j, j ≠ n.val → t.wave.tracks.get? j = s.wave.tracks.get? j) ∧
      (∀ w, k.wave = some w → t.wave.waves.get? w = none ∧ (t.get (HDR.IRQ_RAW (s.cw.page 6))).testBit 1 = true ∧
        t.log = (s.event s.srcCtl 0x0703 [s.waveId w, k.kind, k.program.getD 0xFF,
          (s.wave.waves.getD w ⟨n.val, k.kind, k.program.getD 0xFF, 0⟩).entries]).log) ∧
      (k.wave = none → t.wave.waves = s.wave.waves ∧ t.log = s.log) ∧ t.txn = s.txn ∧
      t = { s with wave := t.wave, fab := t.fab, log := t.log, regs := t.regs, jseq := t.jseq, ring := t.ring, fresh := t.fresh })) ∧
  (∀ (s : State) (m : Master) (w : Wick) (sel : Fin 32) (restore same : Bool) (x : WaveSlot) (k : Track), s.MayWrite m (w.page 6) 0x058 →
    s.isController w = true → s.wave.waves.get? sel.val = some x → s.wave.tracks.get? x.track = some k → k.wave = some sel.val →
    Answers (exec (.waveAbort m w sel restore same) s) (fun t =>
      t.get (WAVE.WAVE_CMD_STATUS w) = (if same = true then 2 else 1) ∧ t.wave.waves.get? sel.val = none ∧ t.wave.tracks.get? x.track = none ∧
      (∀ j, j ≠ sel.val → t.wave.waves.get? j = s.wave.waves.get? j) ∧
      (same = false → (t.get (HDR.IRQ_RAW (w.page 6))).testBit 5 = true) ∧ (restore = false ∨ same = true → t.txn = s.txn) ∧
      t = { s with wave := t.wave, txn := t.txn, fab := t.fab, log := t.log, regs := t.regs, jseq := t.jseq, ring := t.ring, fresh := t.fresh })) ∧
  (∀ (s : State) (m : Master) (w : Wick) (sel : Fin 32) (restore same : Bool), s.MayWrite m (w.page 6) 0x058 → s.isController w = true →
    s.wave.waves.get? sel.val = none → Answers (exec (.waveAbort m w sel restore same) s) (fun t =>
      t.get (WAVE.WAVE_CMD_STATUS w) = 3 ∧ KeepsRegs s t [WAVE.WAVE_CMD_STATUS w] ∧ t = { s with regs := t.regs })) ∧
  (∀ (s : State) (m : Master) (w : Wick) (restore : Bool) (same : List (Fin 32)), s.MayWrite m (w.page 6) 0x058 → s.isController w = true →
    s.wave.waves ≠ [] → s.wave.waves.keys.Nodup →
    (∀ j x, s.wave.waves.get? j = some x → ∃ k, s.wave.tracks.get? x.track = some k ∧ k.wave = some j) →
    Answers (exec (.waveAbortAll m w restore same) s) (fun t =>
      t.get (WAVE.WAVE_CMD_STATUS w) = (if ∀ j ∈ s.wave.waves.keys, ∃ x ∈ same, x.val = j then 2 else 1) ∧
      (t.get (WAVE.WAVE_CMD_STATUS w) = 1 → (t.get (HDR.IRQ_RAW (w.page 6))).testBit 5 = true) ∧ (∀ j, t.wave.waves.get? j = none) ∧
      (restore = false → t.txn = s.txn) ∧
      t = { s with wave := t.wave, txn := t.txn, fab := t.fab, log := t.log, regs := t.regs, jseq := t.jseq, ring := t.ring, fresh := t.fresh })) ∧
  (∀ (s : State) (m : Master) (w : Wick) (restore : Bool) (same : List (Fin 32)), s.MayWrite m (w.page 6) 0x058 → s.isController w = true →
    s.wave.waves = [] → Answers (exec (.waveAbortAll m w restore same) s) (fun t =>
      t.get (WAVE.WAVE_CMD_STATUS w) = 3 ∧ KeepsRegs s t [WAVE.WAVE_CMD_STATUS w] ∧ t = { s with regs := t.regs })) ∧
  (∀ (s : State) (m : Master) (w : Wick), s.MayWrite m (w.page 6) 0x008 → s.isController w = true →
    Answers (exec (.waveDisable m w) s) (fun t => t.on (HDR.ENABLE (w.page 6)) = false ∧ (∀ n, t.wave.tracks.get? n = none) ∧ t.wave.preSet = [] ∧
      t = { s with wave := t.wave, log := t.log, regs := t.regs, journal := t.journal, jseq := t.jseq, ring := t.ring })) ∧
  (∀ (s : State) (m : Master) (w : Wick) (sel : Fin 32) (restore same : Bool) (x : WaveSlot), s.MayWrite m (w.page 6) 0x058 →
    s.isController w = true → s.wave.waves.get? sel.val = some x → Answers (exec (.waveAbort m w sel restore same) s) (fun t =>
      t.get (WAVE.WAVE_CMD_STATUS w) = (if same = true then 2 else 1) ∧ t.wave.tracks.get? x.track = none ∧
      (same = false → (t.get (HDR.IRQ_RAW (w.page 6))).testBit 5 = true))) ∧
  (∀ (s : State) (m : Master) (w : Wick) (restore : Bool) (same : List (Fin 32)), s.MayWrite m (w.page 6) 0x058 → s.isController w = true →
    s.wave.waves ≠ [] → Answers (exec (.waveAbortAll m w restore same) s) (fun t =>
      (t.get (WAVE.WAVE_CMD_STATUS w) = 1 ∧ (t.get (HDR.IRQ_RAW (w.page 6))).testBit 5 = true) ∨
      (t.get (WAVE.WAVE_CMD_STATUS w) = 2 ∧ same ≠ [] ∧ t.wave.waves = [])))

/-- Detections and hand-offs taken in (R217, R220, R231 to R233): an injected detection at a node where nothing is tracked starts track 0; a
stale one only counts; a hand-off message that may be taken starts a PROVISIONAL track; one that may not is counted. Where it says more
than those rules it follows a choice or a reading of the model: log entry 88. -/
def Obligations.InjectionsAndHandoffsStartTracks : Prop :=
  (∀ (s : State) (m : Master) (w : Wick),
    let node := s.get (WAVE.INJ_NODE w)
    let at_ := s.get2 (WAVE.INJ_TIME_LO w) (WAVE.INJ_TIME_HI w)
    s.MayWrite m (w.page 6) 0x058 → s.isAuthor w = true → s.cw = w → s.waveRuns = true → node < s.active.nNodes → s.wave.tracks = [] →
    at_ ≤ s.now → s.now - at_ ≤ msTicks (s.get (WAVE.DET_MAX_AGE_MS w)) → s.active.nodeNoStart node = false →
    s.get (WAVE.MIN_CONF w) ≤ s.get (WAVE.INJ_CONF w) → s.chooseProgram (s.get (WAVE.INJ_KIND w)) node = none →
    Answers (exec (.inject m w) s) (fun t => t.get (WAVE.WAVE_CMD_STATUS w) = 0 ∧
      (∃ k, t.wave.tracks = [(0, k)] ∧ k.state = 1 ∧ k.kind = s.get (WAVE.INJ_KIND w) ∧ k.node = node ∧ k.t = at_ ∧ k.dets = 1 ∧ k.wave = none ∧
        k.speed = (if s.get (WAVE.INJ_SPEED w) = 0xFF then defaultSpeed k.kind else (s.get (WAVE.INJ_SPEED w) : Rat) / 2)) ∧
      t.get (WAVE.DET_CNT w) = min (s.get (WAVE.DET_CNT w) + 1) (2 ^ (WAVE.DET_CNT w).width - 1) ∧
      t.get (WAVE.TRACK_NEW_CNT w) = min (s.get (WAVE.TRACK_NEW_CNT w) + 1) (2 ^ (WAVE.TRACK_NEW_CNT w).width - 1) ∧
      KeepsRegs s t [WAVE.WAVE_CMD_STATUS w, WAVE.DET_CNT w, WAVE.TRACK_NEW_CNT w] ∧
      t = { s with wave := t.wave, regs := t.regs, jseq := t.jseq, ring := t.ring })) ∧
  (∀ (s : State) (m : Master) (w : Wick),
    s.MayWrite m (w.page 6) 0x058 → s.isAuthor w = true → s.cw = w → s.waveRuns = true → s.get (WAVE.INJ_NODE w) < s.active.nNodes →
    s.now < s.get2 (WAVE.INJ_TIME_LO w) (WAVE.INJ_TIME_HI w) →
    Answers (exec (.inject m w) s) (fun t => t.get (WAVE.WAVE_CMD_STATUS w) = 0 ∧ t.wave.tracks = s.wave.tracks ∧
      t.get (WAVE.DET_STALE_CNT w) = min (s.get (WAVE.DET_STALE_CNT w) + 1) (2 ^ (WAVE.DET_STALE_CNT w).width - 1) ∧
      KeepsRegs s t [WAVE.WAVE_CMD_STATUS w, WAVE.DET_CNT w, WAVE.DET_STALE_CNT w] ∧ t = { s with wave := t.wave, regs := t.regs, jseq := t.jseq, ring := t.ring })) ∧
  (∀ (s : State) (seg : BitVec 16) (id flags : Byte) (node : BitVec 16) (kind : Byte) (cms : BitVec 16) (tArr : BitVec 48) (n : Nat),
    s.handoffRefused node.toNat kind.toNat = false → bit flags.toNat 1 = false →
    s.wave.tracks.find? (fun c => c.2.src = some (seg.toNat, id.toNat)) = none → (List.range 64).find? (fun n => !s.wave.tracks.has n) = some n →
    Answers (exec (.waveHandoffReceived seg id flags node kind cms tArr) s) (fun t =>
      (∃ k, t.wave.tracks.get? n = some k ∧ k.state = 2 ∧ k.kind = kind.toNat ∧ k.node = node.toNat ∧ k.speed = (cms.toNat : Rat) / 100 ∧
        k.t = tArr.toNat ∧ k.src = some (seg.toNat, id.toNat) ∧ k.program = s.chooseProgram kind.toNat node.toNat) ∧
      t.get (WAVE.HANDOFF_IN_CNT s.cw) = min (s.get (WAVE.HANDOFF_IN_CNT s.cw) + 1) (2 ^ (WAVE.HANDOFF_IN_CNT s.cw).width - 1) ∧
      t = { s with wave := t.wave, txn := t.txn, fab := t.fab, log := t.log, regs := t.regs, jseq := t.jseq, ring := t.ring, fresh := t.fresh })) ∧
  (∀ (s : State) (seg : BitVec 16) (id flags : Byte) (node : BitVec 16) (kind : Byte) (cms : BitVec 16) (tArr : BitVec 48),
    s.handoffRefused node.toNat kind.toNat = true →
    Answers (exec (.waveHandoffReceived seg id flags node kind cms tArr) s) (fun t =>
      t.get (WAVE.HANDOFF_REFUSED_CNT s.cw) = min (s.get (WAVE.HANDOFF_REFUSED_CNT s.cw) + 1) (2 ^ (WAVE.HANDOFF_REFUSED_CNT s.cw).width - 1) ∧
      (t.get (HDR.IRQ_RAW (s.cw.page 6))).testBit 4 = true ∧
      KeepsRegs s t [WAVE.HANDOFF_REFUSED_CNT s.cw, HDR.IRQ_RAW (s.cw.page 6)] ∧ t = { s with regs := t.regs })) ∧
  (∀ (s : State) (m : Master) (w : Wick),
    let d : Detection := { source := .inr (s.get (WAVE.INJ_NODE w)), kind := s.get (WAVE.INJ_KIND w), bearing := s.get (WAVE.INJ_BEARING w)
                           speed := s.get (WAVE.INJ_SPEED w), conf := s.get (WAVE.INJ_CONF w), time := 0 }
    s.MayWrite m (w.page 6) 0x058 → s.isController w = true →
    (s.isAuthor w = true → s.waveRuns = true → s.get (WAVE.INJ_NODE w) < s.active.nNodes → Answers (exec (.inject m w) s) (fun t =>
      t.get (WAVE.WAVE_CMD_STATUS w) = 0 ∧ t = (s.intakeAt d (s.get2 (WAVE.INJ_TIME_LO w) (WAVE.INJ_TIME_HI w))).set (WAVE.WAVE_CMD_STATUS w) 0)) ∧
    (s.isAuthor w = false ∨ s.waveRuns = false ∨ s.active.nNodes ≤ s.get (WAVE.INJ_NODE w) → Answers (exec (.inject m w) s) (fun t =>
      t.get (WAVE.WAVE_CMD_STATUS w) = 4 ∧ KeepsRegs s t [WAVE.WAVE_CMD_STATUS w] ∧ t = { s with regs := t.regs }))) ∧
  (∀ (s : State) (seg : BitVec 16) (id flags : Byte) (node : BitVec 16) (kind : Byte) (cms : BitVec 16) (tArr : BitVec 48) (n : Nat) (k : Track),
    s.handoffRefused node.toNat kind.toNat = false → s.wave.tracks.find? (fun c => c.2.src = some (seg.toNat, id.toNat)) = some (n, k) →
    s.wave.tracks.get? n = some k → k.state = 2 →
    (bit flags.toNat 1 = true → Answers (exec (.waveHandoffReceived seg id flags node kind cms tArr) s) (fun t =>
      t.wave.tracks.get? n = none ∧ (∀ j, j ≠ n → t.wave.tracks.get? j = s.wave.tracks.get? j) ∧ t.txn = s.txn)) ∧
    (bit flags.toNat 1 = false → bit flags.toNat 0 = true → Answers (exec (.waveHandoffReceived seg id flags node kind cms tArr) s) (fun t =>
      ∃ y, t.wave.tracks.get? n = some y ∧ y.state = 2 ∧ y.t = tArr.toNat ∧ y.speed = (cms.toNat : Rat) / 100)))

/-- Holds, profiles and pre-brightening (R226, R234 to R236): a KEEP_AWAKE program's hold is broadcast every 300 s; a local hour's counts
become the newest block of the AUTHOR's history and reach the standby; lanterns whose profile rate suffices are set for a quarter hour.
Where it says more than those rules it follows a choice or a reading of the model: log entries 91, 92, 93. -/
def Obligations.ProfilesAndPreBrightening : Prop :=
  (∀ (s : State) (p : Fin 64) (k : Nat), s.waveRuns = true → s.isAuthor s.cw = true → s.on (HDR.ENABLE (s.cw.page 3)) = true →
    s.active.wflag p.val 0 = true → s.active.wflag p.val 4 = true → s.windowOpen p.val = true →
    (∀ x, s.wave.holds.get? p.val = some x → x + 32768 * 300 ≤ s.base) → s.nextSlot? = some k →
    Answers (exec (.keepAwakeHold p) s) (fun t => t.wave = { s.wave with holds := s.wave.holds.put p.val s.base } ∧ (t.slot k).state = 1 ∧
      (t.slot k).desc = groupCommand .hold (s.active.wtarget p.val) 0x03 (leBytes 2 600) 2 0 0 ∧ (∀ j, j ≠ k → t.slot j = s.slot j) ∧
      t = { s with wave := t.wave, txn := t.txn, jseq := t.jseq, ring := t.ring })) ∧
  (∀ (s : State) (w : Wick) (h : Int), s.author = some w → s.wave.openHour.getD (s.localMin / 60 - 1) = h → h ≠ s.localMin / 60 →
    Answers (exec .profileHourClose s) (fun t => t.wave.openHour = some (s.localMin / 60) ∧ t.wave.counts = [] ∧ t.wave.ran = s.waveRuns ∧
      t.history w = (absentBlocks h (s.localMin / 60) ++ { hour := h, present := s.wave.ran || s.waveRuns, counts := if s.wave.ran || s.waveRuns then s.wave.counts else [] } :: s.history w).take 384 ∧
      t.history w.other = s.history w.other ∧
      (t.wave.ready = true ↔ s.wave.ready = true ∨ 168 ≤ t.histHours w) ∧ KeepsRegs s t [HDR.IRQ_RAW (w.page 6)] ∧
      t = { s with wave := t.wave, regs := t.regs, jseq := t.jseq, ring := t.ring })) ∧
  (∀ (s : State) (w : Wick), s.author = some w → s.pdOn 1 = true → Answers (exec .profileBlockCopy s) (fun t =>
    t.history w.other = s.history w ∧ t.history w = s.history w ∧ t = { s with wave := { s.wave with history := t.wave.history, profGen := t.wave.profGen } })) ∧
  (∀ s : State,
    let q := (s.localSec + (s.get (WAVE.PRE_LEAD_S s.cw) : Int)) / 900
    s.mayPreBrighten = true → s.localSec < 900 * q → s.wave.preDone ≠ some q →
    Answers (exec .preBrighten s) (fun t => t.wave.preDone = some q ∧ t.wave.preMinute = s.localMin ∧
      (∀ x ∈ t.wave.preSet, s.registered x.1 = true ∧ s.active.wflag x.2.1 3 = true ∧ s.active.names (s.active.wtarget x.2.1) x.1 = true ∧
        x.2.2 = s.active.wprog x.2.1 20 2 ∧ s.predicted x.1 (s.quarterAt q) < x.2.2 ∧ ∃ n, n < s.active.nNodes ∧ s.active.nodeLantern n = x.1 ∧
          s.active.wprog x.2.1 22 1 ≤ s.profileRate s.cw n (q % 96).toNat) ∧
      t = { s with wave := t.wave, txn := t.txn, regs := t.regs, jseq := t.jseq, ring := t.ring })) ∧
  (∀ (s : State) (a p level k : Nat) (e : LastEntry),
    let tt := s.quarterAt (s.localSec / 900)
    s.mayPreBrighten = true → s.wave.preDone = some (s.localSec / 900) → s.wave.preMinute ≠ s.localMin → s.wave.preSet = [(a, p, level)] →
    s.lastEntry a = some e → e.wave < 0x80 → e.until_ ≤ s.now → s.isAuthor s.cw = true → s.on (HDR.ENABLE (s.cw.page 3)) = true → s.nextSlot? = some k →
    Answers (exec .preBrightenResend s) (fun t => t.wave.preMinute = s.localMin ∧ t.wave.preSet = s.wave.preSet ∧
      t.wave.queued = s.wave.queued ++ [(a, { wave := 0x80, program := p, level := level, tt := tt, until_ := tt + 32768 * 900 })] ∧
      t.lastEntry a = some { wave := 0x80, program := p, level := level, tt := tt, until_ := tt + 32768 * 900 } ∧
      t.wave.last = s.wave.last ∧ (t.slot k).state = 1 ∧
      (t.slot k).desc.purpose = .wave 0x80 ∧ (t.slot k).desc.ty = 5 ∧ (t.slot k).desc.dest = s.active.wtarget p ∧ (∀ j, j ≠ k → t.slot j = s.slot j) ∧
      t = { s with wave := t.wave, txn := t.txn, jseq := t.jseq, ring := t.ring })) ∧
  (∀ (s : State) (p : Fin 64), s.waveRuns = true → s.active.wflag p.val 0 = true → s.active.wflag p.val 4 = true → s.windowOpen p.val = true →
    (∀ x, s.wave.holds.get? p.val = some x → x + 32768 * 300 ≤ s.base) →
    Answers (exec (.keepAwakeHold p) s) (fun t => t.wave = { s.wave with holds := s.wave.holds.put p.val s.base } ∧
      t.txn = (s.submit (groupCommand .hold (s.active.wtarget p.val) 0x03 (leBytes 2 600) 2 0 0)).txn ∧
      t = { s with wave := t.wave, txn := t.txn, jseq := t.jseq, ring := t.ring })) ∧
  (∀ s : State, s.mayPreBrighten = true → s.wave.preDone = some (s.localSec / 900) → s.wave.preMinute ≠ s.localMin →
    Answers (exec .preBrightenResend s) (fun t => t.wave.preMinute = s.localMin ∧ t.wave.preSet = s.wave.preSet ∧
      t.wave.preDone = s.wave.preDone ∧ t.wave.tracks = s.wave.tracks ∧ t.wave.last = s.wave.last ∧
      t = { s with wave := t.wave, txn := t.txn, regs := t.regs, jseq := t.jseq, ring := t.ring }))

/-! ### Feeder metering (R242 to R275, R322, R323, R458) -/

/-- Metering domains (R246, R249, R263, R269 to R272, R458): ENABLE powers one, its FLL's lock starts it from its newest save or checkpoint; a
cleared ENABLE freezes it for its stop save, after which it is off; a due checkpoint is written or counted as failed. Where it says more
than those rules it follows a choice or a reading of the model: log entries 2, 102. -/
def Obligations.MeteringDomainsStartAndStop : Prop :=
  (∀ (s : State) (m : Master) (w : Wick), s.acts m = true → s.meterCtrlCodes m w = [] →
    (s.on (HDR.RUNNING (w.page 7)) = false → s.saving = false → s.on PWR.XTAL_OK = true →
      Answers (exec (.meterEnable m w) s) (fun t => t.on (HDR.ENABLE (w.page 7)) = true ∧ t.pdOn (meterPd w) = true ∧
        KeepsRegs s t [HDR.ENABLE (w.page 7), PWR.PD_ON, PWR.PD_SLEEP] ∧ t = { s with regs := t.regs })) ∧
    (s.on (HDR.RUNNING (w.page 7)) = true ∨ s.saving = true ∨ s.on PWR.XTAL_OK = false → Answers (exec (.meterEnable m w) s) (fun t => t.on (HDR.ENABLE (w.page 7)) = true ∧
        KeepsRegs s t [HDR.ENABLE (w.page 7)] ∧ t = { s with regs := t.regs })) ∧
    (s.measures w = true → Answers (exec (.meterDisable m w) s) (fun t => t.on (HDR.ENABLE (w.page 7)) = false ∧ (t.dom w).frozen = true ∧
        (∃ x, (t.dom w).stopping = some x ∧ x.seq = (s.dom w).ckptSeq + 1 ∧ x.acc = (t.dom w).acc ∧ x.index = (t.dom w).index ∧ x.bounds = none) ∧
        t = { s with meter := t.meter, regs := t.regs, log := t.log })) ∧
    (s.on (HDR.RUNNING (w.page 7)) = true → s.measures w = false → Answers (exec (.meterDisable m w) s) (fun t =>
        t.on (HDR.ENABLE (w.page 7)) = false ∧ KeepsRegs s t [HDR.ENABLE (w.page 7)] ∧ t = { s with regs := t.regs })) ∧
    (s.on (HDR.RUNNING (w.page 7)) = false → Answers (exec (.meterDisable m w) s) (fun t => t.on (HDR.ENABLE (w.page 7)) = false ∧
        t.pdOn (meterPd w) = false ∧ (t.dom w).acc = (s.dom w).acc ∧
        t = { s with meter := t.meter, regs := t.regs, timers := t.timers, fifos := t.fifos }))) ∧
  (∀ (s : State) (w : Wick) (x : Saved), s.on (HDR.RUNNING (w.page 7)) = true → (s.dom w).frozen = true → s.saving = false →
    (s.dom w).stopping = some x → Answers (exec (.stopSaveDone w) s) (fun t =>
      t.dom w = { s.dom w with saved := some x, ckptSeq := x.seq, stopping := none, frozen := false } ∧ t.dom w.other = s.dom w.other ∧
      t.on (HDR.RUNNING (w.page 7)) = false ∧ t.pdOn (meterPd w) = (s.on (HDR.ENABLE (w.page 7)) && s.on PWR.XTAL_OK) ∧
      KeepsRegs s t [HDR.RUNNING (w.page 7), HDR.RUNNING (w.page 8), PWR.PD_ON, PWR.PD_SLEEP, STREAM.DROP_CNT 2, HDR.IRQ_RAW 5] ∧
      t = { s with meter := t.meter, regs := t.regs, timers := t.timers, fifos := t.fifos })) ∧
  (∀ (s : State) (w : Wick), s.pdOn (meterPd w) = true → s.on (HDR.RUNNING (w.page 7)) = false → s.on (HDR.ENABLE (w.page 7)) = true → s.saving = false →
    Answers (exec (.meterDomainRunning w) s) (fun t => t.on (HDR.RUNNING (w.page 7)) = true ∧ t.on (HDR.RUNNING (w.page 8)) = true ∧
      t.on (METER.FLL_LOCK w) = true ∧ t.timers.get? (tmCkpt w) = some (s.base + 32768) ∧ (t.dom w).index.isSome = true ∧
      (∀ x, (s.dom w).newest = some (x, true) → t.get (METER.LAST_START w) = 1 ∧ (t.dom w).acc = x.acc) ∧
      (∀ x, (s.dom w).newest = some (x, false) → t.get (METER.LAST_START w) = 2 ∧ (t.dom w).acc = x.acc ∧
        (t.get (HDR.IRQ_RAW (w.page 7))).testBit 7 = true) ∧
      ((s.dom w).newest = none → (t.dom w).acc = [] ∧ ((s.dom w).record = true → t.get (METER.LAST_START w) = 3)) ∧
      t = { s with meter := t.meter, regs := t.regs, timers := t.timers, log := t.log })) ∧
  (∀ (s : State) (w : Wick), (s.on (METER.FLL_LOCK w) = true → Answers (exec (.fllLossOfLock w) s) (fun t => t.on (METER.FLL_LOCK w) = false ∧
      (t.dom w).flags.testBit 4 = true ∧ (t.dom w).secFlags.testBit 4 = true ∧ (t.dom w).acc = (s.dom w).acc ∧ t.dom w.other = s.dom w.other ∧
      KeepsRegs s t [METER.FLL_LOCK w] ∧ t = { s with meter := t.meter, regs := t.regs })) ∧
    (s.on (HDR.RUNNING (w.page 7)) = true → Answers (exec (.fllRelock w) s) (fun t => t.on (METER.FLL_LOCK w) = true ∧
      KeepsRegs s t [METER.FLL_LOCK w] ∧ t = { s with regs := t.regs }))) ∧
  (∀ (s : State) (w : Wick) (finished : Bool), s.measures w = true → s.saving = false → s.due (tmCkpt w) = true →
    Answers (exec (.meterCheckpoint w finished) s) (fun t => t.timers.get? (tmCkpt w) = some (s.base + 32768) ∧
      (finished = true → (t.dom w).ckptSeq = (s.dom w).ckptSeq + 1 ∧ (∃ x, (t.dom w).ckpts.head? = some x ∧ x.seq = (s.dom w).ckptSeq + 1 ∧
        x.acc = (t.dom w).acc) ∧ (t.dom w).ckpts.length ≤ 2) ∧
      (finished = false → (t.dom w).ckpts = (s.dom w).ckpts ∧
        t.get (METER.CKPT_FAIL_CNT w) = min (s.get (METER.CKPT_FAIL_CNT w) + 1) 0xFFFF) ∧
      t = { s with meter := t.meter, regs := t.regs, timers := t.timers, log := t.log }))

/-- Metering settings (R245, R247, R248, R250, R268): a common field lands on both pages unless SEAL holds it, a trim on its own page; SEAL
stays set and cancels a pending clear; ACC_CLEAR is refused under SEAL and while either domain is off, and otherwise pends on both. Where
it says more than those rules it follows a choice or a reading of the model: log entries 101, 102. -/
def Obligations.MeteringSettingsObeyTheSeal : Prop :=
  (∀ (s : State) (m : Master) (w : Wick) (harm : Bool) (off : BitVec 12) (v : Word),
    let pos := if harm = true then 8 else 7
    let o := off.toNat / 4 * 4
    s.MayWrite m (w.page pos) o → Answers (exec (.commonFieldWrite m w harm off v) s) (fun t =>
      (∀ f ∈ commonFields pos o, (s.on (METER.SEAL .a) && sealedField f) = false → ∀ x, t.get (f.onWick x) = s.meterStored f (bits v.toNat f.lo f.width) % 2 ^ f.width) ∧
      (∀ f ∈ commonFields pos o, s.on (METER.SEAL .a) = true → sealedField f = true →
        (∀ x, t.get (f.onWick x) = s.get (f.onWick x)) ∧
        (s.meterStored f (bits v.toNat f.lo f.width) ≠ s.get f → t.get (HDR.ERR_COUNT (w.page pos)) = min (s.get (HDR.ERR_COUNT (w.page pos)) + 1) 0xFFFF)) ∧
      KeepsRegs s t ((commonFields pos o).map (·.onWick .a) ++ (commonFields pos o).map (·.onWick .b) ++
        [HDR.ERR_COUNT (w.page pos), HDR.ERR_FIRST (w.page pos), EVLOG.QUEUE_LOST_CNT, HDR.IRQ_RAW 6]) ∧
      t = { s with regs := t.regs, meter := t.meter, log := t.log })) ∧
  (∀ (s : State) (m : Master) (w : Wick) (off : BitVec 12) (v : Word) (f : Field),
    let x := if f.width = 23 then clampTo 0x300000 0x500000 (v.toNat % 2 ^ 23) else f.stored v.toNat
    s.MayWrite m (w.page 7) (off.toNat / 4 * 4) → trimField w (off.toNat / 4 * 4) = some f →
    (s.on (METER.SEAL w) = false → Answers (exec (.trimWrite m w off v) s) (fun t => t.get f = x % 2 ^ f.width ∧ t.on (METER.CAL_DEFAULT w) = false ∧
      KeepsRegs s t [f, METER.CAL_DEFAULT w, EVLOG.QUEUE_LOST_CNT, HDR.IRQ_RAW 6] ∧ t = { s with regs := t.regs, log := t.log })) ∧
    (s.on (METER.SEAL w) = true → x ≠ s.get f → Answers (exec (.trimWrite m w off v) s) (fun t =>
      t.get (HDR.ERR_COUNT (w.page 7)) = min (s.get (HDR.ERR_COUNT (w.page 7)) + 1) 0xFFFF ∧
      KeepsRegs s t [HDR.ERR_COUNT (w.page 7), HDR.ERR_FIRST (w.page 7)] ∧ t = { s with regs := t.regs }))) ∧
  (∀ (s : State) (m : Master) (w : Wick), s.acts m = true → s.meterCtrlCodes m w = [] →
    (s.on (METER.SEAL w) = false → Answers (exec (.seal m w) s) (fun t =>
      (∀ x, t.on (METER.SEAL x) = true ∧ t.on (METER.ACC_CLEAR_PEND x) = false) ∧ t.log = (s.event (srcMeter w) 0x0502 []).log ∧
      KeepsRegs s t [METER.SEAL .a, METER.SEAL .b, METER.ACC_CLEAR_PEND .a, METER.ACC_CLEAR_PEND .b, EVLOG.QUEUE_LOST_CNT, HDR.IRQ_RAW 6] ∧
      t = { s with regs := t.regs, log := t.log })) ∧
    (s.on (METER.SEAL w) = true → exec (.seal m w) s = .next s)) ∧
  (∀ (s : State) (m : Master) (w : Wick), s.MayWrite m (w.page 7) 0x048 →
    (s.on (METER.SEAL w) = true → Answers (exec (.accClear m w) s) (fun t => t.get (METER.CMD_STATUS w) = 1 ∧
      t.get (HDR.ERR_COUNT (w.page 7)) = min (s.get (HDR.ERR_COUNT (w.page 7)) + 1) 0xFFFF ∧
      KeepsRegs s t [METER.CMD_STATUS w, HDR.ERR_COUNT (w.page 7), HDR.ERR_FIRST (w.page 7)] ∧ t = { s with regs := t.regs })) ∧
    (s.on (METER.SEAL w) = false → (∃ x : Wick, s.on (HDR.RUNNING (x.page 7)) = false) → Answers (exec (.accClear m w) s) (fun t =>
      t.get (METER.CMD_STATUS w) = 2 ∧ KeepsRegs s t [METER.CMD_STATUS w] ∧ t = { s with regs := t.regs })) ∧
    (s.on (METER.SEAL w) = false → (∀ x : Wick, s.on (HDR.RUNNING (x.page 7)) = true) → Answers (exec (.accClear m w) s) (fun t =>
      t.get (METER.CMD_STATUS w) = 0 ∧ (∀ x, t.on (METER.ACC_CLEAR_PEND x) = true) ∧
      KeepsRegs s t [METER.CMD_STATUS w, METER.ACC_CLEAR_PEND .a, METER.ACC_CLEAR_PEND .b] ∧ t = { s with regs := t.regs })))

/-- What metering measures (R243, R249, R252 to R257, R264, R268, R322, R323): a power sample's energy is booked by direction and quadrant;
seconds and intervals close; overload and settling begin and end; the two wicks are compared. Where it says more than those rules it
follows a choice or a reading of the model: log entries 2, 10, 95, 100, 103. -/
def Obligations.MetersBookAndCompare : Prop :=
  (∀ (s : State) (w : Wick) (x : Fin 4) (l : List (List Sample)),
    let r := s.rollMeter
    s.measures w = true → r.measures w = true → r.dividesAt w x.val (r.instants w x.val (r.dom w).filt l).1 = false →
    exec (.powerSampleClose w x l) s = .next r) ∧
  (∀ (s : State) (w : Wick) (x : Fin 4) (l : List (List Sample)),
    let r := s.rollMeter
    s.measures w = true → r.measures w = true → r.dividesAt w x.val (r.instants w x.val (r.dom w).filt l).1 = true →
    let all : List Primary := (r.instants w x.val (r.dom w).filt l).1.flatten
    let sumP : Int := (all.map (fun a => a.v * a.i)).sum
    let sumQ : Int := (all.map (fun a => a.v90 * a.i)).sum
    let creep := r.common METER.CREEP_MW * 1000000000 * l.length * (if x.val = 3 then r.phases.length else 1)
    let p := if sumP.natAbs < creep then 0 else sumP
    let q := if sumQ.natAbs < creep then 0 else sumQ
    let dir := if 0 ≤ p then 0 else 1
    let quad := if 0 ≤ p then (if 0 ≤ q then 2 else 5) else (if 0 ≤ q then 3 else 4)
    let old := fun (k : Nat) => (r.dom w).acc.getD (6 * x.val + k) 0
    Answers (exec (.powerSampleClose w x l) s) (fun t =>
      (t.dom w).acc.getD (6 * x.val + dir) 0 = (old dir + energyUnits p.natAbs) % 2 ^ 96 ∧
      (t.dom w).acc.getD (6 * x.val + quad) 0 = (old quad + energyUnits q.natAbs) % 2 ^ 96 ∧
      (∀ k, k ≠ 6 * x.val + dir → k ≠ 6 * x.val + quad → (t.dom w).acc.get? k = (r.dom w).acc.get? k) ∧
      (t.dom w).secP.getD x.val 0 = (r.dom w).secP.getD x.val 0 + p ∧ (t.dom w).secQ.getD x.val 0 = (r.dom w).secQ.getD x.val 0 + q ∧
      (t.dom w).filt = (r.instants w x.val (r.dom w).filt l).2 ∧ t.dom w.other = r.dom w.other ∧
      t = { r with meter := t.meter, regs := t.regs, log := t.log })) ∧
  (∀ (s : State) (w : Wick), s.measures w = true → (s.dom w).second < s.now / 32768 → Answers (exec (.perSecondClose w) s) (fun t =>
    (t.dom w).second = s.now / 32768 ∧ (t.dom w).series = (s.formSeries w :: (s.dom w).series).take 120 ∧ (t.dom w).acc = (s.dom w).acc ∧
    (∀ g < 3, t.get (METER.P_1S_MW w g) = ofSigned 32 ((s.formSeries w).p.getD g 0) % 2 ^ 32 ∧
      t.get (METER.E_1S_MWH w g) = (s.formSeries w).e.getD g 0 % 2 ^ 32) ∧
    t.get (METER.SEC_LO w) = (s.dom w).second % 2 ^ 32 ∧ t.dom w.other = s.dom w.other ∧ t = { s with meter := t.meter, regs := t.regs, log := t.log })) ∧
  (∀ s : State, (∃ w, s.intervalOver w = true) → Answers (exec .intervalClose s) (fun t =>
    (∀ w, s.intervalOver w = true → (t.dom w).index = some (intervalIndex s.now t.meter.lenMin) ∧ (t.dom w).len = t.meter.lenMin ∧
      (t.dom w).covered = 0 ∧ (∀ i, (s.dom w).index = some i → (t.dom w).ring.head?.map Prod.fst = some i ∧ (t.get (HDR.IRQ_RAW (w.page 7))).testBit 0 = true)) ∧
    (s.on (METER.ACC_CLEAR_PEND .a) = true → ∀ w, (t.dom w).acc = [] ∧ t.on (METER.ACC_CLEAR_PEND w) = false) ∧
    (s.on (METER.ACC_CLEAR_PEND .a) = false → ∀ w, (t.dom w).acc = (s.dom w).acc) ∧
    t = { s with meter := t.meter, regs := t.regs, log := t.log })) ∧
  (∀ (s : State) (w : Wick) (ch : Fin 8), s.measures w = true → Answers (exec (.sampleClip w ch) s) (fun t =>
    (t.dom w).clip.get? ch.val = some s.base ∧ (t.dom w).flags.testBit 1 = true ∧
    ((s.dom w).clip.has ch.val = false → t.get (METER.OVERLOAD_CNT w) = min (s.get (METER.OVERLOAD_CNT w) + 1) 0xFFFF ∧
      (t.get (HDR.IRQ_RAW (w.page 7))).testBit 5 = true ∧ t.log = (s.event (srcMeter w) 0x0501 [ch.val]).log) ∧
    ((s.dom w).clip.has ch.val = true → t.regs = s.regs ∧ t.log = s.log) ∧ t = { s with meter := t.meter, regs := t.regs, log := t.log })) ∧
  (∀ (s : State) (w : Wick) (ch : Fin 8) (b : Nat), (s.dom w).clip.get? ch.val = some b → b + 6554 ≤ s.base → Answers (exec (.overloadEnd w ch) s) (fun t =>
    t.dom w = { s.dom w with clip := (s.dom w).clip.del ch.val } ∧ (t.dom w).clip.get? ch.val = none ∧ t = { s with meter := t.meter })) ∧
  (∀ (s : State) (w : Wick) (c : Fin 4) (b : Nat), (s.dom w).settling.get? c.val = some b → b ≤ s.base → Answers (exec (.settlingEnd w c) s) (fun t =>
    t.dom w = { s.dom w with settling := (s.dom w).settling.del c.val } ∧ (t.dom w).settling.get? c.val = none ∧ t = { s with meter := t.meter })) ∧
  (∀ (s : State) (refA refB : BitVec 16) (x : Series × Series) (l : List (Series × Series)),
    let u := (s.set (PILOT.REF_DEV_PPM 0) refA.toNat).set (PILOT.REF_DEV_PPM 1) refB.toNat
    s.countedSeconds = x :: l → s.controllerRuns = true → s.arb.cmpSecond ≠ some x.1.second →
    Answers (exec (.meterCompare refA refB) s) (fun t => t.get (PILOT.REF_DEV_PPM 0) = refA.toNat ∧ t.get (PILOT.REF_DEV_PPM 1) = refB.toNat ∧
      t.arb.cmpSecond = some x.1.second ∧
      (60 ≤ l.length + 1 → (worst? ((s.quantities ((x :: l).take 60)).filter Quantity.out)).isSome = true → s.arb.excursion = false →
        t.arb.excursion = true ∧ u.blame.idx ∈ t.arb.blamed ∧ t.on (METER.FAULT u.blame) = true ∧ (t.get (HDR.IRQ_RAW 0)).testBit 5 = true) ∧
      (l.length + 1 < 60 → t = { u with arb := { s.arb with cmpSecond := some x.1.second } }) ∧ t.roleA = s.roleA ∧ t.roleB = s.roleB ∧ t.meter = s.meter))

/-- Windows, aggregates, voltage events, missing neutral, captures, records (R251, R258 to R262, R267, R273, R275). Where it says more than
those rules it follows a choice or a reading of the model: log entries 8, 10, 95, 96, 97, 98. -/
def Obligations.HarmonicsEventsAndRecords : Prop :=
  (∀ (s : State) (w : Wick) (l : List (List Int)) (mHz : Nat),
    let r := s.rollMeter
    s.measures w = true → (∀ p, (r.dom w).refPhase = some p → p = r.reference w) → Answers (exec (.harmonicWindowClose w l mHz true) s) (fun t =>
      (r.reference w ≠ 3 → t.get (METER.FREQ_MHZ w) = mHz % 2 ^ 17) ∧ t.on (HARM.SYNC w) = decide (r.reference w ≠ 3) ∧
      (t.dom w).winIndex = (r.dom w).winIndex + 1 ∧ (t.dom w).latest.index = ((r.dom w).winIndex + 1) % 2 ^ 32 ∧
      (t.dom w).latest.chans = (r.windowChannels (r.windowSamples w l).1).map (windowChannel r.windowCycles) ∧
      (t.dom w).acc = (r.dom w).acc ∧ t = { r with meter := t.meter, regs := t.regs, log := t.log, fifos := t.fifos, fresh := t.fresh })) ∧
  (∀ (s : State) (w : Wick) (l : List (List Int)) (mHz : Nat) (locked : Bool),
    let r := s.rollMeter
    s.measures w = true → locked = false ∨ (∃ p, (r.dom w).refPhase = some p ∧ p ≠ r.reference w) →
    Answers (exec (.harmonicWindowClose w l mHz locked) s) (fun t => t.on (HARM.SYNC w) = (locked && decide (r.reference w ≠ 3)) ∧
      t.get (HARM.WIN_LOST_CNT w) = min (r.get (HARM.WIN_LOST_CNT w) + 1) (2 ^ (HARM.WIN_LOST_CNT w).width - 1) ∧
      t.dom w = { r.dom w with
        refPhase := some (r.reference w), filt := (r.windowSamples w l).2, freqRange := (t.dom w).freqRange, secFlags := (t.dom w).secFlags
        flags := (t.dom w).flags, acc10 := (t.dom w).acc10, acc3 := [], seqRun := 0, winP := [], winQ := [], winN := [], winPh := [] } ∧
      (t.dom w).acc10.chans = (r.dom w).acc10.chans ∧
      KeepsRegs r t [HARM.SYNC w, HARM.WIN_LOST_CNT w, HDR.IRQ_RAW (w.page 8)] ∧ t = { r with meter := t.meter, regs := t.regs })) ∧
  (∀ (s : State) (w : Wick) (n : Nat), s.measures w = true → (s.dom w).period = some n → n < (s.now - millis 236) / 19660800 →
    Answers (exec (.agg10minClose w) s) (fun t => (t.dom w).ten.index = n ∧ (t.dom w).period = some (s.now / 19660800) ∧ (t.dom w).acc10N = 0 ∧
      t.on (HARM.AGG_VALID w) = (decide (2990 ≤ (s.dom w).acc10N) && (s.dom w).periodWhole) ∧ (t.get (HDR.IRQ_RAW (w.page 8))).testBit 0 = true ∧
      (t.dom w).acc = (s.dom w).acc ∧ t = { s with meter := t.meter, regs := t.regs, fifos := t.fifos })) ∧
  (∀ (s : State) (w : Wick) (x : Fin 3) (mv : Word), s.measures w = true → x.val ∈ s.phases →
    Answers (exec (.voltageEventStart w x mv) s) (fun t => (t.dom w).half.get? x.val = some mv.toNat ∧
      (mv.toNat < s.pctMv (s.get (HARM.DIP_PCT w)) → (s.dom w).vEvents.get? x.val = none → (t.dom w).vEvents.get? x.val = some (s.now, mv.toNat)) ∧
      (s.pctMv (s.get (HARM.SWELL_PCT w)) < mv.toNat → (s.dom w).vEvents.get? (4 + x.val) = none →
        (t.dom w).vEvents.get? (4 + x.val) = some (s.now, mv.toNat)) ∧
      ((∀ p ∈ s.phases, ∃ v, ((s.dom w).half.put x.val mv.toNat).get? p = some v ∧ v < s.pctMv (s.get (HARM.INTR_PCT w))) →
        (s.dom w).vEvents.get? 8 = none → (t.dom w).vEvents.get? 8 = some (s.now, mv.toNat)) ∧ t = { s with meter := t.meter })) ∧
  (∀ (s : State) (w : Wick) (x : Fin 3) (mv : Word) (e : Nat × Nat), s.measures w = true → x.val ∈ s.phases → (s.dom w).vEvents.get? x.val = some e →
    (∀ i, (s.dom w).vEvents.get? 8 = some i → e.1 < i.1) → s.pctMv (s.get (HARM.DIP_PCT w) + s.get (HARM.HYST_PCT w)) < mv.toNat →
    Answers (exec (.voltageEventEnd w x mv) s) (fun t => (t.dom w).half.get? x.val = some mv.toNat ∧ (t.dom w).vEvents.get? x.val = none ∧
      t.get (HARM.DIP_CNT w) = min (s.get (HARM.DIP_CNT w) + 1) (2 ^ (HARM.DIP_CNT w).width - 1) ∧
      (t.get (HDR.IRQ_RAW (w.page 8))).testBit 1 = true ∧ (s.on (HDR.ENABLE (w.page 8)) = false → t.log = s.log) ∧
      t = { s with meter := t.meter, regs := t.regs, log := t.log })) ∧
  (∀ (s : State) (w : Wick) (ms : Nat) (l : List (Nat × Nat × Nat × Nat)), s.measures w = true → s.onePhase = false →
    s.on (METER.MISSING_NEUTRAL w) = false → 500 ≤ ms → l ≠ [] → (∀ h ∈ l, s.pctMv 20 < h.1 ∧ unbalanced h.2 = true) →
    Answers (exec (.missingNeutralDeclare w l ms) s) (fun t => t.on (METER.MISSING_NEUTRAL w) = true ∧ (t.get (HDR.IRQ_RAW (w.page 7))).testBit 4 = true ∧
      (t.dom w).flags.testBit 12 = true ∧ t = { s with meter := t.meter, regs := t.regs, log := t.log })) ∧
  (∀ (s : State) (w : Wick) (ms : Nat) (l : List Nat), s.measures w = true → 5000 ≤ ms → l ≠ [] → (∀ h ∈ l, h < s.pctMv 10) →
    Answers (exec (.missingNeutralClear w l ms) s) (fun t => t.on (METER.MISSING_NEUTRAL w) = false ∧
    KeepsRegs s t [METER.MISSING_NEUTRAL w] ∧ t = { s with regs := t.regs })) ∧
  (∀ (s : State) (m : Master) (w : Wick), s.MayWrite m (w.page 7) 0x048 →
    (∀ c, s.meter.capture = some c → Answers (exec (.capture m w) s) (fun t => t.get (METER.CMD_STATUS w) = 3 ∧
      KeepsRegs s t [METER.CMD_STATUS w] ∧ t = { s with regs := t.regs })) ∧
    (∀ x, s.meter.capture = none → s.wfWick = some x → s.measures x = true → Answers (exec (.capture m w) s) (fun t => t.get (METER.CMD_STATUS w) = 0 ∧
      (∃ c, t.meter = { s.meter with capture := some c } ∧ c.wick = x ∧ c.time = s.now ∧ c.mask = s.common METER.CAP_CHANNELS ∧
        c.samples = s.common METER.CAP_SAMPLES) ∧ KeepsRegs s t [METER.CMD_STATUS w] ∧ t = { s with regs := t.regs, meter := t.meter }))) ∧
  (∀ (s : State) (c : Capture) (l : List Int), s.meter.capture = some c → Answers (exec (.captureDone l) s) (fun t =>
    t.meter = { s.meter with capture := none } ∧ (t.get (HDR.IRQ_RAW (c.wick.page 7))).testBit 8 = true ∧
    (s.wfWick ≠ some c.wick → t.fifos = s.fifos) ∧
    (s.wfWick = some c.wick → t.fifos = (s.packet 2 0x01 ([c.time % 2 ^ 32, c.time / 2 ^ 32 % 2 ^ 16 + 2 ^ 16 * c.mask + 2 ^ 24 * c.wick.idx,
      c.samples + 2 ^ 16 * (c.flags ||| s.allFlags c.wick)] ++ (s.captured c l).map (ofSigned 32))).fifos) ∧
    t = { s with meter := t.meter, regs := t.regs, fifos := t.fifos })) ∧
  (∀ (s : State) (m : Master) (w : Wick) (n : Word), s.MayWrite m (w.page 7) 0x314 →
    (∀ r, (s.dom w).ring.find? (fun c => c.1 = n.toNat) = some r → r.2.length = 128 → Answers (exec (.recFetch m w n) s) (fun t =>
      t.get (METER.REC_STATUS w) = 0 ∧ t.get (METER.REC_REQ_INDEX w) = n.toNat ∧ (t.get (HDR.IRQ_RAW (w.page 7))).testBit 9 = true ∧
      (∀ k < 32, t.get (METER.REC_DATA w k) = leNat ((r.2.drop (4 * k)).take 4)) ∧ t = { s with regs := t.regs })) ∧
    ((s.dom w).ring.find? (fun c => c.1 = n.toNat) = none → Answers (exec (.recFetch m w n) s) (fun t =>
      t.get (METER.REC_STATUS w) = 2 ∧ (∀ k < 32, t.get (METER.REC_DATA w k) = 0) ∧ t = { s with regs := t.regs }))) ∧
  (∀ (s : State) (m : Master) (w : Wick), s.MayRead m (w.page 8) →
    let h := if s.get (HARM.H_VIEW w) = 0 then (s.dom w).latest else if s.get (HARM.H_VIEW w) = 1 then (s.dom w).three else (s.dom w).ten
    let c := h.chan (s.get (HARM.H_CH w))
    Answers (exec (.hIndexRead m w) s) (fun t => t.busData = BitVec.ofNat 32 h.index ∧
      t.meter.views.get? (2 * m.id + w.idx) = some (if h.chans = [] then { thd := 0, flags := 0, rms := 0, sg := [] }
        else { thd := s.thd (s.get (HARM.H_CH w)) c, flags := h.flags, rms := rootOf c.1, sg := c.2.map rootOf }) ∧
      t = { s with busData := t.busData, meter := { s.meter with views := t.meter.views } })) ∧
  (∀ (s : State) (w : Wick) (x : Fin 3) (mv : Word), s.measures w = true → x.val ∈ s.phases → Answers (exec (.voltageEventEnd w x mv) s) (fun t =>
    (t.dom w).half.get? x.val = some mv.toNat ∧
    (mv.toNat < s.pctMv (s.get (HARM.SWELL_PCT w) - s.get (HARM.HYST_PCT w)) → (t.dom w).vEvents.get? (4 + x.val) = none) ∧
    (s.pctMv (s.get (HARM.INTR_PCT w) + s.get (HARM.HYST_PCT w)) < mv.toNat → (t.dom w).vEvents.get? 8 = none) ∧
    t = { s with meter := t.meter, regs := t.regs, log := t.log }))

/-! ### Power by attribution (R276 to R291) -/

/-- Attribution sessions (R276 to R280, R284, R285, R287, R289): an accepted start takes the next SESSION; participants are fixed LEAD_S
ahead; chips form one by one; after chip 1,022 the session solves; ABORT, a cleared ENABLE and a frame never sent end it early. Where it
says more than those rules it follows a choice or a reading of the model: log entries 105, 108, 109, 110. -/
def Obligations.AttributionSessionsRunToTheirEnd : Prop :=
  (∀ (s : State) (m : Master) (w : Wick) (p : Fin 16),
    let t0 := s.get2 (ATTR.START_TIME_LO w) (ATTR.START_TIME_HI w)
    let start := if t0 = 0 then nextMultiple (s.now + s.attrLead) 32768 else t0
    s.MayWrite m (w.page 9) 0x040 → s.isController w = true →
    (s.attrCode w p.val ≠ 0 → Answers (exec (.attrStart m w p) s) (fun t => t.get (ATTR.CMD_STATUS w) = s.attrCode w p.val ∧
      KeepsRegs s t [ATTR.CMD_STATUS w] ∧ t = { s with regs := t.regs })) ∧
    (s.attrCode w p.val = 0 → start % 32768 ≠ 0 ∨ start < s.now + s.attrLead → Answers (exec (.attrStart m w p) s) (fun t =>
      t.get (ATTR.CMD_STATUS w) = 6 ∧ KeepsRegs s t [ATTR.CMD_STATUS w] ∧ t = { s with regs := t.regs })) ∧
    (s.attrCode w p.val = 0 → start % 32768 = 0 → s.now + s.attrLead ≤ start → Answers (exec (.attrStart m w p) s) (fun t =>
      t.get (ATTR.CMD_STATUS w) = 0 ∧ (t.get (HDR.IRQ_RAW (s.cw.page 9))).testBit 0 = true ∧
      (∃ x, t.attr.cur = some x ∧ x.number = (s.attr.number + 1) % 2 ^ 16 ∧ x.start = start ∧ x.plan = p.val ∧ x.outcome = 1 ∧ x.chips = [] ∧
        x.target = s.active.planTarget p.val ∧ x.chipMs = s.active.plan p.val 6 2 ∧ x.ampl = s.active.plan p.val 8 1) ∧ t.fresh = s.fresh + 1 ∧
      KeepsRegs s t [ATTR.CMD_STATUS w, HDR.IRQ_RAW (s.cw.page 9)] ∧
      t = { s with attr := t.attr, txn := t.txn, regs := t.regs, jseq := t.jseq, ring := t.ring, fresh := t.fresh }))) ∧
  (∀ (s : State) (p start : Nat) (d : Int), s.authorRuns = true → s.on (ATTR.PLANS_EN s.cw) = true → s.utcOk = true → s.duePlans = [(p, d, start)] →
    (s.attrCode s.cw p = 0 → Answers (exec .planDue s) (fun t => t.attr.planDays.get? p = some (s.active.planInstance p d) ∧
      (∃ x, t.attr.cur = some x ∧ x.number = (s.attr.number + 1) % 2 ^ 16 ∧ x.plan = p ∧ x.start = start ∧ x.outcome = 1) ∧
      t = { s with attr := t.attr, txn := t.txn, regs := t.regs, jseq := t.jseq, ring := t.ring, fresh := s.fresh + 1 })) ∧
    (s.attrCode s.cw p ≠ 0 → Answers (exec .planDue s) (fun t => t.attr = { s.attr with planDays := s.attr.planDays.put p (s.active.planInstance p d) } ∧
      t.get (ATTR.SKIP_CNT s.cw) = min (s.get (ATTR.SKIP_CNT s.cw) + 1) (2 ^ (ATTR.SKIP_CNT s.cw).width - 1) ∧
      (t.get (HDR.IRQ_RAW (s.cw.page 9))).testBit 4 = true ∧ KeepsRegs s t [ATTR.SKIP_CNT s.cw, HDR.IRQ_RAW (s.cw.page 9)] ∧
      t = { s with attr := t.attr, regs := t.regs, jseq := t.jseq, ring := t.ring }))) ∧
  (∀ (s : State) (x : Session) (k : Nat), s.session = some x → x.fixed = false → s.authorRuns = true → x.start ≤ s.now + s.attrLead →
    (s.participants x.target ≠ [] → s.withinLimits (s.participants x.target) = true → s.isAuthor s.cw = true →
      s.on (HDR.ENABLE (s.cw.page 3)) = true → s.nextSlot? = some k → Answers (exec .participantsFix s) (fun t =>
        t.attr = { s.attr with cur := some { x with fixed := true, parts := s.participants x.target } } ∧ (t.slot k).state = 1 ∧
        (t.slot k).desc = x.frame false ∧ (∀ j, j ≠ k → t.slot j = s.slot j) ∧ t = { s with attr := t.attr, txn := t.txn, jseq := t.jseq, ring := t.ring })) ∧
    (s.participants x.target ≠ [] → s.withinLimits (s.participants x.target) = true → s.takesInternal (x.frame false) = false →
      Answers (exec .participantsFix s) (fun t =>
        t.attr = { s.attr with cur := some { x with fixed := true, parts := s.participants x.target, notSent := true } } ∧
        t = { s with attr := t.attr, jseq := t.jseq, ring := t.ring })) ∧
    (s.participants x.target = [] ∨ s.withinLimits (s.participants x.target) = false → Answers (exec .participantsFix s) (fun t =>
        t.get (ATTR.CMD_STATUS s.cw) = 5 ∧ (∃ y, t.attr.cur = some y ∧ y.outcome = 5) ∧ (t.get (HDR.IRQ_RAW (s.cw.page 9))).testBit 2 = true ∧
        KeepsRegs s t [ATTR.CMD_STATUS s.cw, HDR.IRQ_RAW (s.cw.page 9)] ∧ t = { s with attr := t.attr, regs := t.regs, jseq := t.jseq, ring := t.ring }))) ∧
  (∀ (s : State) (x : Session) (w : Wick), s.session = some x → s.author = some w → x.outcome = 1 → x.fixed = true → x.notSent = false →
    x.chips.length < 1023 → s.chipReady w x = true → s.now < x.start + (x.chips.length + 2) * x.chipTicks →
    Answers (exec .chipEnd s) (fun t => (∃ k v, t.attr = { s.attr with cur := some { x with chips := x.chips ++ [k], wicks := v } } ∧
      k.vals.length = 3 ∧ k.drives = x.parts.map (fun a => s.expectedDrive a (x.start + x.chips.length * x.chipTicks))) ∧
      t = { s with attr := t.attr, jseq := t.jseq, ring := t.ring })) ∧
  (∀ (s : State) (x : Session), s.session = some x → x.notSent = true → x.start ≤ s.now → Answers (exec .chipEnd s) (fun t =>
    t.attr = { s.attr with cur := some { x with outcome := 5 } } ∧ (t.get (HDR.IRQ_RAW (s.cw.page 9))).testBit 2 = true ∧
    KeepsRegs s t [HDR.IRQ_RAW (s.cw.page 9)] ∧ t = { s with attr := t.attr, regs := t.regs, jseq := t.jseq, ring := t.ring })) ∧
  (∀ (s : State) (x : Session), s.session = some x → x.outcome = 1 → x.notSent = false → x.chips.length = 1023 → x.stop ≤ s.now →
    Answers (exec .sessionChipsEnd s) (fun t => t.attr = { s.attr with cur := some { x with outcome := 2 } } ∧
      t = { s with attr := t.attr, jseq := t.jseq, ring := t.ring })) ∧
  (∀ (s : State) (x : Session) (w : Wick), s.session = some x → s.author = some w → x.outcome = 2 → Answers (exec .solveDone s) (fun t =>
    t.attr.cur = some { x with outcome := 3 } ∧ t.attr.nEff = [0, 1, 2].map (fun p => (x.solve p).nEff) ∧
    (∀ a ∈ x.parts, ∃ r, t.attr.results.get? a = some r ∧ r.length = 4 ∧ r.getD 0 0 % 65536 = a % 65536) ∧
    (∀ a, a ∉ x.parts → t.attr.results.get? a = s.attr.results.get? a) ∧ (t.get (HDR.IRQ_RAW (w.page 9))).testBit 1 = true ∧
    t = { s with attr := t.attr, fifos := t.fifos, regs := t.regs, log := t.log, jseq := t.jseq, ring := t.ring, fresh := t.fresh })) ∧
  (∀ (s : State) (m : Master) (w : Wick) (same : Bool), s.MayWrite m (w.page 9) 0x040 → s.isController w = true →
    (s.session = none → Answers (exec (.attrAbort m w same) s) (fun t => t.get (ATTR.CMD_STATUS w) = 9 ∧ KeepsRegs s t [ATTR.CMD_STATUS w] ∧
      t = { s with regs := t.regs })) ∧
    (∀ x, s.session = some x → same = true ∨ x.outcome = 2 ∨ x.stop ≤ s.now → Answers (exec (.attrAbort m w same) s) (fun t =>
      t.get (ATTR.CMD_STATUS w) = 8 ∧ KeepsRegs s t [ATTR.CMD_STATUS w] ∧ t = { s with regs := t.regs })) ∧
    (∀ x, s.session = some x → same = false → x.outcome = 1 → s.now < x.stop → Answers (exec (.attrAbort m w same) s) (fun t =>
      t.get (ATTR.CMD_STATUS w) = 7 ∧ t.attr = { s.attr with cur := some { x with outcome := 4 } } ∧ t.txn = (s.submit (x.frame true)).txn ∧
      (t.get (HDR.IRQ_RAW (s.cw.page 9))).testBit 2 = true ∧ KeepsRegs s t [ATTR.CMD_STATUS w, HDR.IRQ_RAW (s.cw.page 9)] ∧
      t = { s with attr := t.attr, txn := t.txn, regs := t.regs, jseq := t.jseq, ring := t.ring }))) ∧
  (∀ (s : State) (m : Master) (w : Wick) (a : BitVec 16), s.MayWrite m (w.page 9) 0x040 → s.isController w = true →
    Answers (exec (.baseClear m w a) s) (fun t => t.get (ATTR.CMD_STATUS w) = 0 ∧
      (∀ k, t.attr.bases.get? k = (if a = 0xFFFF ∨ k = a.toNat then none else s.attr.bases.get? k)) ∧ KeepsRegs s t [ATTR.CMD_STATUS w] ∧
      t = { s with attr := { s.attr with bases := t.attr.bases }, regs := t.regs, jseq := t.jseq, ring := t.ring })) ∧
  (∀ (s : State) (m : Master) (w : Wick), s.MayWrite m (w.page 9) 0x008 → s.isController w = true → Answers (exec (.attrDisable m w) s) (fun t =>
    t.on (HDR.ENABLE (w.page 9)) = false ∧
    (∀ x, s.session = some x → t.attr = { s.attr with cur := some { x with outcome := 5 } } ∧ (t.get (HDR.IRQ_RAW (s.cw.page 9))).testBit 2 = true) ∧
    (s.session = none → t.attr = s.attr) ∧ t = { s with attr := t.attr, regs := t.regs, journal := t.journal, jseq := t.jseq, ring := t.ring })) ∧
  (∀ s : State, s.authorRuns = true → s.on (ATTR.PLANS_EN s.cw) = true → s.utcOk = true → Answers (exec .planDue s) (fun t =>
    (∀ x ∈ s.duePlans, ∃ y ∈ s.duePlans, y.1 = x.1 ∧ t.attr.planDays.get? x.1 = some (s.active.planInstance y.1 y.2.1)) ∧
    (∀ p, (∀ x ∈ s.duePlans, x.1 ≠ p) → t.attr.planDays.get? p = s.attr.planDays.get? p) ∧
    t = { s with attr := t.attr, txn := t.txn, regs := t.regs, jseq := t.jseq, ring := t.ring, fresh := t.fresh })) ∧
  (∀ (s : State) (x : Session), s.session = some x → x.fixed = false → s.authorRuns = true → x.start ≤ s.now + s.attrLead →
    s.participants x.target ≠ [] → s.withinLimits (s.participants x.target) = true → s.takesInternal (x.frame false) = true →
    Answers (exec .participantsFix s) (fun t => t.attr = { s.attr with cur := some { x with fixed := true, parts := s.participants x.target } } ∧
      t.txn = (s.submit (x.frame false)).txn ∧ t = { s with attr := t.attr, txn := t.txn, jseq := t.jseq, ring := t.ring }))

/-! ### Lantern firmware (R293 to R305) -/

/-- The image library (R293, R294): BEGIN empties the slot at once and opens a load when it is done, LIB_DATA fills it, FINISH stores it on
both wicks if its hash matches, DELETE empties a slot; a NOR failure ends a load. Where it says more than those rules it follows a choice
or a reading of the model: log entries 9, 111. -/
def Obligations.LibraryStoresImages : Prop :=
  (∀ (s : State) (m : Master) (w : Wick), s.MayWrite m (w.page 0xA) 0x044 → s.isAuthor w = true → s.camp.op = none →
    let slot := s.get (CAMPAIGN.LIB_SLOT w)
    (slot ≠ 0 → s.imageInUse slot = false → s.get (CAMPAIGN.LIB_SIZE w) ≠ 0 → s.get (CAMPAIGN.LIB_SIZE w) ≤ 1048576 →
      Answers (exec (.libBegin m w) s) (fun t => t.get (CAMPAIGN.LIB_STATUS w) = 1 ∧ t.camp.load = none ∧ (∀ x, (t.library x).get? slot = none) ∧
        (∃ i, t.camp.op = some (.begin_ slot i) ∧ i.size = s.get (CAMPAIGN.LIB_SIZE w) ∧ i.version = s.get (CAMPAIGN.LIB_VERSION w) ∧
          i.hash = s.wordBytes (CAMPAIGN.LIB_HASH w) 8 ∧ i.data = []) ∧ KeepsRegs s t [CAMPAIGN.LIB_STATUS w, CAMPAIGN.LIB_REASON w] ∧
        t = { s with camp := { s.camp with load := t.camp.load, op := t.camp.op, lib := t.camp.lib }, regs := t.regs })) ∧
    (slot = 0 → Answers (exec (.libBegin m w) s) (fun t => t.get (CAMPAIGN.LIB_STATUS w) = 2 ∧ t.get (CAMPAIGN.LIB_REASON w) = 1 ∧
        KeepsRegs s t [CAMPAIGN.LIB_STATUS w, CAMPAIGN.LIB_REASON w] ∧ t = { s with regs := t.regs })) ∧
    (slot ≠ 0 → s.imageInUse slot = false → Answers (exec (.libDelete m w) s) (fun t => t.get (CAMPAIGN.LIB_STATUS w) = 1 ∧
        t.camp = { s.camp with op := some (.delete slot) } ∧ KeepsRegs s t [CAMPAIGN.LIB_STATUS w, CAMPAIGN.LIB_REASON w] ∧
        t = { s with camp := t.camp, regs := t.regs })) ∧
    (slot ≠ 0 → s.imageInUse slot = true → Answers (exec (.libDelete m w) s) (fun t => t.get (CAMPAIGN.LIB_STATUS w) = 2 ∧
        t.get (CAMPAIGN.LIB_REASON w) = 2 ∧ KeepsRegs s t [CAMPAIGN.LIB_STATUS w, CAMPAIGN.LIB_REASON w] ∧ t = { s with regs := t.regs })) ∧
    (∀ c, s.camp.load = some c → Answers (exec (.libFinish m w) s) (fun t => t.get (CAMPAIGN.LIB_STATUS w) = 1 ∧
        t.camp = { s.camp with op := some (.finish (min (s.get (CAMPAIGN.LIB_SIZE w)) 1048576) (s.wordBytes (CAMPAIGN.LIB_HASH w) 8)) } ∧ KeepsRegs s t [CAMPAIGN.LIB_STATUS w, CAMPAIGN.LIB_REASON w] ∧
        t = { s with camp := t.camp, regs := t.regs })) ∧
    (s.camp.load = none → Answers (exec (.libFinish m w) s) (fun t => t.get (CAMPAIGN.LIB_STATUS w) = 2 ∧ t.get (CAMPAIGN.LIB_REASON w) = 5 ∧
        KeepsRegs s t [CAMPAIGN.LIB_STATUS w, CAMPAIGN.LIB_REASON w] ∧ t = { s with regs := t.regs }))) ∧
  (∀ (s : State) (m : Master) (w : Wick) (k : Fin 128) (v : Word) (slot : Nat) (i : Image), s.MayWrite m (w.page 0xA) (0x400 + 4 * k.val) →
    s.isAuthor w = true → (∀ n h, s.camp.op ≠ some (.finish n h)) → s.camp.load = some (slot, i) → Answers (exec (.libDataWrite m w k v) s) (fun t =>
      t.camp = { s.camp with load := some (slot, { i with data := i.data.setNum (s.get (CAMPAIGN.LIB_WOFF w)) 4 v.toNat }) } ∧
      t.get (CAMPAIGN.LIB_WOFF w) = (s.get (CAMPAIGN.LIB_WOFF w) + 4) % 2 ^ 20 % 2 ^ (CAMPAIGN.LIB_WOFF w).width ∧
      KeepsRegs s t [CAMPAIGN.LIB_WOFF w] ∧ t = { s with camp := t.camp, regs := t.regs })) ∧
  (∀ (s : State) (w : Wick), s.author = some w →
    (∀ slot i, s.camp.op = some (.begin_ slot i) → Answers (exec (.libOpDone false) s) (fun t => t.get (CAMPAIGN.LIB_STATUS w) = 0 ∧
      t.camp = { s.camp with op := none, load := some (slot, i) } ∧ t = { s with camp := t.camp, regs := t.regs })) ∧
    (∀ slot, s.camp.op = some (.delete slot) → Answers (exec (.libOpDone false) s) (fun t => t.get (CAMPAIGN.LIB_STATUS w) = 0 ∧ t.camp.op = none ∧
      (∀ x, (t.library x).get? slot = none) ∧ t = { s with camp := t.camp, regs := t.regs })) ∧
    (∀ slot i n h, s.camp.op = some (.finish n h) → s.camp.load = some (slot, i) → Answers (exec (.libOpDone false) s) (fun t =>
      t.camp.op = none ∧ t.camp.load = none ∧
      (sha256 (i.data.read 0 n) = h → t.get (CAMPAIGN.LIB_STATUS w) = 0 ∧
        (∀ x, (t.library x).get? slot = some { i with size := n, hash := h }) ∧
        (t.get (HDR.IRQ_RAW (w.page 0xA))).testBit 0 = true) ∧
      (sha256 (i.data.read 0 n) ≠ h → t.get (CAMPAIGN.LIB_STATUS w) = 2 ∧ t.get (CAMPAIGN.LIB_REASON w) = 4 ∧ t.camp.lib = s.camp.lib) ∧
      t = { s with camp := t.camp, regs := t.regs })) ∧
    (s.camp.op ≠ none → Answers (exec (.libOpDone true) s) (fun t => t.get (CAMPAIGN.LIB_STATUS w) = 2 ∧ t.get (CAMPAIGN.LIB_REASON w) = 7 ∧
      t.camp = { s.camp with op := none, load := none } ∧ t = { s with camp := t.camp, regs := t.regs })))

/-- Campaigns (R295, R298, R299, R302 to R305): START announces to its targets; blocks go out in turn; collections close READY or with another
round; activation confirms; PAUSE, RESUME and ABORT act as given; a cleared ENABLE aborts. Where it says more than those rules it follows
a choice or a reading of the model: log entry 112. -/
def Obligations.CampaignsMoveThroughTheirStates : Prop :=
  (∀ (s : State) (m : Master) (w : Wick), s.MayWrite m (w.page 0xA) 0x114 → s.isAuthor w = true →
    let sends := s.isAuthor s.cw = true ∧ s.stopped s.cw = false ∧ s.on (HDR.ENABLE (s.cw.page 3)) = true
    (∀ i, sends → s.on (HDR.ENABLE (w.page 0xA)) = true → s.camp.state = 0 ∨ s.camp.state = 8 ∨ s.camp.state = 9 →
      (s.library w).get? (s.get (CAMPAIGN.C_SLOT w)) = some i →
      s.campTargets (s.get (CAMPAIGN.C_TARGET w)) (s.get (CAMPAIGN.C_FROM_VER w)) i.version ≠ [] → Answers (exec (.start m w) s) (fun t =>
        t.get (CAMPAIGN.C_CMD_STATUS w) = 0 ∧ t.camp.state = 1 ∧ t.camp.number = (s.camp.number + 1) % 2 ^ 16 ∧ t.camp.version = i.version ∧
        t.camp.targets = s.campTargets (s.get (CAMPAIGN.C_TARGET w)) (s.get (CAMPAIGN.C_FROM_VER w)) i.version ∧ t.camp.round = 0 ∧
        t.camp.lib = s.camp.lib ∧ (t.get (HDR.IRQ_RAW (s.cw.page 0xA))).testBit 1 = true ∧
        KeepsRegs s t [CAMPAIGN.C_CMD_STATUS w, HDR.IRQ_RAW (s.cw.page 0xA)] ∧ t = { s with camp := t.camp, txn := t.txn, regs := t.regs, jseq := t.jseq, ring := t.ring })) ∧
    (s.on (HDR.ENABLE (w.page 0xA)) = false → Answers (exec (.start m w) s) (fun t => t.get (CAMPAIGN.C_CMD_STATUS w) = 1 ∧
        KeepsRegs s t [CAMPAIGN.C_CMD_STATUS w] ∧ t = { s with regs := t.regs })) ∧
    (1 ≤ s.camp.state → s.camp.state ≤ 4 → Answers (exec (.pause m w false) s) (fun t => t.get (CAMPAIGN.C_CMD_STATUS w) = 0 ∧
        t.camp = { s.camp with state := 10, prev := s.camp.state, rest := s.camp.until_.map (fun b => b - s.base), until_ := none } ∧
        t = { s with camp := t.camp, txn := t.txn, link := t.link, regs := t.regs, jseq := t.jseq, ring := t.ring })) ∧
    (s.camp.state = 10 → s.camp.prev = 1 → s.beginOpen = false → sends → Answers (exec (.resume m w) s) (fun t => t.get (CAMPAIGN.C_CMD_STATUS w) = 0 ∧
        t.camp = { s.camp with state := 1, until_ := s.camp.rest.map (fun n => s.base + n), rest := none } ∧
        t = { s with camp := t.camp, txn := t.txn, regs := t.regs, jseq := t.jseq, ring := t.ring })) ∧
    (s.camp.state = 10 → s.camp.prev ≠ 1 ∨ s.beginOpen = true → Answers (exec (.resume m w) s) (fun t => t.get (CAMPAIGN.C_CMD_STATUS w) = 0 ∧
        t.camp = { s.camp with state := s.camp.prev, until_ := s.camp.rest.map (fun n => s.base + n), rest := none } ∧
        t = { s with camp := t.camp, regs := t.regs, jseq := t.jseq, ring := t.ring })) ∧
    (s.camp.state ≠ 10 → Answers (exec (.resume m w) s) (fun t => t.get (CAMPAIGN.C_CMD_STATUS w) = 3 ∧ KeepsRegs s t [CAMPAIGN.C_CMD_STATUS w] ∧
        t = { s with regs := t.regs })) ∧
    (∀ at_, at_ = s.get2 (CAMPAIGN.ACT_TIME_LO w) (CAMPAIGN.ACT_TIME_HI w) → at_ ≠ 0 → s.camp.state = 5 →
      (sends → at_ % 32768 = 0 → s.now + 32768 * 120 ≤ at_ → Answers (exec (.activate m w) s) (fun t => t.get (CAMPAIGN.C_CMD_STATUS w) = 0 ∧
        t.camp = { s.camp with state := 6, actTime := at_, actSent := false } ∧ t = { s with camp := t.camp, txn := t.txn, regs := t.regs, jseq := t.jseq, ring := t.ring })) ∧
      (at_ % 32768 ≠ 0 ∨ at_ < s.now + 32768 * 120 → Answers (exec (.activate m w) s) (fun t => t.get (CAMPAIGN.C_CMD_STATUS w) = 6 ∧
        KeepsRegs s t [CAMPAIGN.C_CMD_STATUS w] ∧ t = { s with regs := t.regs }))) ∧
    ((1 ≤ s.camp.state ∧ s.camp.state ≤ 6) ∨ s.camp.state = 10 → Answers (exec (.campaignAbort m w false) s) (fun t =>
        t.get (CAMPAIGN.C_CMD_STATUS w) = 0 ∧ t.camp = { s.camp with state := 9, until_ := none, rest := none } ∧
        t = { s with camp := t.camp, txn := t.txn, link := t.link, regs := t.regs, jseq := t.jseq, ring := t.ring })) ∧
    (s.camp.state = 0 → Answers (exec (.campaignAbort m w false) s) (fun t => t.get (CAMPAIGN.C_CMD_STATUS w) = 8 ∧
        KeepsRegs s t [CAMPAIGN.C_CMD_STATUS w] ∧ t = { s with regs := t.regs }))) ∧
  (∀ (s : State) (b k : Nat) (i : Image), s.authorRuns = true → s.isAuthor s.cw = true → s.on (HDR.ENABLE (s.cw.page 3)) = true →
    s.camp.state = 2 ∨ s.camp.state = 4 → s.camp.busy = false → s.camp.lastBlock + millis (s.get (CAMPAIGN.C_GAP_MS s.cw)) ≤ s.base →
    s.camp.needed[s.camp.next]? = some b → (s.library s.cw).get? s.camp.slot = some i → s.nextSlot? = some k → Answers (exec .blockSend s) (fun t =>
      t.camp = { s.camp with busy := true } ∧ (t.slot k).state = 1 ∧ (t.slot k).desc.purpose = .block b ∧ (t.slot k).desc.ty = 7 ∧
      (t.slot k).desc.dest = s.camp.target ∧ (t.slot k).desc.args = leBytes 2 s.camp.number ++ leBytes 2 b ++ leBytes 2 s.camp.nBlocks ++ i.block b ∧
      (∀ j, j ≠ k → t.slot j = s.slot j) ∧ t = { s with camp := t.camp, txn := t.txn, jseq := t.jseq, ring := t.ring })) ∧
  (∀ s : State, s.authorRuns = true → s.camp.state = 2 ∨ s.camp.state = 4 → s.camp.busy = false →
    s.camp.lastBlock + millis (s.get (CAMPAIGN.C_GAP_MS s.cw)) ≤ s.base → s.camp.needed[s.camp.next]? = none → Answers (exec .blockSend s) (fun t =>
      t.camp.state = 3 ∧ t.camp.heard = [] ∧ t.camp.reports = s.camp.reports ∧ (t.get (HDR.IRQ_RAW (s.cw.page 0xA))).testBit 1 = true ∧
      KeepsRegs s t [HDR.IRQ_RAW (s.cw.page 0xA)] ∧ t = { s with camp := t.camp, txn := t.txn, regs := t.regs, jseq := t.jseq, ring := t.ring })) ∧
  (∀ s : State, s.authorRuns = true → 1 ≤ s.camp.state → s.camp.state ≤ 4 → s.camp.lastHold + 32768 * 300 ≤ s.base →
    Answers (exec .campaignHold s) (fun t => t.camp = { s.camp with lastHold := s.base } ∧
      t.txn = (s.submit (groupCommand (.campaign 0) s.camp.target 0x03 (leBytes 2 600) 2 0 0)).txn ∧ t = { s with camp := t.camp, txn := t.txn, jseq := t.jseq, ring := t.ring })) ∧
  (∀ (s : State) (r : BitVec 16 × List Byte) (l : List (BitVec 16 × List Byte)),
    exec (.queryClose (r :: l)) s = exec (.queryClose l) (s.campReport r.1.toNat r.2)) ∧
  (∀ (s : State) (b : Nat), s.authorRuns = true → s.camp.state = 3 → s.camp.until_ = some b → b ≤ s.base →
    s.isAuthor s.cw = true → s.on (HDR.ENABLE (s.cw.page 3)) = true → Answers (exec (.queryClose []) s) (fun t =>
    t.camp.until_ = none ∧ t.camp.silent = (s.camp.targets.filter (fun a => !s.camp.heard.contains a)).length ∧
    (s.camp.incomplete ≠ [] → s.camp.round < s.get (CAMPAIGN.C_MAX_ROUNDS s.cw) → t.camp.state = 1 ∧ t.camp.round = s.camp.round + 1 ∧
      t.camp.needed = s.camp.neededSet ∧ t.camp.next = 0) ∧
    (s.camp.incomplete = [] ∨ s.get (CAMPAIGN.C_MAX_ROUNDS s.cw) ≤ s.camp.round → t.camp.state = 5 ∧ t.txn = s.txn ∧
      (t.get (HDR.IRQ_RAW (s.cw.page 0xA))).testBit 2 = true) ∧ t = { s with camp := t.camp, txn := t.txn, regs := t.regs, jseq := t.jseq, ring := t.ring })) ∧
  (∀ s : State, s.authorRuns = true → s.camp.state = 6 → s.camp.actTime ≤ s.now →
    (s.camp.actSent = true → Answers (exec .activationInstant s) (fun t => t.camp = { s.camp with
        state := 7, rest := some 0, until_ := some (s.base + 32768 * s.get (CAMPAIGN.C_CONFIRM_S s.cw)) } ∧
      t = { s with camp := t.camp, regs := t.regs, jseq := t.jseq, ring := t.ring })) ∧
    (s.camp.actSent = false → Answers (exec .activationInstant s) (fun t => t.camp = { s.camp with state := 5 } ∧
      (t.get (HDR.IRQ_RAW (s.cw.page 0xA))).testBit 5 = true ∧ t = { s with camp := t.camp, txn := t.txn, link := t.link, regs := t.regs, jseq := t.jseq, ring := t.ring }))) ∧
  (∀ (s : State) (b n : Nat), s.authorRuns = true → s.camp.state = 7 → s.camp.rest = some n → s.camp.until_ = some b → b ≤ s.base →
    s.isAuthor s.cw = true → s.on (HDR.ENABLE (s.cw.page 3)) = true →
    Answers (exec .confirmWaitEnd s) (fun t => t.camp = { s.camp with rest := none, heard := [], until_ := none } ∧
      t = { s with camp := t.camp, txn := t.txn, jseq := t.jseq, ring := t.ring })) ∧
  (∀ (s : State) (m : Master) (w : Wick), s.MayWrite m (w.page 0xA) 0x008 → s.isController w = true → Answers (exec (.campaignDisable m w) s) (fun t =>
    t.on (HDR.ENABLE (w.page 0xA)) = false ∧ ((1 ≤ s.camp.state ∧ s.camp.state ≤ 6) ∨ s.camp.state = 10 → t.camp.state = 9) ∧
    (s.camp.state = 7 → t.camp.state = 8) ∧ (s.camp.state = 0 ∨ s.camp.state = 8 ∨ s.camp.state = 9 → t.camp = s.camp) ∧
    t = { s with camp := t.camp, txn := t.txn, link := t.link, regs := t.regs, journal := t.journal, jseq := t.jseq, ring := t.ring })) ∧
  (∀ (s : State) (b : Nat) (i : Image),
    let d := { Desc.empty with purpose := .block b, ty := 7, dest := s.camp.target, maxAtt := 1, args := leBytes 2 s.camp.number ++ leBytes 2 b ++ leBytes 2 s.camp.nBlocks ++ i.block b }
    s.authorRuns = true → s.camp.state = 2 ∨ s.camp.state = 4 → s.camp.busy = false →
    s.camp.lastBlock + millis (s.get (CAMPAIGN.C_GAP_MS s.cw)) ≤ s.base → s.camp.needed[s.camp.next]? = some b →
    (s.library s.cw).get? s.camp.slot = some i → s.takesInternal d = true → Answers (exec .blockSend s) (fun t =>
      t.camp = { s.camp with busy := true } ∧ t.txn = (s.submit d).txn ∧ t = { s with camp := t.camp, txn := t.txn, jseq := t.jseq, ring := t.ring })) ∧
  (∀ (s : State) (b : Nat), s.authorRuns = true → s.camp.until_ = some b → b ≤ s.base →
    (s.camp.state = 3 → s.camp.incomplete = [] ∨ s.get (CAMPAIGN.C_MAX_ROUNDS s.cw) ≤ s.camp.round → Answers (exec (.queryClose []) s) (fun t =>
      t.camp.state = 5 ∧ t.camp.until_ = none ∧ t.txn = s.txn ∧ t = { s with camp := t.camp, regs := t.regs, jseq := t.jseq, ring := t.ring })) ∧
    (s.camp.state = 7 → s.camp.rest = none → Answers (exec (.queryClose []) s) (fun t =>
      t.camp.state = 8 ∧ t.camp.until_ = none ∧ (t.get (HDR.IRQ_RAW (s.cw.page 0xA))).testBit 4 = true ∧ t.txn = s.txn ∧
      t = { s with camp := t.camp, regs := t.regs, jseq := t.jseq, ring := t.ring })))

/-! ### The role arbiter (R13 to R18, R308 to R333) -/

/-- Supervision and starts (R14, R15, R18, R308, R310, R313 to R316, R318, R326, R329): heartbeats restart the loss timer; a lost AUTHOR's
MIRROR takes control at once; a mismatch stops a wick; READY gives the role the situation asks for; a start that fails is counted. Where
it says more than those rules it follows a choice or a reading of the model: log entries 2, 115, 118, 120, 122, 123, 125. -/
def Obligations.WicksAreSupervisedAndStarted : Prop :=
  (∀ (s : State) (w : Wick), s.due (tmLoss w) = true → exec (.heartbeat w) s = .next s) ∧
  (∀ (s : State) (w : Wick), (s.role w).beats = true → s.stopped w = false → s.due (tmLoss w) = false → Answers (exec (.heartbeat w) s) (fun t =>
    t.arb = { s.arb with beat := s.arb.beat.put w.idx s.base } ∧ t.timers.get? (tmLoss w) = some (s.base + 6552) ∧
    t = { s with arb := t.arb, timers := t.timers })) ∧
  (∀ (s : State) (w : Wick), s.role w = .author → s.role w.other = .mirror → s.due (tmLoss w) = true → s.due (tmLoss w.other) = false →
    Answers (exec .lossTimerExpiry s) (fun t => t.role w.other = .author ∧ t.isController w = false ∧ t.on (PILOT.NEEDS_BIST w.idx) = true ∧
      t.get PILOT.FAILOVER_CNT = min (s.get PILOT.FAILOVER_CNT + 1) 0xFFFF ∧ t.authorSince = some s.base ∧
      t.cfg = { s.cfg with activeHalf := s.cfg.committedHalf, commitHalf := s.cfg.committedHalf, redo := t.cfg.redo } ∧ t.keys = s.keys)) ∧
  (∀ (s : State) (v : Fin 3) (w : Wick) (held : Fin 7),
    (held.val ≠ (s.role w).code → exec (.voterDisagreement v w held) s = .next (s.event srcPilot 0x0101 [v.val, held.val])) ∧
    (held.val = (s.role w).code → exec (.voterDisagreement v w held) s = .next s)) ∧
  (∀ (s : State) (w : Wick) (c : Instr), c = .lockstepMismatch w ∨ c = .sramDoubleError w → s.stopped w = false → s.pdOn (corePd w) = true →
    (s.role w ≠ .warming → s.role w ≠ .cold ∨ s.get PILOT.TH_LOCKSTEP = 0 → Answers (exec c s) (fun t => t.stopped w = true ∧ t.link.onAir.get? w.idx = none ∧ t.link.grants.get? w.idx = none)) ∧
    (s.role w = .warming → s.get (WCORE.START_KIND w) ≠ 3 → Answers (exec c s) (fun t =>
      t.get (PILOT.BOOT_FAILS w.idx) = min (s.get (PILOT.BOOT_FAILS w.idx) + 1) 15 ∧ t.get (PILOT.REASON w.idx) = 3 ∧ t.stopped w = false))) ∧
  (∀ (s : State) (w : Wick), s.pdOn (corePd w) = true → Answers (exec (.sramEccCorrection w) s) (fun t =>
    t.get (WCORE.ECC_CORR_CNT w) = min (s.get (WCORE.ECC_CORR_CNT w) + 1) 0xFFFF ∧
    (s.get PILOT.TH_ECC = 1 → (t.get (PILOT.LASTING w.idx)).testBit 0 = true) ∧
    (s.get PILOT.TH_ECC = 0 → t.get (PILOT.W_ECC w.idx) = min 255 (t.arb.window w 0) ∧
      KeepsRegs s t (WCORE.ECC_CORR_CNT w :: (List.range 5).map (faultCount w.idx)) ∧ t = { s with regs := t.regs, arb := t.arb }))) ∧
  (∀ (s : State) (w : Wick) (ms : BitVec 16), s.role w = .warming → s.due (tmStart w) = false →
    (s.get (WCORE.START_KIND w) ≠ 3 → s.author = some w.other → Answers (exec (.wickReady w ms) s) (fun t => t.role w = .mirror ∧
      t.role w.other = .author ∧ t.get PILOT.HO_STATE = 2 ∧ t.get2 PILOT.SWAP_AT_LO PILOT.SWAP_AT_HI =
        (nextMultiple (s.now + s.get PILOT.MIRROR_BEACONS * s.active.beaconTicks) s.active.beaconTicks + 328) % 2 ^ 48)) ∧
    ((s.replay w).get (WCORE.START_KIND w) ≠ 3 → s.controller = none → Answers (exec (.wickReady w ms) s) (fun t => t.role w = .author ∧
      t.role w.other = s.role w.other ∧ t.authorSince = some s.base)) ∧
    (s.get (WCORE.START_KIND w) ≠ 3 → s.role w.other = .snowdrop → Answers (exec (.wickReady w ms) s) (fun t => t.role w = .author ∧
      t.role w.other = .failed)) ∧
    ((s.replay w).get (WCORE.START_KIND w) = 3 → s.controller = none → Answers (exec (.wickReady w ms) s) (fun t => t.role w = .snowdrop ∧
      t.role w.other = s.role w.other))) ∧
  (∀ (s : State) (w : Wick) (invalid : Bool), s.role w = .warming → invalid = true ∨ s.due (tmStart w) = true →
    (s.get (WCORE.START_KIND w) ≠ 3 → Answers (exec (.startDeadlineExpiry w invalid) s) (fun t =>
      t.get (PILOT.BOOT_FAILS w.idx) = min (s.get (PILOT.BOOT_FAILS w.idx) + 1) 15 ∧
      t.get (PILOT.REASON w.idx) = (if invalid = true then 2 else 1) ∧ t.keys = s.keys)) ∧
    (s.get (WCORE.START_KIND w) = 3 → Answers (exec (.startDeadlineExpiry w invalid) s) (fun t =>
      t.get (PILOT.SNOW_FAILS w.idx) = min (s.get (PILOT.SNOW_FAILS w.idx) + 1) 15 ∧
      t.get (PILOT.BOOT_FAILS w.idx) = s.get (PILOT.BOOT_FAILS w.idx) ∧ t.keys = s.keys))) ∧
  (∀ (s : State) (w : Wick), s.due (tmStable w) = true → Answers (exec (.bootStable w) s) (fun t => t.get (PILOT.BOOT_FAILS w.idx) = 0 ∧
    t.timers.get? (tmStable w) = none ∧ KeepsRegs s t [PILOT.BOOT_FAILS w.idx] ∧ t = { s with regs := t.regs, timers := t.timers })) ∧
  (∀ (s : State) (w : Wick), s.author = some w → s.stopped w = false → s.saving = false → s.due tmCtlCkpt = true →
    Answers (exec .controllerCheckpoint s) (fun t => t.arb = { s.arb with ckpts := (s.newCkpt :: s.arb.ckpts).take 2 } ∧
    (∃ c, t.arb.ckpts.head? = some c ∧ c.jseq = s.jseq ∧ c.time = s.now ∧ c.pages = s.journal ∧ (∀ d, s.arb.ckpts.head? = some d → c.slot = 1 - d.slot)) ∧
    t.ring = { recs := (s.ring.recs ++ s.ring.held).filter (fun r => decide (t.ringFloor < r.jseq)), held := [] } ∧
    t.get (WCORE.JRNL_WAIT_CNT w) = min (s.get (WCORE.JRNL_WAIT_CNT w) + s.ring.held.length) (2 ^ (WCORE.JRNL_WAIT_CNT w).width - 1) ∧
    t.timers.get? tmCtlCkpt = some (s.base + 32768 * s.get PILOT.CKPT_S) ∧ (t.get (HDR.IRQ_RAW (w.page 0))).testBit 0 = true ∧
    KeepsRegs s t [HDR.IRQ_RAW (w.page 0), WCORE.JRNL_WAIT_CNT w] ∧ t = { s with arb := t.arb, ring := t.ring, timers := t.timers, regs := t.regs })) ∧
  (∀ (s : State) (w : Wick), s.due (tmLoss w) = true → Answers (exec .lossTimerExpiry s) (fun t => t.on (PILOT.NEEDS_BIST w.idx) = true ∧
    (t.role w = .cold ∨ t.role w = .failed ∨ t.role w = .warming)))

/-- Planned handovers (R317 to R321, R328): an accepted one warms the other wick; at the swap instant a READY MIRROR becomes AUTHOR and the
AUTHOR COLD, or the swap is deferred, three times at most; CANCEL and REVERT_INHIBIT undo one; the soak starts a revert. Where it says
more than those rules it follows a choice or a reading of the model: log entries 119, 120. -/
def Obligations.HandoversSwapTheRoles : Prop :=
  (∀ (s : State) (m : Master) (e : TestEnd),
    (∀ w, s.tested = some w → exec (.handover m (some e)) s =
      exec (.handover m none) (doSelftestReport w e.steps.toNat e.dryRan e.dur.toNat s)) ∧
    (s.tested = none → exec (.handover m (some e)) s = exec (.handover m none) s)) ∧
  (∀ (s : State) (m : Master), s.MayWrite m 0 0x04C →
    (∀ w, s.author = some w → s.handoverCode = 0 → Answers (exec (.handover m none) s) (fun t => t.get PILOT.CMD_STATUS = 0 ∧ t.get PILOT.HO_STATE = 1 ∧
      t.get PILOT.HO_CAUSE = 1 ∧ t.get PILOT.HO_DEFERS = 0 ∧ t.role w.other = .warming ∧ t.role w = .author ∧ t.get (WCORE.START_KIND w.other) = 2 ∧
      t.timers.get? (tmStart w.other) = some (s.base + millis 1550))) ∧
    (s.handoverCode ≠ 0 → Answers (exec (.handover m none) s) (fun t => t.get PILOT.CMD_STATUS = s.handoverCode ∧ KeepsRegs s t [PILOT.CMD_STATUS] ∧
      t = { s with regs := t.regs }))) ∧
  (∀ (s : State) (m : Master), s.MayWrite m 0 0x04C →
    let gone := s.get PILOT.HO_STATE = 3 ∨ (s.get PILOT.HO_STATE = 2 ∧ s.get2 PILOT.SWAP_AT_LO PILOT.SWAP_AT_HI ≤ s.now)
    (∀ w, ¬ gone → s.handing = true → s.incoming = some w → Answers (exec (.cancel m) s) (fun t => t.get PILOT.CMD_STATUS = 0 ∧
      t.get PILOT.HO_STATE = 4 ∧ t.role w = .cold ∧ t.role w.other = s.role w.other ∧ t.get2 PILOT.SWAP_AT_LO PILOT.SWAP_AT_HI = s.arb.lastSwap % 2 ^ 48)) ∧
    (gone → Answers (exec (.cancel m) s) (fun t => t.get PILOT.CMD_STATUS = 4 ∧ KeepsRegs s t [PILOT.CMD_STATUS] ∧ t = { s with regs := t.regs })) ∧
    (¬ gone → s.handing = false → Answers (exec (.cancel m) s) (fun t => t.get PILOT.CMD_STATUS = 5 ∧ KeepsRegs s t [PILOT.CMD_STATUS] ∧
      t = { s with regs := t.regs }))) ∧
  (∀ (s : State) (o m : Wick), s.author = some o → s.mirror = some m → s.get2 PILOT.SWAP_AT_LO PILOT.SWAP_AT_HI ≤ s.now → s.get PILOT.HO_STATE = 2 →
    (s.stopped m = false → Answers (exec (.handoverSwapInstant true) s) (fun t => t.role m = .author ∧
      t.role o = (if s.get PILOT.HO_CAUSE = 3 then .failed else .cold) ∧ t.get PILOT.HO_STATE = 3 ∧ t.arb.outgoing = some o ∧
      t.get PILOT.HANDOVER_CNT = min (s.get PILOT.HANDOVER_CNT + 1) 0xFFFF ∧
      t.arb.lastSwap = s.get2 PILOT.SWAP_AT_LO PILOT.SWAP_AT_HI ∧ t.keys = s.keys ∧
      t.cfg = { s.cfg with activeHalf := s.cfg.committedHalf, commitHalf := s.cfg.committedHalf, redo := t.cfg.redo })) ∧
    (s.get PILOT.HO_DEFERS < 3 → Answers (exec (.handoverSwapInstant false) s) (fun t => t.get PILOT.HO_DEFERS = s.get PILOT.HO_DEFERS + 1 ∧
      t.get2 PILOT.SWAP_AT_LO PILOT.SWAP_AT_HI = (s.get2 PILOT.SWAP_AT_LO PILOT.SWAP_AT_HI + s.active.beaconTicks) % 2 ^ 48 ∧
      KeepsRegs s t [PILOT.HO_DEFERS, PILOT.SWAP_AT_LO, PILOT.SWAP_AT_HI] ∧ t = { s with regs := t.regs })) ∧
    (3 ≤ s.get PILOT.HO_DEFERS → Answers (exec (.handoverSwapInstant false) s) (fun t => t.role m = .cold ∧ t.role o = .author ∧
      t.get PILOT.HO_STATE = 5))) ∧
  (∀ (s : State) (w : Wick), s.arb.outgoing = some w → Answers (exec .outgoingDomainsOff s) (fun t => t.arb.outgoing = none ∧
    t.pdOn (corePd w) = false ∧ t.pdOn (radioPd w) = false ∧ (t.get (HDR.IRQ_RAW 0)).testBit 2 = true ∧ t.roleA = s.roleA ∧ t.roleB = s.roleB ∧
    t.txn = s.txn ∧ t.cfg = s.cfg ∧ t.reg = s.reg)) ∧
  (∀ (s : State) (m : Master) (v : Bool), s.MayWrite m 0 0x044 →
    (∀ w, v = true → s.handing = true → s.get PILOT.HO_CAUSE = 2 → s.swapCome = false → s.incoming = some w → Answers (exec (.revertInhibitWrite m v) s) (fun t =>
      t.on PILOT.REVERT_INHIBIT = true ∧ t.role w = .cold ∧ t.get PILOT.HO_STATE = 4)) ∧
    (v = false ∨ s.handing = false ∨ s.get PILOT.HO_CAUSE ≠ 2 ∨ s.swapCome = true → Answers (exec (.revertInhibitWrite m v) s) (fun t =>
      t.on PILOT.REVERT_INHIBIT = v ∧ KeepsRegs s t [PILOT.REVERT_INHIBIT] ∧ t = { s with regs := t.regs }))) ∧
  (∀ (s : State) (b : Nat), s.arb.soak.get? s.prefWick.idx = some b → s.author = some s.prefWick.other → s.isAuthor s.prefWick = false →
    s.on PILOT.REVERT_INHIBIT = false → s.eligibility s.prefWick = 0 → b + 32768 * s.get PILOT.SOAK_S ≤ s.base →
    s.on (PILOT.METER_FAULT s.prefWick.idx) = false → s.handoverCode = 0 → Answers (exec .soakComplete s) (fun t =>
      t.get PILOT.HO_STATE = 1 ∧ t.get PILOT.HO_CAUSE = 2 ∧ t.role s.prefWick = .warming ∧ t.role s.prefWick.other = .author))

/-- Self-tests, restoring, clearing, recovery and WICK_EN (R307, R324, R325, R327, R328, R332, R333). Where it says more than those rules it
follows a choice or a reading of the model: log entries 116, 121, 124. -/
def Obligations.WicksAreTestedAndRestored : Prop :=
  (∀ (s : State) (m : Master) (w : Wick), s.MayWrite m 0 0x04C →
    (s.arb.testing.has w.idx = true ∨ s.bist.isSome = true → Answers (exec (.selftestNow m w) s) (fun t => t.get PILOT.CMD_STATUS = 2 ∧
      KeepsRegs s t [PILOT.CMD_STATUS] ∧ t = { s with regs := t.regs })) ∧
    (s.arb.testing.has w.idx = false → s.bist = none → s.role w = .cold → s.bistConditions true = true → Answers (exec (.selftestNow m w) s) (fun t =>
      t.get PILOT.CMD_STATUS = 0 ∧ t.arb.testing.get? w.idx = some s.base ∧ t.on (PILOT.SELFTEST_RUN w.idx) = true ∧ t.pdOn (corePd w) = true ∧
      t.pdOn (radioPd w) = true ∧ KeepsRegs s t [PILOT.CMD_STATUS, PILOT.SELFTEST_RUN w.idx, PWR.PD_ON, PWR.PD_SLEEP] ∧
      t = { s with regs := t.regs, arb := t.arb })) ∧
    (s.arb.testing.has w.idx = false → s.bist = none → s.role w ≠ .cold → Answers (exec (.selftestNow m w) s) (fun t =>
      t.get PILOT.CMD_STATUS = 1 ∧ t.get (PILOT.HR_CODE w.idx) = 2 ∧ t.arb.testing.has w.idx = false ∧ (t.get (HDR.IRQ_RAW 0)).testBit 3 = true ∧
      t = { s with regs := t.regs, arb := t.arb, log := t.log }))) ∧
  (∀ (s : State) (w : Wick) (b : Nat), s.arb.testing.has w.idx = false → s.bist = none → s.role w = .cold → s.bistConditions true = true →
    s.arb.retest.get? w.idx = some b ∨ (s.arb.retest.get? w.idx = none ∧ s.testDue w = some b) → b ≤ s.base →
    Answers (exec (.selftestDue w) s) (fun t => t.arb.testing.get? w.idx = some s.base ∧ t.arb.retest.get? w.idx = none ∧
      t.on (PILOT.SELFTEST_RUN w.idx) = true ∧ t.pdOn (corePd w) = true ∧ t.pdOn (radioPd w) = true ∧ t = { s with regs := t.regs, arb := t.arb })) ∧
  (∀ (s : State) (w : Wick) (steps : BitVec 5) (dryRan : Bool) (dur : BitVec 16), s.arb.testing.has w.idx = true →
    Answers (exec (.selftestReport w steps dryRan dur) s) (fun t => t.arb.testing.has w.idx = false ∧ t.on (PILOT.SELFTEST_RUN w.idx) = false ∧
      t.arb.testDone.get? w.idx = some s.base ∧ (t.get (HDR.IRQ_RAW 0)).testBit 3 = true ∧ t.get (PILOT.HR_CODE w.idx) = (if steps = 31 then 0 else 1) ∧
      t.get (PILOT.HR_DUR w.idx) = dur.toNat ∧ (steps = 31 → t.on (PILOT.NEEDS_BIST w.idx) = false ∧ w.idx ∉ t.arb.failed) ∧
      (steps ≠ 31 → w.idx ∈ t.arb.failed) ∧ (steps.getLsbD 2 = true → t.get (PILOT.BOOT_FAILS w.idx) = 0))) ∧
  (∀ (s : State) (m : Master) (w : Wick), s.MayWrite m 0 0x04C →
    (s.role w = .cold ∨ s.role w = .failed ∨ s.role w = .snowdrop → Answers (exec (.restore m w) s) (fun t => t.get PILOT.CMD_STATUS = 0 ∧
      t.get (PILOT.BOOT_FAILS w.idx) = 0 ∧ t.get (PILOT.SNOW_FAILS w.idx) = 0 ∧ t.get (PILOT.LASTING w.idx) = 0 ∧ t.on (PILOT.NEEDS_BIST w.idx) = true ∧
      t.role w ≠ .failed ∧ t.role w ≠ .snowdrop)) ∧
    (¬ (s.role w = .cold ∨ s.role w = .failed ∨ s.role w = .snowdrop) → Answers (exec (.restore m w) s) (fun t => t.get PILOT.CMD_STATUS = 6 ∧
      KeepsRegs s t [PILOT.CMD_STATUS] ∧ t = { s with regs := t.regs })) ∧
    Answers (exec (.faultClr m w) s) (fun t => t.get PILOT.CMD_STATUS = 0 ∧ (t.get (PILOT.LASTING w.idx)).testBit 4 = false ∧
      (∀ n < 4, (t.get (PILOT.LASTING w.idx)).testBit n = (s.get (PILOT.LASTING w.idx)).testBit n) ∧ t.on (PILOT.METER_FAULT w.idx) = false ∧
      t.on (METER.FAULT w) = false ∧ KeepsRegs s t [PILOT.CMD_STATUS, PILOT.LASTING w.idx, PILOT.METER_FAULT w.idx, METER.FAULT w] ∧
      t = { s with regs := t.regs, arb := { s.arb with soak := t.arb.soak } }) ∧
    Answers (exec (.countClr m w) s) (fun t => t.get PILOT.CMD_STATUS = 0 ∧ (∀ c < 5, t.get (faultCount w.idx c) = 0 ∧ t.arb.window w c = 0 ∧
      t.arb.window w.other c = s.arb.window w.other c) ∧ KeepsRegs s t (PILOT.CMD_STATUS :: (List.range 5).map (faultCount w.idx)) ∧
      t = { s with regs := t.regs, arb := { s.arb with buckets := t.arb.buckets } })) ∧
  (∀ s : State, s.arb.hour < s.base / 117964800 → Answers (exec .faultWindowHour s) (fun t => t.arb.hour = s.base / 117964800 ∧
    (∀ k l, s.arb.buckets.get? k = some l → t.arb.buckets.get? k =
      some ((List.replicate (min (s.base / 117964800 - s.arb.hour) 24) 0 ++ l).take 24)) ∧
    KeepsRegs s t ((List.range 5).map (faultCount 0) ++ (List.range 5).map (faultCount 1)) ∧ t = { s with regs := t.regs, arb := t.arb })) ∧
  (∀ s : State,
    let w : Wick := if s.arb.triedWick = 0 then .b else .a
    s.arb.noController = true → s.arb.tried + 32768 * 600 ≤ s.base → s.controller = none → s.incoming = none → s.barred w = true →
    Answers (exec .recoveryRetry s) (fun t => t.role w = .warming ∧ t.role w.other = s.role w.other ∧ t.get (WCORE.START_KIND w) = 3 ∧
      t.on (WCORE.RECOVERY w) = true ∧ t.arb.tried = s.base ∧ t.arb.triedWick = w.idx ∧ t.timers.get? (tmStart w) = some (s.base + millis 3000))) ∧
  (∀ (s : State) (m : Master) (a b : Bool), s.MayWrite m 0 0x044 → Answers (exec (.wickEnWrite m a b) s) (fun t =>
    (a = true → t.on PILOT.WICK_EN_A = true) ∧
    (a = false → s.roleA = .warming ∨ s.roleA.beats = true → t.on PILOT.WICK_EN_A = s.on PILOT.WICK_EN_A ∧ t.get PILOT.CMD_STATUS = 1) ∧
    (a = false → s.roleA ≠ .warming → s.roleA.beats = false → t.on PILOT.WICK_EN_A = false ∧ t.roleA = .off) ∧
    (b = true → t.on PILOT.WICK_EN_B = true) ∧
    (b = false → s.author.isSome = true → s.roleB = .warming ∨ s.roleB.beats = true → t.on PILOT.WICK_EN_B = s.on PILOT.WICK_EN_B ∧ t.get PILOT.CMD_STATUS = 1) ∧
    (b = false → s.author.isSome = true → s.roleB ≠ .warming → s.roleB.beats = false → t.on PILOT.WICK_EN_B = false ∧ t.roleB = .off)))

/-! ### The fabric (R337 to R349, R452) -/

/-- Frames of the fabric (R339 to R345, R347): a frame that is none of this module's changes nothing; one that is must open and be newer;
hellos make neighbours, LSAs enter the database, a DB_REQUEST is answered; records are collected, acknowledgements and answers taken.
Where it says more than those rules it follows a choice or a reading of the model: log entries 9, 127, 130, 131. -/
def Obligations.FabricFramesAreTakenIn : Prop :=
  ∀ (s : State) (x : FabRx),
    let num := fun (off n : Nat) => leNat ((x.frame.drop off).take n)
    let taken := s.fabRuns = true ∧ s.portOn x.port.val = true ∧ (s.fab.conflicts.has x.port.val = false ∨ num 15 1 = 1) ∧ s.fabKeyed = true ∧ (x.frame.take 6 = fabGroup ∨ x.frame.take 6 = macOf s.uid) ∧
      leNat ((x.frame.drop 12).take 2).reverse = s.get (FABRIC.ETHERTYPE s.cw) ∧ num 14 1 % 16 = 0 ∧ num 28 2 ≤ 1400 ∧ 38 + num 28 2 ≤ x.frame.length
    let opened := ccmOpen (s.slotKey 1) (fabNonce (num 18 4) (num 14 1) x.uid.toNat) ((x.frame.drop 14).take 16) ((x.frame.drop 30).take (num 28 2 + 8))
    let old := ∃ c, s.fab.counters.get? (2 * x.uid.toNat + bits (num 14 1) 4 1) = some c ∧ num 18 4 ≤ c
    (∀ c ∈ [Instr.helloReceived x, .lsaReceived x, .dbRequestReceived x, .eventFwdReceived x, .eventAckReceived x, .rpaResponseReceived x, .rpaRequestReceived x],
      (¬ taken → exec c s = .next s) ∧
      (taken → Answers (exec c s) (fun t => opened = none ∨ old → t.get (FABRIC.RX_AUTH_ERR s.cw) = min (s.get (FABRIC.RX_AUTH_ERR s.cw) + 1) 0xFFFF ∧
        KeepsRegs s t [FABRIC.RX_AUTH_ERR s.cw] ∧ t = { s with regs := t.regs }))) ∧
    (taken → Answers (exec (.helloReceived x) s) (fun t => ∀ (b : List Byte), opened = some b → ¬ old →
      let f := fun (off n : Nat) => leNat ((b.drop off).take n)
      t.fab.counters.get? (2 * x.uid.toNat + bits (num 14 1) 4 1) = some (num 18 4) ∧
      (num 15 1 = 1 → t.fab.heard.head? = some (x.port.val, f 0 8, s.base) ∧
        (f 12 6 ≠ s.epochS ∨ f 18 1 ≠ s.get TIME.DOMAIN → t.fab.neighbours = s.fab.neighbours ∧
          t.get (FABRIC.EPOCH_MISMATCH_CNT s.cw) = min (s.get (FABRIC.EPOCH_MISMATCH_CNT s.cw) + 1) 0xFFFF) ∧
        (f 12 6 = s.epochS → f 18 1 = s.get TIME.DOMAIN → s.fab.conflicts.has x.port.val = false → (∀ h ∈ s.fab.heard, h.1 = x.port.val → h.2.1 = f 0 8) →
          ∃ n ∈ t.fab.neighbours, n.uid = f 0 8 ∧ n.link = x.port.val ∧ n.addr = f 8 2 ∧ n.seg = f 10 2 ∧ n.since = s.base ∧
            (n.up = true ↔ ∃ k < f 23 1, f (24 + 8 * k) 8 = s.uid))))) ∧
    (taken → Answers (exec (.lsaReceived x) s) (fun t => ∀ (b : List Byte), opened = some b → ¬ old → num 15 1 = 2 →
      let l := parseLsa b s.base
      (l.uid ≠ s.uid → (∀ y ∈ s.fab.lsas, y.uid = l.uid → y.seq < l.seq) → l ∈ t.fab.lsas ∧ (∀ y ∈ t.fab.lsas, y.uid = l.uid → y = l) ∧ t.fab.stale = true) ∧
      (l.uid = s.uid ∨ (∃ y, s.fab.lsas.find? (fun z => z.uid = l.uid) = some y ∧ l.seq ≤ y.seq) → t.fab.lsas = s.fab.lsas ∧ t.fab.queue = s.fab.queue))) ∧
    (taken → Answers (exec (.dbRequestReceived x) s) (fun t => ∀ (b : List Byte), opened = some b → ¬ old → num 15 1 = 3 →
      t.fab.queue = s.fab.queue ++ s.fab.lsas.map (fun l => { ltype := 2, odest := 0xFFFF, osrc := l.addr, hops := 0, body := l.bytes, via := some (x.port.val, 0xFFFF) }) ∧
      t = { s with fab := { s.fab with queue := t.fab.queue, counters := t.fab.counters } })) ∧
    (taken → Answers (exec (.eventFwdReceived x) s) (fun t => ∀ (b : List Byte), opened = some b → ¬ old → num 15 1 = 0x20 → num 22 2 = s.fabAddr →
      s.on (FABRIC.EVT_COLLECT s.cw) = true → 34 ≤ b.length → ∃ h l, t.fab.collected.get? (num 24 2) = some (h, l) ∧
        t.fab.queue = s.fab.queue ++ [{ ltype := 0x21, odest := num 24 2, osrc := s.fabAddr, hops := 0, body := leBytes 4 h, via := none }] ∧
        t = { s with fab := t.fab, fifos := t.fifos, regs := t.regs })) ∧
    (taken → Answers (exec (.eventAckReceived x) s) (fun t => ∀ (b : List Byte) (next : Nat), opened = some b → ¬ old → num 15 1 = 0x21 →
      num 22 2 = s.fabAddr → s.fab.fwdNext = some next → num 24 2 = s.get (FABRIC.EVT_FWD_ADDR s.cw) → seqAhead (leNat (b.take 4)) s.fab.fwdAcked ≠ 0 →
      seqAhead (leNat (b.take 4)) s.fab.fwdAcked < seqAhead next s.fab.fwdAcked → t.fab.fwdAcked = leNat (b.take 4) ∧ t.fab.fwdSince = s.base ∧
        t = { s with fab := { s.fab with fwdAcked := t.fab.fwdAcked, fwdSince := t.fab.fwdSince, counters := t.fab.counters } })) ∧
    (taken → Answers (exec (.rpaResponseReceived x) s) (fun t => ∀ (b : List Byte) (r : RpaOut), opened = some b → ¬ old → num 15 1 = 0x31 →
      num 22 2 = s.fabAddr → s.fab.rpa = some r → leNat ((b.drop 2).take 4) = r.ctr → 16 ≤ b.length → t.get (FABRIC.RPA_STATUS s.cw) = 2 ∧
        t.get (FABRIC.RPA_FSTATUS s.cw) = leNat ((b.drop 6).take 2) % 2 ^ (FABRIC.RPA_FSTATUS s.cw).width ∧ t.fab.rpa = none ∧
        (t.get (HDR.IRQ_RAW (s.cw.page 0xB))).testBit 2 = true ∧ t = { s with fab := t.fab, regs := t.regs }))

/-- What the fabric does by itself (R337, R338, R342 to R344, R452): hellos and LSAs go out in time; neighbours not heard and LSAs not
refreshed go; routes are computed; conflicts clear; PHYs are polled. Where it says more than those rules it follows a choice or a reading
of the model: log entries 2, 132, 133. -/
def Obligations.FabricKeepsItsRoutes : Prop :=
  (∀ (s : State) (m : Master) (w : Wick) (addr seg : BitVec 16), s.MayWrite m (w.page 0xB) 0x040 → s.isController w = true →
    Answers (exec (.fabAddrWrite m w addr seg) s) (fun t =>
      t.get (FABRIC.FAB_ADDR w) = (if 1 ≤ addr.toNat ∧ addr.toNat ≤ 0x400 then addr.toNat else 0) ∧ t.get (FABRIC.SEG_ID w) = seg.toNat ∧
      t = { s with regs := t.regs, fab := t.fab, journal := t.journal, jseq := t.jseq, ring := t.ring, timers := t.timers })) ∧
  (∀ s : State, s.routes = true → s.due tmLsa = true ∨ s.armed tmLsa = false → Answers (exec .lsaOriginate s) (fun t =>
    t.fab.lsaSeq = s.fab.lsaSeq + 1 ∧ (∃ l ∈ t.fab.lsas, l.uid = s.uid ∧ l.addr = s.fabAddr ∧ l.seq = s.fab.lsaSeq + 1 ∧ l.withdrawn = false) ∧
    t.timers.get? tmLsa = some (s.base + 32768 * 900) ∧ t = { s with fab := t.fab, timers := t.timers })) ∧
  (∀ (s : State) (link : Fin 3), s.linkRuns link.val = true → s.fabKeyed = true → s.due (tmHello link.val) = true ∨ s.armed (tmHello link.val) = false →
    let m : FabMsg := { ltype := 1, odest := 0xFFFF, osrc := s.fabAddr, hops := 0, body := s.helloBody link.val, via := none }
    let f : OutFrame := { ty := 0xF, dest := 0xFFFF, seq := 0, retry := 0, ackReq := false, copy := false, keySel := 0, nodeId := 0, joinKey := [], ttl := 0, payload := leBytes 1 1 ++ leBytes 2 0xFFFF ++ leBytes 2 s.fabAddr ++ leBytes 2 0 ++ m.body }
    (link.val < 2 → Answers (exec (.helloSend link) s) (fun t => t.fab.sent.get? link.val = some (s.fabFrame s.cw m) ∧
      t.link.fabCnt.get? s.cw.idx = some (s.link.fabCnt.getD s.cw.idx 0 + 1) ∧ t.timers.get? (tmHello link.val) = some (s.base + millis (s.helloMs link.val)) ∧
      t = { s with fab := { s.fab with sent := t.fab.sent }, link := t.link, timers := t.timers })) ∧
    (∀ c, link.val = 2 → s.active.airChan = some c → s.radioFree s.cw = true → s.grant? s.cw = none →
      s.closeBuckets.ledgerCode s.cw { channel := c, cls := 1, psdu := f.psduLen, wake := 0, air := true } = 0 →
      Answers (exec (.helloSend link) s) (fun t => (∃ g, t.link.grants.get? s.cw.idx = some g ∧ g.use = .air ∧ g.frame = some f ∧ g.channel = c) ∧
        t.timers.get? (tmHello 2) = some (s.base + millis (s.helloMs 2)) ∧ t.fab = s.fab ∧ t.cfg = s.cfg ∧ t.reg = s.reg ∧ t.txn = s.txn))) ∧
  (∀ (s : State) (same : List (Fin 3 × BitVec 64)),
    let heard := fun (n : Neighbour) => ∃ y ∈ same, y.1.val = n.link ∧ y.2.toNat = n.uid
    s.fabRuns = true → (∃ n ∈ s.fab.neighbours, n.absentAt ≤ s.base ∧ ¬ heard n) → Answers (exec (.neighbourAbsent same) s) (fun t =>
    (∀ n, n ∈ t.fab.neighbours ↔ n ∈ s.fab.neighbours ∧ (s.base < n.absentAt ∨ heard n)) ∧
    t.roleA = s.roleA ∧ t.roleB = s.roleB ∧ t.cfg = s.cfg ∧ t.reg = s.reg ∧ t.txn = s.txn ∧ t.keys = s.keys)) ∧
  (∀ s : State, s.fabRuns = true → (∃ n ∈ s.fab.neighbours, n.absentAt ≤ s.base) → Answers (exec (.neighbourAbsent []) s) (fun t =>
    t.get (FABRIC.ABSENT_CNT s.cw) = (if (s.fab.neighbours.filter (fun n => decide (n.absentAt ≤ s.base) && n.up)).length = 0 then s.get (FABRIC.ABSENT_CNT s.cw)
      else min (s.get (FABRIC.ABSENT_CNT s.cw) + (s.fab.neighbours.filter (fun n => decide (n.absentAt ≤ s.base) && n.up)).length) 0xFFFF) ∧
    t.roleA = s.roleA ∧ t.roleB = s.roleB ∧ t.cfg = s.cfg ∧ t.reg = s.reg ∧ t.txn = s.txn ∧ t.keys = s.keys)) ∧
  (∀ (s : State) (p : Fin 2) (b : Nat), s.fab.conflicts.get? p.val = some b → b + 32768 * 10 ≤ s.base → Answers (exec (.portConflictClear p) s) (fun t =>
    t.fab.conflicts.has p.val = false ∧ (∀ q, q ≠ p.val → t.fab.conflicts.get? q = s.fab.conflicts.get? q) ∧
    t = { s with fab := { s.fab with conflicts := t.fab.conflicts } })) ∧
  (∀ s : State, Answers (exec .lsaExpire s) (fun t => (∀ l, l ∈ t.fab.lsas ↔ l ∈ s.fab.lsas ∧ (l.uid = s.uid ∨ s.base < l.since + 32768 * 3600)) ∧
    (t.fab.lsas.length < s.fab.lsas.length → t.fab.stale = true) ∧ t = { s with fab := { s.fab with lsas := t.fab.lsas, stale := t.fab.stale } })) ∧
  (∀ s : State, s.fab.stale = true → s.routes = true → Answers (exec .routeCompute s) (fun t => t.fab.small = s.spf true ∧ t.fab.big = s.spf false ∧
    t.fab.stale = false ∧ (s.spf true ≠ s.fab.small ∨ s.spf false ≠ s.fab.big → (t.get (HDR.IRQ_RAW (s.cw.page 0xB))).testBit 1 = true) ∧
    KeepsRegs s t [HDR.IRQ_RAW (s.cw.page 0xB)] ∧ t = { s with regs := t.regs, fab := { s.fab with small := t.fab.small, big := t.fab.big, stale := false } })) ∧
  (∀ (s : State) (p : Fin 2) (v : BitVec 16), s.pdOn 11 = true → Answers (exec (.phyStatusPoll p v) s) (fun t =>
    (p.val ∈ t.fab.down ↔ v ≠ 0xFFFF ∧ v.getLsbD 2 = false) ∧ (∀ q, q ≠ p.val → (q ∈ t.fab.down ↔ q ∈ s.fab.down)) ∧
    t = { s with fab := { s.fab with down := t.fab.down } }))

/-- Messages and forwarded records (R340, R345, R347): the first message of the queue goes out along its route or is counted as without one; a
frame in transit joins the queue with one hop more; records go out in order, 8 at most unacknowledged, and again after 10 s. -/
def Obligations.MessagesAreForwarded : Prop :=
  (∀ (s : State) (m : FabMsg) (l : List FabMsg), s.fab.queue = m :: l → m.via = none → s.routes = true → m.odest ≠ s.fabAddr → s.fabKeyed = true →
    (∀ r, s.routeOf m.odest m.body.length = some r → r.link ≠ 2 → s.portRuns r.link = true → Answers (exec (.fabricForward none) s) (fun t =>
      t.fab.queue = l ∧ t.fab.sent.get? r.link = some (s.fabFrame s.cw m) ∧ t.link.fabCnt.get? s.cw.idx = some (s.link.fabCnt.getD s.cw.idx 0 + 1) ∧
      t = { s with fab := { s.fab with queue := l, sent := t.fab.sent }, link := t.link })) ∧
    (s.routeOf m.odest m.body.length = none → Answers (exec (.fabricForward none) s) (fun t => t.fab.queue = l ∧
      t.get (FABRIC.NO_ROUTE_CNT s.cw) = min (s.get (FABRIC.NO_ROUTE_CNT s.cw) + 1) 0xFFFF ∧ KeepsRegs s t [FABRIC.NO_ROUTE_CNT s.cw] ∧
      t = { s with fab := { s.fab with queue := l }, regs := t.regs }))) ∧
  (∀ (s : State) (x : FabRx), s.fab.queue = [] → Answers (exec (.fabricForward (some x)) s) (fun t => ∀ m u, s.takeFrame x = (some m, u) →
    (m.odest = s.fabAddr ∨ m.odest = 0xFFFF ∨ 1023 ≤ m.hops → t = u) ∧
    (∀ r, s.routes = true → m.odest ≠ s.fabAddr → m.odest ≠ 0xFFFF → m.hops < 1023 → s.routeOf m.odest m.body.length = some r → r.link ≠ 2 →
      s.portRuns r.link = true → t.fab.queue = [] ∧ t.fab.sent.get? r.link = some (s.fabFrame s.cw { m with hops := m.hops + 1, via := none })))) ∧
  (∀ (s : State) (n next : Nat), s.fabRuns = true → s.on (FABRIC.EVT_FWD_EN s.cw) = true → s.get (FABRIC.EVT_FWD_ADDR s.cw) ≠ 0 →
    s.log.newest = some n → s.fab.fwdNext = some next → seqAhead n next < 65536 → seqAhead next s.fab.fwdAcked < 9 → next < 2 ^ 32 →
    Answers (exec .eventFwdSend s) (fun t => t.fab.fwdNext = some ((next + 1) % 2 ^ 32) ∧ t.fab.fwdAcked = s.fab.fwdAcked ∧
      t.fab.queue = s.fab.queue ++ [{ ltype := 0x20, odest := s.get (FABRIC.EVT_FWD_ADDR s.cw), osrc := s.fabAddr, hops := 0, body := leBytes 2 (s.get (FABRIC.SEG_ID s.cw)) ++ s.log.record next, via := none }] ∧
      (∀ f : Field, t.get f = s.get f ∨ f.key = (FABRIC.FWD_LOST s.cw).key) ∧ t = { s with fab := t.fab, regs := t.regs })) ∧
  (∀ (s : State) (n next : Nat), s.fabRuns = true → s.on (FABRIC.EVT_FWD_EN s.cw) = true → s.get (FABRIC.EVT_FWD_ADDR s.cw) ≠ 0 →
    s.log.newest = some n → s.fab.fwdNext = some next → next = (s.fab.fwdAcked + 2) % 2 ^ 32 → s.fab.fwdAcked < 2 ^ 32 → seqAhead n ((s.fab.fwdAcked + 1) % 2 ^ 32) < 65536 →
    s.fab.fwdSince + 32768 * 10 ≤ s.base → Answers (exec .eventFwdResend s) (fun t => t.fab.fwdNext = some next ∧ t.fab.fwdSince = s.base ∧
      t.fab.queue = s.fab.queue ++ [{ ltype := 0x20, odest := s.get (FABRIC.EVT_FWD_ADDR s.cw), osrc := s.fabAddr, hops := 0, body := leBytes 2 (s.get (FABRIC.SEG_ID s.cw)) ++ s.log.record ((s.fab.fwdAcked + 1) % 2 ^ 32), via := none }] ∧ t = { s with fab := t.fab, regs := t.regs })) ∧
  (∀ (s : State) (m : FabMsg) (l : List FabMsg),
    let t := s.setFab { s.fab with queue := l }
    s.fabRuns = true → s.fab.queue = m :: l →
    (∀ link addr, m.via = some (link, addr) → exec (.fabricForward none) s = .next ((t.sendOn link addr m).getD s)) ∧
    (∀ r, m.via = none → s.routes = true → m.odest ≠ s.fabAddr → s.routeOf m.odest m.body.length = some r →
      exec (.fabricForward none) s = .next ((t.sendOn r.link r.next m).getD s)) ∧
    (m.via = none → s.routes = false ∨ m.odest = s.fabAddr → exec (.fabricForward none) s = .next t))

/-- Remote page access (R348, R349): a command at the gateway is sent and waits, or its status says why not; an answer not in time is a
TIMEOUT; at the target a challenge is given, a frame outside a session is refused, an idle session ends. Where it says more than those
rules it follows a choice or a reading of the model: log entries 8, 9, 129. -/
def Obligations.RemoteAccessAsksAndAnswers : Prop :=
  (∀ (s : State) (m : Master) (w : Wick) (c : Instr) (n : Nat),
    (c, n) ∈ [(Instr.rpaRead m w, 1), (.rpaWrite m w, 2), (.rpaOpenChal m w, 3), (.rpaOpen m w, 4), (.rpaClose m w, 5)] →
    s.MayWrite m (w.page 0xB) 0x114 → s.isController w = true →
    (s.get (FABRIC.RPA_STATUS w) = 1 → exec c s = .next s) ∧
    (s.get (FABRIC.RPA_STATUS w) ≠ 1 → s.fabRuns = false ∨ s.get (FABRIC.RPA_TARGET w) = s.fabAddr → Answers (exec c s) (fun t =>
      t.get (FABRIC.RPA_STATUS w) = 5 ∧ (t.get (HDR.IRQ_RAW (w.page 0xB))).testBit 2 = true ∧
      KeepsRegs s t [FABRIC.RPA_STATUS w, HDR.IRQ_RAW (w.page 0xB)] ∧ t = { s with regs := t.regs })) ∧
    (s.get (FABRIC.RPA_STATUS w) ≠ 1 → s.fabRuns = true → s.get (FABRIC.RPA_TARGET w) ≠ s.fabAddr →
      (s.routeOf (s.get (FABRIC.RPA_TARGET w)) (s.rpaBody w n).length = none → Answers (exec c s) (fun t => t.get (FABRIC.RPA_STATUS w) = 4 ∧
        (t.get (HDR.IRQ_RAW (w.page 0xB))).testBit 2 = true ∧ KeepsRegs s t [FABRIC.RPA_STATUS w, HDR.IRQ_RAW (w.page 0xB)] ∧ t = { s with regs := t.regs })) ∧
      (∀ r, s.routeOf (s.get (FABRIC.RPA_TARGET w)) (s.rpaBody w n).length = some r → Answers (exec c s) (fun t => t.get (FABRIC.RPA_STATUS w) = 1 ∧
        t.fab = { s.fab with rpa := some { ctr := s.get (FABRIC.RPA_CTR w), cmd := n, since := s.base }, queue := s.fab.queue ++ [{ ltype := 0x30, odest := s.get (FABRIC.RPA_TARGET w), osrc := s.fabAddr, hops := 0, body := s.rpaBody w n, via := none }] } ∧
        KeepsRegs s t [FABRIC.RPA_STATUS w] ∧ t = { s with regs := t.regs, fab := t.fab })))) ∧
  (∀ (s : State) (r : RpaOut), s.fab.rpa = some r → r.since + millis (s.get (FABRIC.RPA_TIMEOUT_MS s.cw)) ≤ s.base → Answers (exec (.rpaTimeout none) s) (fun t =>
    t.get (FABRIC.RPA_STATUS s.cw) = 3 ∧ t.fab = { s.fab with rpa := none } ∧ (t.get (HDR.IRQ_RAW (s.cw.page 0xB))).testBit 2 = true ∧
    KeepsRegs s t [FABRIC.RPA_STATUS s.cw, HDR.IRQ_RAW (s.cw.page 0xB)] ∧ t = { s with regs := t.regs, fab := t.fab })) ∧
  (∀ (s : State) (x : FabRx), exec (.rpaTimeout (some x)) s = exec (.rpaTimeout none) (doRpaResponseReceived x s)) ∧
  (∀ s : State, s.fab.remote.state = 2 → s.fab.remote.since + 32768 * s.get (FABRIC.RPA_IDLE_S s.cw) ≤ s.base → Answers (exec .rpaIdleExpiry s) (fun t =>
    t.fab.remote.state = 0 ∧ t.fab.remote.key = [] ∧ t.fab.remote.id = s.fab.remote.id ∧ t.cfg = s.cfg ∧ t.reg = s.reg ∧ t.keys = s.keys ∧ t.txn = s.txn)) ∧
  (∀ (s : State) (x : FabRx), Answers (exec (.rpaRequestReceived x) s) (fun t => ∀ m u, s.takeFrame x = (some m, u) →
    let r := parseRemote m.body
    let id := leNat (m.body.take 2)
    let y := s.fab.remote
    let answered := fun (b : List Byte) => u.fab.queue ++ [{ ltype := 0x31, odest := m.osrc, osrc := s.fabAddr, hops := 0, body := b, via := none }]
    (m.ltype ≠ 0x30 ∨ m.odest ≠ s.fabAddr ∨ s.on (FABRIC.RPA_EN s.cw) = false ∨ m.body.length < 20 → t = u) ∧
    (m.ltype = 0x30 → m.odest = s.fabAddr → s.on (FABRIC.RPA_EN s.cw) = true → 20 ≤ m.body.length →
      (r.cmd = 0x83 → t = { u with fab := { u.fab with queue := answered (leBytes 2 y.id ++ leBytes 4 r.ctr ++ leBytes 2 0 ++ y.challenge ++ List.replicate 8 0) } }) ∧
      (r.cmd = 0x84 → s.on VAULT.RNG_OK = true → s.base < y.lockout → t.fab.remote.state = y.state ∧ t.fab.remote.fails = y.fails + 1 ∧ t.fab.remote.lockout = y.lockout ∧
        t.fab.queue = answered (leBytes 2 y.id ++ leBytes 4 r.ctr ++ leBytes 2 6 ++ List.replicate 8 0)) ∧
      (r.cmd = 0x81 ∨ r.cmd = 0x82 → r.addr < 0x40000 → r.addr % 4 = 0 → r.len % 4 = 0 → 0 < r.len → r.len ≤ 512 → y.state ≠ 2 ∨ y.id ≠ id →
        t.get HOSTLINK.AUTH_ERR_CNT = min (u.get HOSTLINK.AUTH_ERR_CNT + 1) (2 ^ HOSTLINK.AUTH_ERR_CNT.width - 1) ∧
        t.fab.queue = answered (leBytes 2 id ++ leBytes 4 r.ctr ++ leBytes 2 5 ++ (if r.cmd = 0x82 then List.replicate r.len 0 else []) ++ List.replicate 8 0) ∧
        t = { u with regs := t.regs, fab := { u.fab with queue := t.fab.queue } }) ∧
      (r.cmd = 0x81 ∨ r.cmd = 0x82 → y.state = 2 → y.id = id → r.code (some { isOpen := true, key := y.key, lastCtr := y.lastCtr }) true = 0 → r.ctr ≠ 2 ^ 32 - 1 →
        let run := (u.setRemote { y with lastCtr := r.ctr, since := s.base }).runFrame .remote (decide (r.cmd = 0x81)) r.addr r.len (r.payload.take r.len)
        t = run.state.remoteAnswer m.osrc id r (some y.key) (frameStatus 0 run.refused) run.data))))

/-! ### Segment time (R350 to R355) -/

/-- The clock (R350 to R355): PTP messages on a port that runs are taken and sent, GNSS edges are named and GNSS lost, a source is chosen each
second, writes of EPOCH_S and TIME_SET step segment time. Where it says more than those rules it follows a choice or a reading of the
model: log entries 2, 8, 126. -/
def Obligations.TimeFollowsItsSources : Prop :=
  (∀ (s : State) (p : Fin 2), s.portRuns p.val = true →
    (∀ a, (∀ y, (s.port p.val).foreign = some y → y.sender = a.sender ∨ before (clockRank a) (clockRank y) = true) →
      Answers (exec (.ptpMessageReceived p (.announce (s.get TIME.DOMAIN) a)) s) (fun t => (t.port p.val).foreign = some a ∧ (t.port p.val).last = s.base ∧
        t.timers.get? (tmAnnounce p.val) = some (s.base + 32768 * 6) ∧ t = { s with clock := t.clock, timers := t.timers })) ∧
    (∀ seq t1 t2 d, (s.port p.val).state = 3 → (s.port p.val).delay = some d →
      Answers (exec (.ptpMessageReceived p (.sync (s.get TIME.DOMAIN) seq false t1 t2)) s) (fun t => (t.port p.val).sync = some (seq, t2) ∧
        (t.port p.val).t1 = some t1 ∧ t.clock.ptpOff = some (t1 + d - t2) ∧ t = { s with clock := t.clock })) ∧
    (∀ seq t1 t2 d, (s.port p.val).state = 3 → (s.port p.val).delay = some d → (s.port p.val).sync = some (seq, t2) →
      Answers (exec (.ptpMessageReceived p (.followUp (s.get TIME.DOMAIN) seq t1)) s) (fun t => (t.port p.val).t1 = some t1 ∧
        t.clock.ptpOff = some (t1 + d - t2) ∧ t = { s with clock := t.clock })) ∧
    (∀ (seq q : Nat) (t1 t2 t3 t4 : Int), (s.port p.val).state = 3 → (s.port p.val).sync = some (q, t2) → (s.port p.val).t1 = some t1 →
      (s.port p.val).t3 = some (seq, t3) → Answers (exec (.ptpMessageReceived p (.delayResp (s.get TIME.DOMAIN) seq t4)) s) (fun t =>
        (t.port p.val).delay = some (((t2 - t1) + (t4 - t3)) / 2) ∧ t.clock.ptpOff = some (t1 + ((t2 - t1) + (t4 - t3)) / 2 - t2) ∧
        t = { s with clock := t.clock })) ∧
    (∀ q, (s.port p.val).state = 2 → Answers (exec (.ptpMessageReceived p (.delayReq (s.get TIME.DOMAIN) q)) s) (fun t =>
      (t.port p.val).sent.get? 3 = some (q, s.base) ∧ t = { s with clock := t.clock })) ∧
    (∀ d q, (s.port p.val).state ≠ 2 ∨ d ≠ s.get TIME.DOMAIN → exec (.ptpMessageReceived p (.delayReq d q)) s = .next s) ∧ exec (.ptpMessageReceived p .other) s = .next s) ∧
  (∀ (s : State) (p : Fin 2) (t3 : BitVec 64) (k : PtpTx) (key state span : Nat), s.portRuns p.val = true → (s.port p.val).state = state →
    (k, key, state, span) ∈ [(PtpTx.sync, 0, 2, 1), (.announce, 1, 2, 2), (.delayReq, 2, 3, 1)] →
    (∀ n b, (s.port p.val).sent.get? key = some (n, b) → b + 32768 * span ≤ s.base) → Answers (exec (.ptpMessageSend p k t3) s) (fun t =>
      (∃ n, (t.port p.val).sent.get? key = some (n, s.base) ∧ (k = .delayReq → (t.port p.val).t3 = some (n, t3.toInt))) ∧ t = { s with clock := t.clock })) ∧
  (∀ (s : State) (p : Fin 2), s.due (tmAnnounce p.val) = true → Answers (exec (.announceReceiptTimeout p) s) (fun t => (t.port p.val).foreign = none ∧
    t.timers.get? (tmAnnounce p.val) = none ∧ (t.port p.val).state ≠ 4 ∧ t = { s with clock := t.clock, timers := t.timers })) ∧
  (∀ (s : State) (us : Word) (ns : BitVec 15), s.on TIME.GNSS_EN = true → Answers (exec (.gnssPpsEdge us ns) s) (fun t =>
    t.clock.gnss.edge = some s.base ∧ t.clock.gnss.edgeAt = s.now ∧ t.clock.gnss.edgeNs = ns.toNat ∧ t.clock.gnss.named = false ∧
    t.get TIME.PPS_MISS_CNT = (if s.clock.gnss.edge.isSome = true ∧ ¬ (999900 ≤ us.toNat ∧ us.toNat ≤ 1000100) then min (s.get TIME.PPS_MISS_CNT + 1) 0xFFFF
      else s.get TIME.PPS_MISS_CNT) ∧ KeepsRegs s t [TIME.PPS_MISS_CNT] ∧ t = { s with clock := t.clock, regs := t.regs })) ∧
  (∀ (s : State) (rmc ok st : Bool) (utc : BitVec 48), s.on TIME.GNSS_EN = true →
    (ok = false → Answers (exec (.nmeaSentence rmc ok utc st) s) (fun t => t.get TIME.GNSS_ERR_CNT = min (s.get TIME.GNSS_ERR_CNT + 1) 0xFFFF ∧
      KeepsRegs s t [TIME.GNSS_ERR_CNT] ∧ t = { s with regs := t.regs })) ∧
    (∀ e n, ok = true → s.clock.gnss.edge = some e → e + millis 10 ≤ s.base → s.base ≤ e + millis 950 → s.clock.gnss.named = false → s.clock.gnss.name = some n →
      (utc.toNat = n + 1 → Answers (exec (.nmeaSentence rmc ok utc st) s) (fun t => t.clock.gnss.named = true ∧ t.clock.gnss.name = some utc.toNat ∧
        t.clock.gnss.run = s.clock.gnss.run + 1 ∧ t.clock.gnss.agreed = s.base ∧
        (s.clock.gnss.valid = true ∨ (9 ≤ s.clock.gnss.run ∧ rmc = true ∧ st = true) → t.clock.gnss.valid = true) ∧ t = { s with clock := t.clock })) ∧
      (utc.toNat ≠ n + 1 → Answers (exec (.nmeaSentence rmc ok utc st) s) (fun t => t.clock.gnss.run = 0 ∧ t.clock.gnssOff = s.clock.gnssOff ∧
        t.get TIME.GNSS_ERR_CNT = min (s.get TIME.GNSS_ERR_CNT + 1) 0xFFFF ∧ t = { s with clock := t.clock, regs := t.regs })))) ∧
  (∀ s : State, s.clock.gnss.valid = true → s.clock.gnss.edge.getD 0 + 32768 * 3 ≤ s.base ∨ s.clock.gnss.agreed + 32768 * 3 ≤ s.base →
    Answers (exec .gnssLoss s) (fun t => t.clock.gnss.valid = false ∧ t.clock.gnss.run = 0 ∧ t.clock.gnssOff = none ∧ (t.get (HDR.IRQ_RAW 0xD)).testBit 4 = true ∧
      KeepsRegs s t [HDR.IRQ_RAW 0xD] ∧ t = { s with clock := t.clock, regs := t.regs })) ∧
  (∀ s : State, s.clock.chosen + 32768 ≤ s.base → Answers (exec .timeSourceSelect s) (fun t =>
    t.clock.chosen = s.clock.chosen + 32768 * ((s.base - s.clock.chosen) / 32768) ∧
    (s.on (HDR.ENABLE 0xD) = true → s.clock.gnss.valid = true → t.get TIME.SOURCE = 0 ∧ t.on TIME.TRUSTED = true) ∧
    (s.on (HDR.ENABLE 0xD) = false → t.get TIME.SOURCE = 4) ∧
    t = { s with clock := t.clock, regs := t.regs, meter := t.meter, log := t.log, now := t.now, fresh := t.fresh })) ∧
  (∀ (s : State) (m : Master) (v : BitVec 48), s.MayWrite m 0xD 0x044 → Answers (exec (.epochSWrite m v) s) (fun t => t.epochS = v.toNat ∧
    (s.epochS = v.toNat → t.now = s.now ∧ t.meter = s.meter) ∧
    (s.epochS ≠ v.toNat → t.now = ofSigned 48 ((s.now : Int) + ((s.epochS : Int) - (v.toNat : Int)) * 32768) ∧
      t.get TIME.STEP_CNT = min (s.get TIME.STEP_CNT + 1) 0xFFFF ∧ (t.get (HDR.IRQ_RAW 0xD)).testBit 1 = true) ∧
    t = { s with regs := t.regs, meter := t.meter, log := t.log, now := t.now })) ∧
  (∀ (s : State) (m : Master) (gained : Bool), s.MayWrite m 0xD 0x008 → m = .hostS ∨ m = .remote →
    (gained = true ∨ s.pickSource ≤ 2 ∨ s.get TIME.SOURCE ≤ 2 → Answers (exec (.timeSet m gained) s) (fun t => t.get TIME.SET_STATUS = 1 ∧ KeepsRegs s t [TIME.SET_STATUS] ∧
      t = { s with regs := t.regs })) ∧
    (gained = false → 3 ≤ s.pickSource → 3 ≤ s.get TIME.SOURCE → Answers (exec (.timeSet m gained) s) (fun t => t.get TIME.SET_STATUS = 0 ∧
      t.now = ofSigned 48 (((s.get2 TIME.SET_UTC_S_LO TIME.SET_UTC_S_HI : Int) + (s.get TIME.UTC_OFF_S : Int) - (s.epochS : Int)) * 32768) ∧
      t.get TIME.ERR_US = 1000 * s.get TIME.SET_ERR_MS % 2 ^ 32 ∧ (s.on (HDR.ENABLE 0xD) = true → t.get TIME.SOURCE = 3) ∧
      t = { s with regs := t.regs, meter := t.meter, log := t.log, now := t.now }))) ∧
  (∀ (s : State) (m : Master) (gained : Bool), s.MayWrite m 0xD 0x008 → m ≠ .hostS → m ≠ .remote → Answers (exec (.timeSet m gained) s) (fun t =>
    t.get (HDR.ERR_COUNT 0xD) = min (s.get (HDR.ERR_COUNT 0xD) + 1) 0xFFFF ∧ KeepsRegs s t [HDR.ERR_COUNT 0xD, HDR.ERR_FIRST 0xD] ∧ t = { s with regs := t.regs }))

/-! ### Supplies, module starts, the final save (R359 to R372, R380, R381) -/

/-- Supply levels, clocks and VAUX_OUT (R359 to R361, R364, R381): VIN, VIO and VHOLD are shown as read; a fall below VIN_WARN_MV is counted;
PD0 comes up with VIN; XTAL_OK moves the base; VIO returning under a low PFAIL_N starts a save, which SavesEndWithPilotAlone states; an
overcurrent on VAUX_OUT latches VAUX_FAULT. -/
def Obligations.SuppliesAreFollowed : Prop :=
  (∀ (s : State) (mv : BitVec 16) (loopOk lidClosed : Bool),
    (mv.toNat < 8800 → exec (.vinRise mv loopOk lidClosed) s = .next s) ∧
    (8800 ≤ mv.toNat → s.pdOn 0 = true → Answers (exec (.vinRise mv loopOk lidClosed) s) (fun t =>
      t.get PWR.VIN_MV = mv.toNat ∧ t.on PWR.VIN_OK = true ∧
      t.get PWR.VIN_WARN_CNT = (if s.get PWR.VIN_WARN_MV ≤ s.get PWR.VIN_MV ∧ mv.toNat < s.get PWR.VIN_WARN_MV then min (s.get PWR.VIN_WARN_CNT + 1) 0xFFFF
        else s.get PWR.VIN_WARN_CNT) ∧
      KeepsRegs s t [PWR.VIN_MV, PWR.VIN_OK, PWR.VIN_WARN_CNT] ∧ t = { s with regs := t.regs })) ∧
    (8800 ≤ mv.toNat → s.pdOn 0 = false → Answers (exec (.vinRise mv loopOk lidClosed) s) (fun t =>
      t.get PWR.PD_ON = 1 ∧ t.on PWR.XTAL_OK = false ∧ t.get PWR.VIN_MV = mv.toNat ∧ t.on TAMPER.LOOP_OK = loopOk ∧ t.on TAMPER.LID_CLOSED = lidClosed ∧
      t.now = (if s.ledger.snapValid = true then s.ledger.snapTime else 0) ∧ t.on TIME.TRUSTED = false ∧ t.timers = [] ∧
      t.link.fcnt = s.link.fcntCeiling ∧ t.link.seqNext = s.link.seqCeiling ∧ t.roleA = s.roleA ∧ t.roleB = s.roleB ∧ t.cfg = s.cfg ∧ t.ledger = s.ledger))) ∧
  (∀ (s : State),
    (s.pdOn 0 = false → exec .xtalOk s = .next s) ∧
    (s.pdOn 0 = true → Answers (exec .xtalOk s) (fun t => t.on PWR.XTAL_OK = true ∧ KeepsRegs s t [PWR.XTAL_OK, PWR.PD_ON, PWR.PD_SLEEP] ∧
      (∀ w : Wick, s.power.started = true → s.on (HDR.ENABLE (w.page 7)) = true → t.pdOn (meterPd w) = true) ∧
      (s.power.started = false → t.get PWR.PD_ON = s.get PWR.PD_ON) ∧ t = { s with regs := t.regs }))) ∧
  (∀ (s : State) (mv : BitVec 16),
    (mv.toNat < 1600 → Answers (exec (.vioLoss mv) s) (fun t => t.get PWR.VIO_MV = mv.toNat ∧ t.on PWR.VIO_OK = false ∧
      KeepsRegs s t [PWR.VIO_MV, PWR.VIO_OK] ∧ t = { s with regs := t.regs })) ∧
    (1600 ≤ mv.toNat → exec (.vioLoss mv) s = .next s) ∧
    (1600 ≤ mv.toNat → s.on PWR.PFAIL_LEVEL = false ∨ s.pdOn 0 = false ∨ s.power.started = false ∨ s.saving = true →
      Answers (exec (.vioReturn mv) s) (fun t => t.get PWR.VIO_MV = mv.toNat ∧ t.on PWR.VIO_OK = true ∧
        KeepsRegs s t [PWR.VIO_MV, PWR.VIO_OK] ∧ t = { s with regs := t.regs })) ∧
    (mv.toNat < 1600 → exec (.vioReturn mv) s = .next s)) ∧
  (∀ (s : State),
    (s.vauxOn = true → Answers (exec .vauxOvercurrent s) (fun t => t.on PWR.VAUX_FAULT = true ∧ t.vauxOn = false ∧
      (t.get (HDR.IRQ_RAW 1)).testBit 2 = true ∧ KeepsRegs s t [PWR.VAUX_FAULT, HDR.IRQ_RAW 1] ∧ t = { s with regs := t.regs })) ∧
    (s.vauxOn = false → exec .vauxOvercurrent s = .next s))

/-- Module starts (R309, R362, R365, R368, R369): with VIN good, RESET_N high and no PFAIL_N that counts, a start brings up the Pilot domain's
neighbours with the wicks OFF, names its cause and what the final save reached, and waits for HOLD_READY or HOLD_WAIT_S; then the
preferred ELIGIBLE wick is warmed and the other becomes COLD, or FAILED where it is BARRED. That an expiry logs HOLDUP_ABSENT also where
HOLD_WAIT_S is 0 is the model's reading. Where it says more than those rules it follows a choice or a reading of the model: log entries
10, 114, 161, 164, 166, 168, 173. -/
def Obligations.ModuleStartsWarmAWick : Prop :=
  let warms := fun (s t : State) => t.power.waiting = false ∧ t.power.warmed = true ∧ t.role s.prefWick = .warming ∧
    t.pdOn (corePd s.prefWick) = true ∧ t.pdOn (radioPd s.prefWick) = true ∧ t.timers.get? (tmStart s.prefWick) = some (s.base + millis 1550) ∧
    t.role s.prefWick.other = (if s.eligibility s.prefWick.other = 3 then .off else if s.eligibility s.prefWick.other = 2 then .failed else .cold)
  (∀ (s : State) (pfailHigh : Bool) (lost : Option (Bool × Bool)), s.on PWR.VIN_OK = true → s.pdOn 0 = true → s.power.started = false →
    s.saving = false → pfailHigh = true ∨ s.on PWR.VIO_OK = false →
    Answers (exec (.moduleStart lost true pfailHigh) s) (fun t => t.power.resetLow = false ∧ t.on PWR.PFAIL_LEVEL = (!pfailHigh) ∧ t.power.started = true ∧ t.power.ran = false ∧ t.power.recorded = true ∧ t.power.factory = false ∧
      (∀ n ∈ [0, 1, 8, 9, 10], t.pdOn n = true) ∧ t.keys = s.keys ∧ t.cfg = s.cfg ∧ t.now = s.now ∧ t.locks = [] ∧
      t.get PWR.START_CAUSE = s.startCause ∧
      t.get PWR.START_CNT = (if s.startCause = 0 ∨ s.startCause = 4 then 1 else (s.get PWR.START_CNT + 1) % 2 ^ 32) ∧
      (s.startCause ≠ 4 → t.get PWR.SAVE_RESULT = (if s.power.ran = true then (if s.power.word.isSome = true then 1 else 2) else 0)) ∧
      (s.startCause ≠ 2 → t.get PWR.OUTAGE_MS = 0) ∧ (s.startCause = 2 → (t.get (HDR.IRQ_RAW 1)).testBit 3 = true) ∧
      (s.startCause = 2 → s.on PWR.HOLD_READY = false → s.get PWR.HOLD_WAIT_S ≠ 0 → t.power.waiting = true ∧ t.roleA = .off ∧ t.roleB = .off) ∧
      (s.startCause = 2 → s.on PWR.HOLD_READY = true ∨ s.get PWR.HOLD_WAIT_S = 0 → s.eligibility s.prefWick = 0 → warms s t))) ∧
  (∀ (s : State) (resetHigh pfailHigh : Bool) (lost : Option (Bool × Bool)),
    (s.pdOn 0 = false → exec (.moduleStart lost resetHigh pfailHigh) s = .next s) ∧
    (s.pdOn 0 = true → s.on PWR.VIN_OK = false ∨ s.power.started = true ∨ s.saving = true ∨ resetHigh = false ∨
        (pfailHigh = false ∧ s.on PWR.VIO_OK = true) →
      Answers (exec (.moduleStart lost resetHigh pfailHigh) s) (fun t => t.on PWR.PFAIL_LEVEL = (!pfailHigh) ∧ KeepsRegs s t [PWR.PFAIL_LEVEL] ∧
        t = { s with regs := t.regs, power := { s.power with resetLow := !resetHigh } }))) ∧
  (∀ (s : State) (mv : BitVec 16), s.pdOn 0 = true →
    (mv.toNat < 11500 ∨ s.power.waiting = false → Answers (exec (.holdReady mv) s) (fun t => t.get PWR.VHOLD_MV = mv.toNat ∧
      t.on PWR.HOLD_READY = decide (11500 ≤ mv.toNat) ∧ KeepsRegs s t [PWR.VHOLD_MV, PWR.HOLD_READY] ∧ t = { s with regs := t.regs })) ∧
    (11500 ≤ mv.toNat → s.power.waiting = true → s.roleA = .off → s.roleB = .off → s.eligibility s.prefWick = 0 →
      Answers (exec (.holdReady mv) s) (fun t => t.on PWR.HOLD_READY = true ∧ warms s t ∧ t.keys = s.keys ∧
        (s.upd.dry = none → t.cfg = s.cfg)))) ∧
  (∀ (s : State),
    (s.power.waiting = true → s.holdWaited = true → s.on PWR.HOLD_READY = false → s.roleA = .off → s.roleB = .off → s.eligibility s.prefWick = 0 →
      Answers (exec .holdWaitExpiry s) (fun t => warms s t ∧ t.keys = s.keys ∧ (s.upd.dry = none → t.cfg = s.cfg) ∧
        (s.bist = none → s.arb.testing = [] → s.upd.dry = none → t.log = (s.event srcPilot 0x0201 []).log))) ∧
    (s.power.waiting = false ∨ s.holdWaited = false ∨ s.on PWR.HOLD_READY = true → exec .holdWaitExpiry s = .next s)) ∧
  (∀ (s : State) (mv : BitVec 16), s.pdOn 0 = true → 11500 ≤ mv.toNat → s.power.waiting = true → Answers (exec (.holdReady mv) s) (fun t =>
    t.power = { s.power with waiting := false, warmed := true } ∧ t.keys = s.keys)) ∧
  (∀ s : State, s.power.waiting = true → s.holdWaited = true → s.on PWR.HOLD_READY = false → Answers (exec .holdWaitExpiry s) (fun t =>
    t.power = { s.power with waiting := false, warmed := true } ∧ t.keys = s.keys))

/-- The final save and the factory reset (R367, R368, R371): a trigger starts one save, which freezes both metering domains, commits their
states, the ledger and its trigger word, and leaves only PD0 on; PD0 goes off with VHOLD below 7 V and VIN away; a keyed factory reset
erases the module. Where it says more than those rules it follows a choice or a reading of the model: log entries 8, 143, 165. -/
def Obligations.SavesEndWithPilotAlone : Prop :=
  let begun := fun (s t : State) (trigger : Nat) => t.saving = true ∧ t.power.started = false ∧ t.power.ran = true ∧ t.power.word = none ∧
    t.power.saveTrig = trigger ∧ t.power.saveSince = s.base ∧ t.get PWR.PFAIL_CNT = min (s.get PWR.PFAIL_CNT + 1) 0xFFFF ∧ t.cab.tx = [] ∧
    t.cab.csb = false ∧ (s.cab.csb = true → (t.get (HDR.IRQ_RAW 0xE)).testBit 4 = true) ∧
    (∀ w : Wick, t.link.onAir.get? w.idx = none ∧ t.link.grants.get? w.idx = none) ∧ t.roleA = s.roleA ∧ t.roleB = s.roleB ∧ t.cfg = s.cfg ∧ t.keys = s.keys
  (∀ (s : State),
    (s.power.started = true → s.saving = false → Answers (exec .resetNLow s) (fun t => begun s t 3 ∧ t.power.resetLow = true)) ∧
    (s.power.started = false ∨ s.saving = true → exec .resetNLow s = .next { s with power := { s.power with resetLow := true } }) ∧
    (s.power.started = true → s.saving = false → s.on PWR.VIO_OK = true → s.pdOn 0 = true → Answers (exec .pfailNFall s) (fun t =>
      begun s t 1 ∧ t.on PWR.PFAIL_LEVEL = true)) ∧
    (s.pdOn 0 = true → s.on PWR.VIO_OK = false ∨ s.power.started = false ∨ s.saving = true → Answers (exec .pfailNFall s) (fun t =>
      t.on PWR.PFAIL_LEVEL = true ∧ KeepsRegs s t [PWR.PFAIL_LEVEL] ∧ t = { s with regs := t.regs })) ∧
    (s.pdOn 0 = false → exec .pfailNFall s = .next s) ∧
    (∀ mv : BitVec 16, 1600 ≤ mv.toNat → s.on PWR.PFAIL_LEVEL = true → s.pdOn 0 = true → s.power.started = true → s.saving = false →
      Answers (exec (.vioReturn mv) s) (fun t => begun s t 1 ∧ t.get PWR.VIO_MV = mv.toNat ∧ t.on PWR.VIO_OK = true)) ∧
    (∀ mv : BitVec 16, mv.toNat < 8500 → s.power.started = true → s.saving = false → Answers (exec (.vinMonitorTrip mv) s) (fun t =>
      begun s t 2 ∧ t.get PWR.VIN_MV = mv.toNat ∧ t.on PWR.VIN_OK = false)) ∧
    (∀ mv : BitVec 16, 8500 ≤ mv.toNat → exec (.vinMonitorTrip mv) s = .next s)) ∧
  (∀ (s : State),
    (s.saving = false → exec .finalSave s = .next s) ∧
    (s.saving = true → Answers (exec .finalSave s) (fun t => t.regs = s.regs ∧ t.ledger = s.ledger ∧ t.saving = true ∧
      (∀ w : Wick, (s.on (HDR.RUNNING (w.page 7)) = true → (t.dom w).frozen = true) ∧ (s.on (HDR.RUNNING (w.page 7)) = false → t.dom w = s.dom w))))) ∧
  (∀ (s : State) (valid : Bool),
    (s.saving = false → exec (.finalSaveDone valid) s = .next s) ∧
    (s.saving = true → Answers (exec (.finalSaveDone valid) s) (fun t => t.saving = false ∧ t.roleA = .off ∧ t.roleB = .off ∧ t.pdOn 0 = s.pdOn 0 ∧
      (∀ n : Nat, t.pdOn (n + 1) = false) ∧ t.power.started = false ∧ t.power.word = (if valid = true then some s.power.saveTrig else s.power.word) ∧
      t.hl.opening = none ∧ t.hl.key = s.hl.key ∧ t.keys = s.keys ∧ t.cfg = s.cfg ∧
      (valid = true → t.ledger.snapValid = true ∧ t.ledger.snapTime = s.now ∧ t.ledger.snapTrusted = s.on TIME.TRUSTED) ∧
      (valid = false → t.ledger = s.ledger)))) ∧
  (∀ (s : State) (mv : BitVec 16),
    (mv.toNat < 7000 → s.get PWR.VIN_MV < 8500 → s.pdOn 0 = true → Answers (exec (.vholdExhausted mv) s) (fun t => t.get PWR.PD_ON = 0 ∧
      t.get PWR.VHOLD_MV = mv.toNat ∧ t.on PWR.HOLD_READY = false ∧ t.on PWR.XTAL_OK = false ∧ t.roleA = .off ∧ t.roleB = .off ∧
      t.power.restored = false ∧ t.hl.key = none ∧ t.keys = s.keys ∧ t.cfg = s.cfg ∧ t.ledger = s.ledger)) ∧
    (7000 ≤ mv.toNat ∨ 8500 ≤ s.get PWR.VIN_MV ∨ s.pdOn 0 = false → exec (.vholdExhausted mv) s = .next s)) ∧
  (∀ (s : State) (m : Master) (v : BitVec 16), s.MayWrite m 1 0x05C →
    (m = .mss ∨ m = .hostS → Answers (exec (.frKeyWrite m v) s) (fun t =>
      t.power.frKey.get? m.id = (if v = 0x5C4F then some s.base else none) ∧ t = { s with power := { s.power with frKey := t.power.frKey } })) ∧
    (m ≠ .mss → m ≠ .hostS → ∀ c ∈ [Instr.frKeyWrite m v, .factoryReset m], Answers (exec c s) (fun t => t.get PWR.CMD_STATUS = 2 ∧
      t.get (HDR.ERR_COUNT 1) = min (s.get (HDR.ERR_COUNT 1) + 1) 0xFFFF ∧
      KeepsRegs s t [PWR.CMD_STATUS, HDR.ERR_COUNT 1, HDR.ERR_FIRST 1] ∧ t = { s with regs := t.regs }))) ∧
  (∀ (s : State) (m : Master), s.MayWrite m 1 0x05C → m = .mss ∨ m = .hostS →
    (∀ b, s.power.frKey.get? m.id = some b → s.base ≤ b + secs 1 → Answers (exec (.factoryReset m) s) (fun t => t.now = 0 ∧ t.journal = [] ∧
      t.jseq = 0 ∧ t.roleA = .off ∧ t.roleB = .off ∧ t.power.factory = true ∧ t.power.frKey = [] ∧ t.cfg = State.reset.cfg ∧ t.reg = State.reset.reg ∧
      t.keys = s.keys ∧
      (∀ f : Field, f.key ∉ factoryKeys → f.key ∉ [EVLOG.QUEUE_LOST_CNT, HDR.IRQ_RAW 6].map Field.key → t.get f = f.reset))) ∧
    ((∀ b, s.power.frKey.get? m.id = some b → b + secs 1 < s.base) → Answers (exec (.factoryReset m) s) (fun t => t.get PWR.CMD_STATUS = 1 ∧
      KeepsRegs s t [PWR.CMD_STATUS] ∧ t = { s with regs := t.regs })))

/-! ### Cabinet I/O (R373 to R379, R382) -/

/-- Contactors and GPIO (R373 to R376): a wick leaves the outputs of KO_HOST_MASK alone; a feedback input restarts its mismatch timer; a
disagreement that lasts KF_DELAY_MS raises KO_MISMATCH; chosen edges set GPIO_EVT, which a write of ones clears. Where it says more than
those rules it follows a choice or a reading of the model: log entries 2, 172. -/
def Obligations.ContactorsAndPinsAreWatched : Prop :=
  (∀ (s : State) (m : Master) (v : BitVec 4), s.MayWrite m 0xE 0x040 → Answers (exec (.koOutWrite m v) s) (fun t =>
    (∀ n : Fin 4, bit (t.get CABINET_IO.KO_OUT) n.val =
      (if (m = .wickA ∨ m = .wickB) ∧ bit (s.get CABINET_IO.KO_HOST_MASK) n.val = true then bit (s.get CABINET_IO.KO_OUT) n.val else bit v.toNat n.val)) ∧
    (∀ n : Fin 4, t.timers.get? (tmKf n.val) = (if bit s.koState n.val = bit t.koState n.val then s.timers.get? (tmKf n.val)
      else some (s.base + millis (s.get CABINET_IO.KF_DELAY_MS)))) ∧
    KeepsRegs s t [CABINET_IO.KO_OUT] ∧ t = { s with regs := t.regs, timers := t.timers })) ∧
  (∀ (s : State) (n : Fin 4) (v : Bool), s.pdOn 0 = true →
    (bit s.cab.kf n.val ≠ v → Answers (exec (.kfInputChange n v) s) (fun t => bit t.cab.kf n.val = v ∧
      (∀ k : Nat, k ≠ n.val → bit t.cab.kf k = bit s.cab.kf k) ∧ t.timers = s.timers.put (tmKf n.val) (s.base + millis (s.get CABINET_IO.KF_DELAY_MS)) ∧
      t = { s with cab := { s.cab with kf := t.cab.kf }, timers := t.timers })) ∧
    (bit s.cab.kf n.val = v → exec (.kfInputChange n v) s = .next s)) ∧
  (∀ (s : State) (n : Fin 4), s.pdOn 0 = true → s.due (tmKf n.val) = true →
    (bit s.kfIn n.val = bit s.koState n.val → bit (s.get CABINET_IO.KF_CHECK) n.val = true → bit (s.get CABINET_IO.KO_MISMATCH) n.val = false →
      Answers (exec (.kfMismatchTimer n) s) (fun t => bit (t.get CABINET_IO.KO_MISMATCH) n.val = true ∧ (t.get (HDR.IRQ_RAW 0xE)).testBit 0 = true ∧
        t.log = (s.event srcPilot 0x0203 [n.val, s.koState, s.kfIn]).log ∧
        KeepsRegs s t [CABINET_IO.KO_MISMATCH, HDR.IRQ_RAW 0xE, EVLOG.QUEUE_LOST_CNT, HDR.IRQ_RAW 6] ∧
        t = { s with regs := t.regs, timers := s.timers.del (tmKf n.val), log := t.log })) ∧
    (bit s.kfIn n.val ≠ bit s.koState n.val → Answers (exec (.kfMismatchTimer n) s) (fun t => bit (t.get CABINET_IO.KO_MISMATCH) n.val = false ∧
      KeepsRegs s t [CABINET_IO.KO_MISMATCH] ∧ t = { s with regs := t.regs, timers := s.timers.del (tmKf n.val) }))) ∧
  (∀ (s : State) (n : Fin 12) (rising : Bool),
    (s.pdOn 0 = true → s.on PWR.VIO_OK = true → Answers (exec (.gpioEdge n rising) s) (fun t => bit (t.get CABINET_IO.GPIO_IN) n.val = rising ∧
      (s.edgeSeen n.val rising = true → bit (t.get CABINET_IO.GPIO_EVT) n.val = true ∧ (t.get (HDR.IRQ_RAW 0xE)).testBit 1 = true) ∧
      (s.edgeSeen n.val rising = false → KeepsRegs s t [CABINET_IO.GPIO_IN]) ∧
      KeepsRegs s t [CABINET_IO.GPIO_IN, CABINET_IO.GPIO_EVT, HDR.IRQ_RAW 0xE] ∧ t = { s with regs := t.regs })) ∧
    (s.pdOn 0 = false ∨ s.on PWR.VIO_OK = false → exec (.gpioEdge n rising) s = .next s)) ∧
  (∀ (s : State) (m : Master) (v same : Word), s.MayWrite m 0xE 0x060 → Answers (exec (.gpioEvtClear m v same) s) (fun t =>
    (∀ n : Fin 12, bit (t.get CABINET_IO.GPIO_EVT) n.val = (bit (s.get CABINET_IO.GPIO_EVT) n.val && (!bit v.toNat n.val || bit same.toNat n.val))) ∧
    KeepsRegs s t [CABINET_IO.GPIO_EVT] ∧ t = { s with regs := t.regs }))

/-- The UART and the CSB controller (R378, R379): bytes queue 64 deep both ways, an overrun is flagged, RX_DATA hands out the oldest byte with
its errors; a GO runs one transfer at a time and its end stores the bytes read. That a transfer is refused also while CSB_EN is 0, and a
byte written while UART_EN is 0 goes nowhere, is the model's choice. Where it says more than those rules it follows a choice or a reading
of the model: log entries 170, 171. -/
def Obligations.SerialPortsMoveBytes : Prop :=
  (∀ (s : State) (m : Master) (v : Byte), s.MayWrite m 0xE 0x074 → s.on CABINET_IO.UART_EN = true →
    (s.cab.tx.length < 64 → exec (.txDataWrite m v) s = .next { s with cab := { s.cab with tx := s.cab.tx ++ [v] } }) ∧
    (64 ≤ s.cab.tx.length → Answers (exec (.txDataWrite m v) s) (fun t => t.on CABINET_IO.TX_OVF = true ∧ KeepsRegs s t [CABINET_IO.TX_OVF] ∧
      t = { s with regs := t.regs }))) ∧
  (∀ (s : State),
    (s.uartRuns = true → s.cab.tx ≠ [] → Answers (exec .uartTxEmpty s) (fun t => (t.get (HDR.IRQ_RAW 0xE)).testBit 3 = true ∧
      KeepsRegs s t [HDR.IRQ_RAW 0xE] ∧ t = { s with regs := t.regs, cab := { s.cab with tx := [] } })) ∧
    (s.uartRuns = false ∨ s.cab.tx = [] → exec .uartTxEmpty s = .next s)) ∧
  (∀ (s : State) (v : Byte) (parity frame : Bool),
    (s.uartRuns = true → s.cab.tx = [] → s.cab.rx.length < 64 → Answers (exec (.uartByteReceived v parity frame) s) (fun t =>
      (t.get (HDR.IRQ_RAW 0xE)).testBit 2 = true ∧ KeepsRegs s t [HDR.IRQ_RAW 0xE] ∧
      t = { s with regs := t.regs, cab := { s.cab with rx := s.cab.rx ++ [(v, parity, frame)] } })) ∧
    (s.uartRuns = true → s.cab.tx = [] → 64 ≤ s.cab.rx.length → Answers (exec (.uartByteReceived v parity frame) s) (fun t =>
      t.on CABINET_IO.RX_OVF = true ∧ KeepsRegs s t [CABINET_IO.RX_OVF] ∧ t = { s with regs := t.regs })) ∧
    (s.uartRuns = false ∨ s.cab.tx ≠ [] → exec (.uartByteReceived v parity frame) s = .next s)) ∧
  (∀ (s : State) (m : Master), s.MayRead m 0xE →
    (∀ (v : Byte) (p f : Bool) (rest : List (Byte × Bool × Bool)), s.cab.rx = (v, p, f) :: rest → exec (.rxDataRead m) s =
      .next { s with busData := BitVec.ofNat 32 (v.toNat + 2 ^ 8 + 2 ^ 9 * b2n p + 2 ^ 10 * b2n f), cab := { s.cab with rx := rest } }) ∧
    (s.cab.rx = [] → exec (.rxDataRead m) s = .next { s with busData := 0 })) ∧
  (∀ (s : State) (m : Master), s.MayWrite m 0xE 0x008 → Answers (exec (.uartDisable m) s) (fun t => t.on CABINET_IO.UART_EN = false ∧
    KeepsRegs s t [CABINET_IO.UART_EN] ∧ t = { s with regs := t.regs, cab := { s.cab with tx := [], rx := [] } })) ∧
  (∀ (s : State) (m : Master), s.MayWrite m 0xE 0x084 →
    (s.cab.csb = false → s.get CABINET_IO.CSB_WLEN ≠ 0 ∨ s.get CABINET_IO.CSB_RLEN ≠ 0 → s.on CABINET_IO.CSB_EN = true → s.saving = false →
      Answers (exec (.go m) s) (fun t => t.get CABINET_IO.CSB_STATUS = 1 ∧ KeepsRegs s t [CABINET_IO.CSB_STATUS] ∧
        t = { s with regs := t.regs, cab := { s.cab with csb := true } })) ∧
    (s.cab.csb = true ∨ (s.get CABINET_IO.CSB_WLEN = 0 ∧ s.get CABINET_IO.CSB_RLEN = 0) → Answers (exec (.go m) s) (fun t =>
      t.get CABINET_IO.CSB_STATUS = 6 ∧ KeepsRegs s t [CABINET_IO.CSB_STATUS] ∧ t = { s with regs := t.regs }))) ∧
  (∀ (s : State) (code : Fin 4) (data : List Byte),
    (s.cab.csb = true → data.length ≤ 16 → Answers (exec (.csbTransferEnd code data) s) (fun t => t.get CABINET_IO.CSB_STATUS = code.val + 2 ∧
      (t.get (HDR.IRQ_RAW 0xE)).testBit 4 = true ∧
      t.wordBytes CABINET_IO.CSB_RDATA 4 =
        data.take (s.get CABINET_IO.CSB_RLEN) ++ (s.wordBytes CABINET_IO.CSB_RDATA 4).drop (data.take (s.get CABINET_IO.CSB_RLEN)).length ∧
      KeepsRegs s t (CABINET_IO.CSB_STATUS :: HDR.IRQ_RAW 0xE :: (List.range 4).map CABINET_IO.CSB_RDATA) ∧
      t = { s with regs := t.regs, cab := { s.cab with csb := false } })) ∧
    (s.cab.csb = false → exec (.csbTransferEnd code data) s = .next s))

/-! ### The key vault (R383 to R398) -/

/-- The vault's root, its slots and its random generator (R384 to R391, R397): the root is regenerated, retried three times, or enrolled; an
register a new mask. Where it says more than those rules it follows a choice or a reading of the model: log entries 2, 134, 135, 136, 138. -/
def Obligations.VaultHoldsItsRootAndSlots : Prop :=
  (∀ (s : State) (good : Bool) (permille : BitVec 10) (lost : List (Fin 7)),
    (s.pdOn 8 = true → s.vault.root = [] → s.vault.tries = 0 → Answers (exec (.vaultPowerOn good permille lost) s) (fun t =>
      t.on VAULT.RNG_OK = true ∧
      (s.on TAMPER.MARK_PENDING = false → s.vault.helper = true → t.get VAULT.PUF_ERR_PERMILLE = permille.toNat ∧
        (∀ n : Nat, t.keys.get? n = (if n ∈ lost.map Fin.val then none else s.keys.get? n)) ∧
        t.get VAULT.NEXT_READY = (if t.keys.has (2 + (s.get VAULT.SEG_EPOCH + 1) % 2) = true then s.get VAULT.NEXT_READY else 0) ∧
        (80 < permille.toNat → (t.get (HDR.IRQ_RAW 9)).testBit 5 = true) ∧
        (good = true → t.vault = { s.vault with root := sha256 s.vault.pattern, masks := t.vault.masks } ∧ t.on VAULT.ROOT_OK = true) ∧
        (good = false → t.vault = { s.vault with tries := 1 } ∧ t.get VAULT.ROOT_OK = s.get VAULT.ROOT_OK)) ∧
      (s.on TAMPER.MARK_PENDING = true ∨ s.vault.helper = false → t.vault.helper = true ∧ t.vault.pattern.length = 32 ∧
        t.vault.root = sha256 t.vault.pattern ∧ t.keys = [] ∧ t.on VAULT.ROOT_OK = true ∧ t.on TAMPER.MARK_PENDING = false) ∧
      KeepsRegs s t [VAULT.RNG_OK, VAULT.PUF_ERR_PERMILLE, VAULT.ROOT_OK, VAULT.NEXT_READY, TAMPER.MARK_PENDING, HDR.IRQ_RAW 9, EVLOG.QUEUE_LOST_CNT, HDR.IRQ_RAW 6] ∧
      t = { s with regs := t.regs, keys := t.keys, vault := t.vault, log := t.log, fresh := t.fresh })) ∧
    (s.pdOn 8 = false ∨ s.vault.root ≠ [] ∨ s.vault.tries ≠ 0 → exec (.vaultPowerOn good permille lost) s = .next s)) ∧
  (∀ (s : State) (good : Bool),
    (s.pdOn 8 = true → s.vault.root = [] → 1 ≤ s.vault.tries → s.vault.tries ≤ 3 → Answers (exec (.rootRetry good) s) (fun t =>
      t.get VAULT.ROOT_RETRY_CNT = min (s.get VAULT.ROOT_RETRY_CNT + 1) 0xFFFF ∧
      (good = true → t.vault = { s.vault with root := sha256 s.vault.pattern, masks := t.vault.masks } ∧ t.on VAULT.ROOT_OK = true ∧ t.log = s.log) ∧
      (good = false → t.vault = { s.vault with tries := s.vault.tries + 1 } ∧ t.get VAULT.ROOT_OK = s.get VAULT.ROOT_OK ∧
        t.log = (if s.vault.tries = 3 then (s.event srcVault 0x0A02 []).log else s.log)) ∧
      KeepsRegs s t [VAULT.ROOT_RETRY_CNT, VAULT.ROOT_OK, EVLOG.QUEUE_LOST_CNT, HDR.IRQ_RAW 6] ∧
      t = { s with regs := t.regs, vault := t.vault, log := t.log, fresh := t.fresh })) ∧
    (s.pdOn 8 = false ∨ s.vault.root ≠ [] ∨ s.vault.tries = 0 ∨ 4 ≤ s.vault.tries → exec (.rootRetry good) s = .next s)) ∧
  (∀ (s : State) (ch : Fin 16) (kat : Bool),
    let b := s.window.read (s.messageAt ch.val) (s.get (MBOX.LENGTH ch.val))
    let code := (s.importCode b kat).1
    (s.mssMessage ch.val 0x0102 = true → Answers (exec (.vaultImport ch kat) s) (fun t => t.on (MBOX.PENDING ch.val) = false ∧
      t.get (MBOX.RESULT ch.val) = code ∧ t.get VAULT.LAST_IMP_CODE = code ∧ t.get VAULT.LAST_IMP_SLOT = blobNum b 3 1 % 32 ∧
      (b.length < 5 → code = 0x0101) ∧
      (code = 0 → s.on VAULT.ROOT_OK = true ∧ s.saving = false ∧ kat = true ∧ s.slotGen (blobNum b 3 1) < blobNum b 8 4 ∧
        t.get VAULT.IMPORT_CNT = min (s.get VAULT.IMPORT_CNT + 1) 0xFFFF ∧ (t.get (HDR.IRQ_RAW 9)).testBit 0 = true ∧
        (∀ n : Nat, n ≠ blobNum b 3 1 → t.keys.get? n = s.keys.get? n) ∧
        ∃ x : SlotKey, t.keys.get? (blobNum b 3 1) = some x ∧ x.gen = blobNum b 8 4 ∧ s.blobKey b = some x.key) ∧
      (code ≠ 0 → t.keys = s.keys ∧ t.get VAULT.IMPORT_FAIL_CNT = min (s.get VAULT.IMPORT_FAIL_CNT + 1) 0xFFFF ∧ t.log = s.log ∧
        t.vault = s.vault) ∧
      t = { s with regs := t.regs, keys := t.keys, log := t.log, chWaiting := t.chWaiting, vault := { s.vault with masks := t.vault.masks }, fresh := t.fresh })) ∧
    (s.mssMessage ch.val 0x0102 = false → exec (.vaultImport ch kat) s = .next s)) ∧
  (∀ (s : State) (ch : Fin 16), s.mssMessage ch.val 0x0101 = true → Answers (exec (.vaultIdentity ch) s) (fun t =>
    t.on (MBOX.PENDING ch.val) = false ∧
    t.get (MBOX.RESULT ch.val) = (if s.get (MBOX.LENGTH ch.val) < 64 then 0x0101 else if s.on VAULT.ROOT_OK = false then 0x0104 else 0) ∧
    t.window = (if 64 ≤ s.get (MBOX.LENGTH ch.val) ∧ s.on VAULT.ROOT_OK = true then s.window.write (s.messageAt ch.val) (s.devicePub.take 64) else s.window) ∧
    KeepsRegs s t [MBOX.PENDING ch.val, MBOX.ANNOUNCED ch.val, MBOX.RESULT ch.val, HDR.IRQ_RAW (chPage ch.val)] ∧
    t = { s with regs := t.regs, window := t.window, chWaiting := t.chWaiting })) ∧
  (∀ (s : State), s.pdOn 8 = true →
    Answers (exec .rngHealthFail s) (fun t => t.on VAULT.RNG_OK = false ∧ t.get VAULT.RNG_FAIL_CNT = min (s.get VAULT.RNG_FAIL_CNT + 1) 0xFFFF ∧
      KeepsRegs s t [VAULT.RNG_OK, VAULT.RNG_FAIL_CNT] ∧ t = { s with regs := t.regs, vault := { s.vault with rngDown := true } }) ∧
    Answers (exec .rngRestartDone s) (fun t => t.on VAULT.RNG_OK = true ∧ KeepsRegs s t [VAULT.RNG_OK] ∧
      t = { s with regs := t.regs, vault := { s.vault with rngDown := false } }) ∧
    (s.armed tmMask = false ∨ s.due tmMask = true → Answers (exec .remask s) (fun t =>
      (s.vault.rngDown = true → t.vault = s.vault ∧ t.fresh = s.fresh) ∧
      (s.vault.rngDown = false → (∀ r ∈ s.keyRegisters, (t.vault.masks.get? r.1).isSome = true) ∧
        (∀ n : Nat, n ∉ s.keyRegisters.map Prod.fst → t.vault.masks.get? n = s.vault.masks.get? n)) ∧
      t = { s with timers := s.timers.put tmMask (s.base + secs (s.get VAULT.REMASK_S)), vault := { s.vault with masks := t.vault.masks }, fresh := t.fresh })) ∧
    (s.armed tmMask = true → s.due tmMask = false → exec .remask s = .next s))

/-- Segment key epochs (R393 to R395, R405): PUSH lists the lanterns that still need the next key; ROLL arms an instant on a beacon boundary;
at it the epoch advances, both counters restart and the previous key is tried for three beacon intervals. Where it says more than those
rules it follows a choice or a reading of the model: log entries 2, 140, 141. -/
def Obligations.KeysRollAtTheirInstant : Prop :=
  (∀ (s : State) (m : Master), s.MayWrite m 9 0x058 → m = .mss ∨ m = .hostS →
    (s.author ≠ none → s.on VAULT.NEXT_READY = true → s.on VAULT.ROLL_ARMED = false → Answers (exec (.push m) s) (fun t =>
      t.get VAULT.KEY_STATUS = 0 ∧ t.keyLeft = s.registeredList ∧ KeepsRegs s t [VAULT.KEY_STATUS] ∧
      t = { s with regs := t.regs, keyLeft := t.keyLeft, jseq := s.jot.jseq, ring := s.jot.ring })) ∧
    (∀ force : Bool, s.author ≠ none → s.on VAULT.NEXT_READY = true → s.on VAULT.ROLL_ARMED = false → s.keyLeft = [] ∨ force = true →
      Answers (exec (.roll m force) s) (fun t => t.get VAULT.KEY_STATUS = 0 ∧ t.on VAULT.ROLL_ARMED = true ∧
        t.get2 VAULT.ROLL_AT_LO VAULT.ROLL_AT_HI = nextMultiple (s.now + 3277) s.active.beaconTicks % 2 ^ 48 ∧
        KeepsRegs s t [VAULT.KEY_STATUS, VAULT.ROLL_ARMED, VAULT.ROLL_AT_LO, VAULT.ROLL_AT_HI] ∧
        t = { s with regs := t.regs, vault := { s.vault with rolled := false }, jseq := s.jot.jseq, ring := s.jot.ring })) ∧
    (s.keyLeft ≠ [] → s.author ≠ none → s.on VAULT.NEXT_READY = true → s.on VAULT.ROLL_ARMED = false → Answers (exec (.roll m false) s) (fun t =>
      t.get VAULT.KEY_STATUS = 2 ∧ KeepsRegs s t [VAULT.KEY_STATUS] ∧ t = { s with regs := t.regs })) ∧
    (∀ force : Bool, ∀ c ∈ [Instr.push m, .roll m force], s.author = none ∨ s.on VAULT.NEXT_READY = false ∨ s.on VAULT.ROLL_ARMED = true →
      Answers (exec c s) (fun t => t.get VAULT.KEY_STATUS = (if s.author = none then 3 else if s.on VAULT.NEXT_READY = false then 1 else 4) ∧
        KeepsRegs s t [VAULT.KEY_STATUS] ∧ t = { s with regs := t.regs })) ∧
    (s.on VAULT.ROLL_ARMED = true → s.rollDue = false → Answers (exec (.keyCancel m) s) (fun t => t.get VAULT.KEY_STATUS = 0 ∧
      t.on VAULT.ROLL_ARMED = false ∧ KeepsRegs s t [VAULT.KEY_STATUS, VAULT.ROLL_ARMED] ∧ t = { s with regs := t.regs, jseq := s.jot.jseq, ring := s.jot.ring })) ∧
    (s.on VAULT.ROLL_ARMED = false ∨ s.rollDue = true → Answers (exec (.keyCancel m) s) (fun t =>
      t.get VAULT.KEY_STATUS = (if s.rollDue = true ∨ s.vault.rolled = true then 5 else 6) ∧ KeepsRegs s t [VAULT.KEY_STATUS] ∧
      t = { s with regs := t.regs }))) ∧
  (∀ (s : State) (m : Master) (force : Bool), s.MayWrite m 9 0x058 → m ≠ .mss → m ≠ .hostS → ∀ c ∈ [Instr.push m, .roll m force, .keyCancel m],
    Answers (exec c s) (fun t => t.get VAULT.KEY_STATUS = 7 ∧ KeepsRegs s t [VAULT.KEY_STATUS] ∧ t = { s with regs := t.regs })) ∧
  (∀ (s : State),
    (s.rollDue = true → Answers (exec .rollInstant s) (fun t => t.get VAULT.SEG_EPOCH = (s.get VAULT.SEG_EPOCH + 1) % 256 ∧
      t.on VAULT.ROLL_ARMED = false ∧ t.on VAULT.NEXT_READY = false ∧ (t.get (HDR.IRQ_RAW 9)).testBit 1 = true ∧
      KeepsRegs s t [VAULT.SEG_EPOCH, VAULT.ROLL_ARMED, VAULT.NEXT_READY, HDR.IRQ_RAW 9] ∧
      t = { s with regs := t.regs, keyLeft := [], link := { s.link with fcnt := [], fcntCeiling := [], records := [] }, vault := { s.vault with rolled := true }, timers := s.timers.put tmGrace (s.base + 3 * s.active.beaconTicks) })) ∧
    (s.rollDue = false → exec .rollInstant s = .next s) ∧
    (s.due tmGrace = true → exec .rollGraceEnd s = .next { s with timers := s.timers.del tmGrace }) ∧
    (s.due tmGrace = false → exec .rollGraceEnd s = .next s))

/-! ### Tamper inputs and the Snuffer line (R399 to R406) -/

/-- The Snuffer line (R399 to R404): an armed loop that breaks, an armed lid that opens or a keyed command fires it, which ends every key, the
sessions and the root at once; TLOOP_OUT never drives three equal bits in a row; a trigger during a snuff is only counted; arming a broken
source is refused; the overwrite and a new enrolment follow; the test port's unlock exchange is refused unless TP_EN is high and SNUFFED
is 1 (R439). Where it says more than those rules it follows a choice or a reading of the model: log entries 134, 138, 139, 142, 143. -/
def Obligations.SnufferEndsEveryKey : Prop :=
  let fired := fun (s t : State) (cause : Nat) => t.get TAMPER.SNUFF_CNT = min (s.get TAMPER.SNUFF_CNT + 1) 0xFFFF ∧ t.roleA = s.roleA ∧
    t.roleB = s.roleB ∧ t.cfg = s.cfg ∧ t.reg = s.reg ∧ t.vault.helper = s.vault.helper ∧
    (s.snuffing = false → t.keys = [] ∧ t.keyLeft = [] ∧ t.vault.root = [] ∧ t.on TAMPER.SNUFFED = true ∧ t.on TAMPER.MARK_PENDING = true ∧
      t.get TAMPER.LAST_CAUSE = cause ∧ t.get TAMPER.LAST_TIME = s.now / 65536 % 2 ^ 32 ∧ t.on VAULT.ROOT_OK = false ∧ t.on VAULT.NEXT_READY = false ∧
      t.hl.key = none ∧ t.fab.remote.state = 0 ∧ (t.get (HDR.IRQ_RAW 0xB)).testBit 0 = true) ∧
    (s.snuffing = true → t.keys = s.keys ∧ t.vault.root = s.vault.root ∧ t.get TAMPER.LAST_CAUSE = s.get TAMPER.LAST_CAUSE ∧ t.log = s.log ∧ t.hl = s.hl)
  (∀ (s : State) (level : Bool),
    let same := decide (level = s.vault.out.headD false)
    let l := ((!same) :: s.vault.loop).take 9
    let ok := decide ((l.filter id).length < 3)
    Answers (exec (.loopSample level) s) (fun t => t.on TAMPER.LOOP_OK = ok ∧ t.vault.loop = l ∧
      t.get TAMPER.LOOP_ERR_CNT = (if same = true then s.get TAMPER.LOOP_ERR_CNT else min (s.get TAMPER.LOOP_ERR_CNT + 1) 0xFFFF) ∧
      (∃ b : Bool, t.vault.out = (b :: s.vault.out).take 2 ∧ ∀ (x : Bool) (rest : List Bool), s.vault.out = x :: x :: rest → b = !x) ∧
      (s.on TAMPER.LOOP_OK = true → ok = false → s.loopArmed = true → fired s t 1) ∧
      (s.on TAMPER.LOOP_OK = false ∨ ok = true ∨ s.loopArmed = false → KeepsRegs s t [TAMPER.LOOP_OK, TAMPER.LOOP_ERR_CNT] ∧
        t = { s with regs := t.regs, vault := { s.vault with loop := l, out := t.vault.out }, fresh := t.fresh }))) ∧
  (∀ (s : State),
    (s.on TAMPER.LID_CLOSED = true → Answers (exec .lidOpen s) (fun t => t.on TAMPER.LID_CLOSED = false ∧ (s.lidArmed = true → fired s t 2) ∧
      (s.lidArmed = false → KeepsRegs s t [TAMPER.LID_CLOSED] ∧ t = { s with regs := t.regs }))) ∧
    (s.on TAMPER.LID_CLOSED = false → exec .lidOpen s = .next s) ∧
    (s.on TAMPER.LID_CLOSED = true → Answers (exec .lidClose s) (fun t =>
      t.get TAMPER.LID_BOUNCE_CNT = min (s.get TAMPER.LID_BOUNCE_CNT + 1) 0xFFFF ∧ KeepsRegs s t [TAMPER.LID_BOUNCE_CNT] ∧ t = { s with regs := t.regs })) ∧
    (s.on TAMPER.LID_CLOSED = false → Answers (exec .lidClose s) (fun t => t.on TAMPER.LID_CLOSED = true ∧ KeepsRegs s t [TAMPER.LID_CLOSED] ∧
      t = { s with regs := t.regs }))) ∧
  (∀ (s : State) (m : Master) (en loop lid : Bool), s.MayWrite m 0xB 0x008 →
    let mine := m = .mss ∨ m = .hostS
    let clears := (s.on (HDR.ENABLE 0xB) = true ∧ en = false) ∨ (s.on TAMPER.LOOP_EN = true ∧ loop = false) ∨ (s.on TAMPER.LID_EN = true ∧ lid = false)
    let all := [TAMPER.LOOP_EN, TAMPER.LID_EN, HDR.ENABLE 0xB, TAMPER.ARM_STATUS]
    (clears → ¬ mine → Answers (exec (.tamperArmWrite m en loop lid) s) (fun t => t.get TAMPER.ARM_STATUS = 3 ∧
      t.get (HDR.ERR_COUNT 0xB) = min (s.get (HDR.ERR_COUNT 0xB) + 1) 0xFFFF ∧
      KeepsRegs s t [TAMPER.ARM_STATUS, HDR.ERR_COUNT 0xB, HDR.ERR_FIRST 0xB] ∧ t = { s with regs := t.regs })) ∧
    (mine ∨ ¬ clears → Answers (exec (.tamperArmWrite m en loop lid) s) (fun t => KeepsRegs s t all ∧ t = { s with regs := t.regs } ∧
      (s.on TAMPER.LOOP_OK = true → s.on TAMPER.LID_CLOSED = true → t.get TAMPER.ARM_STATUS = 0 ∧ t.on TAMPER.LOOP_EN = loop ∧
        t.on TAMPER.LID_EN = lid ∧ t.on (HDR.ENABLE 0xB) = en) ∧
      (s.on TAMPER.LOOP_OK = false → s.on TAMPER.LOOP_EN = false → loop = true → t.get TAMPER.ARM_STATUS = 1 ∧ t.on TAMPER.LOOP_EN = false) ∧
      (s.on TAMPER.LOOP_OK = true → s.on TAMPER.LID_CLOSED = false → s.on TAMPER.LID_EN = false → lid = true → t.get TAMPER.ARM_STATUS = 2 ∧
        t.on TAMPER.LID_EN = false) ∧
      (s.on TAMPER.LOOP_OK = false → s.on TAMPER.LOOP_EN = true → loop = true → s.on (HDR.ENABLE 0xB) = false → en = true →
        t.get TAMPER.ARM_STATUS = 1 ∧ t.on (HDR.ENABLE 0xB) = false)))) ∧
  (∀ (s : State) (m : Master) (v : BitVec 16), s.MayWrite m 0xB 0x040 →
    (m = .mss ∨ m = .hostS → Answers (exec (.snKeyWrite m v) s) (fun t =>
      t.vault.snKey.get? m.id = (if v = 0x5E1F then some s.base else none) ∧ t = { s with vault := { s.vault with snKey := t.vault.snKey } })) ∧
    (m = .mss ∨ m = .hostS → (∃ b, s.vault.snKey.get? m.id = some b ∧ s.base ≤ b + secs 1) → Answers (exec (.snCmd m) s) (fun t => fired s t 3 ∧
      t.get TAMPER.ARM_STATUS = 0 ∧ t.vault.snKey.get? m.id = none)) ∧
    (m = .mss ∨ m = .hostS → (∀ b, s.vault.snKey.get? m.id = some b → b + secs 1 < s.base) → Answers (exec (.snCmd m) s) (fun t =>
      t.get TAMPER.ARM_STATUS = 4 ∧ KeepsRegs s t [TAMPER.ARM_STATUS] ∧ t = { s with regs := t.regs })) ∧
    (m ≠ .mss → m ≠ .hostS → ∀ c ∈ [Instr.snKeyWrite m v, .snCmd m], Answers (exec c s) (fun t => t.get TAMPER.ARM_STATUS = 3 ∧
      t.get (HDR.ERR_COUNT 0xB) = min (s.get (HDR.ERR_COUNT 0xB) + 1) 0xFFFF ∧
      KeepsRegs s t [TAMPER.ARM_STATUS, HDR.ERR_COUNT 0xB, HDR.ERR_FIRST 0xB] ∧ t = { s with regs := t.regs }))) ∧
  (∀ (s : State) (causes : List (Fin 6)),
    (∀ c ∈ causes, s.causeHolds c.val = true → (∀ d ∈ causes, s.causeHolds d.val = true → c ≤ d) → Answers (exec (.snufferFire causes) s) (fun t =>
      fired s t c.val)) ∧
    ((∀ c ∈ causes, s.causeHolds c.val = false) → exec (.snufferFire causes) s = .next s)) ∧
  (∀ (s : State),
    (s.on TAMPER.MARK_PENDING = true → Answers (exec .snuffOverwriteDone s) (fun t => t.on TAMPER.MARK_PENDING = false ∧
      KeepsRegs s t [TAMPER.MARK_PENDING] ∧ t = { s with regs := t.regs, vault := { s.vault with helper := false, pattern := [] } })) ∧
    (s.on TAMPER.MARK_PENDING = false → exec .snuffOverwriteDone s = .next s) ∧
    (s.snuffing = true → s.on TAMPER.MARK_PENDING = false → s.pdOn 8 = true → Answers (exec .pufReenrolDone s) (fun t => t.vault.helper = true ∧
      t.vault.pattern.length = 32 ∧ t.vault.root = sha256 t.vault.pattern ∧ t.on VAULT.ROOT_OK = true ∧ KeepsRegs s t [VAULT.ROOT_OK] ∧
      t = { s with regs := t.regs, keys := [], vault := t.vault, fresh := t.fresh })) ∧
    (s.snuffing = false ∨ s.on TAMPER.MARK_PENDING = true ∨ s.pdOn 8 = false → exec .pufReenrolDone s = .next s)) ∧
  (∀ (s : State), s.on TAMPER.SNUFFED = false ∨ s.tpEn = false → s.unlockExchange = s) ∧
  (∀ (s : State), s.tpEn = true → s.on TAMPER.SNUFFED = true → s.unlockExchange = { s with tpUnlocked := true })

/-! ### Firmware update (R407 to R421) -/

/-- Staging, verification and the commands of UPDATE (R409 to R413, R421): BEGIN erases and receives, words fill pages once, the last page
completes; VERIFY judges the package in the order of its checks; commands are refused under their lowest code, under lock 28 held
elsewhere, and while ENABLE is 0. Where it says more than those rules it follows a choice or a reading of the model: log entries 9, 21,
150, 152, 153. -/
def Obligations.PackagesAreStagedAndVerified : Prop :=
  (∀ (s : State) (m : Master), s.MayWrite m 0xA 0x044 →
    (s.guardHeld m 28 = true → ∀ confirm same : Bool, ∀ c ∈ [Instr.beginUpdate m, .verify m, .updateActivate m confirm, .updateAbort m false same],
      Answers (exec c s) (fun t => t.get (HDR.ERR_COUNT 0xA) = min (s.get (HDR.ERR_COUNT 0xA) + 1) 0xFFFF ∧
        KeepsRegs s t [HDR.ERR_COUNT 0xA, HDR.ERR_FIRST 0xA] ∧ t = { s with regs := t.regs })) ∧
    (s.guardHeld m 28 = false → s.on (HDR.ENABLE 0xA) = false → ∀ confirm same : Bool,
      ∀ c ∈ [Instr.beginUpdate m, .verify m, .updateActivate m confirm, .updateAbort m false same],
      Answers (exec c s) (fun t => t.get UPDATE.CMD_STATUS = 1 ∧ KeepsRegs s t [UPDATE.CMD_STATUS] ∧ t = { s with regs := t.regs })) ∧
    (s.guardHeld m 28 = false → s.on (HDR.ENABLE 0xA) = true →
      let idle := s.get UPDATE.U_STATE = 0 ∨ s.get UPDATE.U_STATE = 5 ∨ s.get UPDATE.U_STATE = 6 ∨ s.get UPDATE.U_STATE = 8 ∨ s.get UPDATE.U_STATE = 9
      let fits := 1024 ≤ s.get UPDATE.STG_LEN ∧ s.get UPDATE.STG_LEN ≤ 25165824
      (idle → s.on TAMPER.SNUFFED = false → fits → Answers (exec (.beginUpdate m) s) (fun t => t.get UPDATE.CMD_STATUS = 0 ∧ t.get UPDATE.U_STATE = 1 ∧
        KeepsRegs s t [UPDATE.CMD_STATUS, UPDATE.U_STATE] ∧
        t = { s with regs := t.regs, upd := { s.upd with pkg := [], missing := List.range ((s.get UPDATE.STG_LEN + 4095) / 4096), opened := [] } })) ∧
      (¬ idle ∨ s.on TAMPER.SNUFFED = true ∨ ¬ fits → Answers (exec (.beginUpdate m) s) (fun t =>
        (¬ idle → t.get UPDATE.CMD_STATUS = 2) ∧ (idle → s.on TAMPER.SNUFFED = true → t.get UPDATE.CMD_STATUS = 3) ∧
        (idle → s.on TAMPER.SNUFFED = false → t.get UPDATE.CMD_STATUS = 4) ∧ KeepsRegs s t [UPDATE.CMD_STATUS] ∧ t = { s with regs := t.regs })) ∧
      (s.get UPDATE.U_STATE = 3 ∨ s.get UPDATE.U_STATE = 9 → Answers (exec (.verify m) s) (fun t => t.get UPDATE.CMD_STATUS = 0 ∧
        t.get UPDATE.U_STATE = 4 ∧ KeepsRegs s t [UPDATE.CMD_STATUS, UPDATE.U_STATE] ∧ t = { s with regs := t.regs })) ∧
      (s.get UPDATE.U_STATE ≠ 3 → s.get UPDATE.U_STATE ≠ 9 → Answers (exec (.verify m) s) (fun t => t.get UPDATE.CMD_STATUS = 2 ∧
        KeepsRegs s t [UPDATE.CMD_STATUS] ∧ t = { s with regs := t.regs })))) ∧
  (∀ (s : State),
    (s.get UPDATE.U_STATE = 1 → s.pdOn 1 = true → Answers (exec .stagingEraseDone s) (fun t => t.get UPDATE.U_STATE = 2 ∧
      (t.get (HDR.IRQ_RAW 0xA)).testBit 0 = true ∧ KeepsRegs s t [UPDATE.U_STATE, HDR.IRQ_RAW 0xA] ∧ t = { s with regs := t.regs })) ∧
    (s.get UPDATE.U_STATE ≠ 1 ∨ s.pdOn 1 = false → exec .stagingEraseDone s = .next s)) ∧
  (∀ (s : State) (m : Master) (k : Fin 128) (v : Word), s.MayWrite m 0xA (0x400 + 4 * k.val) → s.guardHeld m 28 = false →
    let off := s.get UPDATE.STG_OFFSET
    let len := s.get UPDATE.STG_LEN
    let page := off / 4096
    let had := s.upd.opened.getD page []
    let words := if had.contains (off % 4096 / 4) then had else (off % 4096 / 4) :: had
    (s.get UPDATE.U_STATE ≠ 2 → Answers (exec (.stgDataWrite m k v) s) (fun t =>
      t.get UPDATE.STG_REFUSED_CNT = min (s.get UPDATE.STG_REFUSED_CNT + 1) 0xFFFF ∧ KeepsRegs s t [UPDATE.STG_REFUSED_CNT] ∧ t = { s with regs := t.regs })) ∧
    (s.get UPDATE.U_STATE = 2 → Answers (exec (.stgDataWrite m k v) s) (fun t => t.get UPDATE.STG_OFFSET = (off + 4) % 2 ^ 25 ∧
      (len ≤ off ∨ (s.upd.missing.contains page = true ∧ s.upd.opened.has page = false ∧ 16 ≤ s.upd.opened.length) →
        t.get UPDATE.STG_REFUSED_CNT = min (s.get UPDATE.STG_REFUSED_CNT + 1) 0xFFFF ∧ t.upd = s.upd) ∧
      (off < len → s.upd.missing.contains page = false → t.get UPDATE.STG_DUP_CNT = min (s.get UPDATE.STG_DUP_CNT + 1) 0xFFFF ∧ t.upd = s.upd) ∧
      (off < len → s.upd.missing.contains page = true → s.upd.opened.has page = true ∨ s.upd.opened.length < 16 →
        t.upd.pkg = s.upd.pkg.write off ((leBytes 4 v.toNat).take (len - off)) ∧
        (words.length < pageWords len page → t.upd.opened = s.upd.opened.put page words ∧ t.upd.missing = s.upd.missing ∧ t.get UPDATE.U_STATE = 2) ∧
        (pageWords len page ≤ words.length → t.upd.opened = s.upd.opened.del page ∧ t.upd.missing = s.upd.missing.filter (· ≠ page) ∧
          (t.upd.missing = [] → t.get UPDATE.U_STATE = 3 ∧ (t.get (HDR.IRQ_RAW 0xA)).testBit 1 = true))) ∧
      KeepsRegs s t [UPDATE.STG_OFFSET, UPDATE.STG_REFUSED_CNT, UPDATE.STG_DUP_CNT, UPDATE.U_STATE, HDR.IRQ_RAW 0xA] ∧
      t = { s with regs := t.regs, upd := t.upd }))) ∧
  (∀ (s : State) (nor : Option (Fin 6)),
    (s.get UPDATE.U_STATE = 4 → s.pdOn 1 = true → Answers (exec (.verifyDone nor) s) (fun t =>
      (∀ code part, s.checkPackage (nor.map Fin.val) = .inl (code, part) → t.get UPDATE.U_STATE = 6 ∧ t.get UPDATE.V_CODE = code % 16 ∧
        t.get UPDATE.V_PART = part % 8 ∧ t.log = (s.event Master.mss.id 0x0B02 [code, part]).log ∧ (code < 8 → t.upd = s.upd) ∧ t.upd.pkg = s.upd.pkg) ∧
      (∀ made, s.checkPackage (nor.map Fin.val) = .inr made → t.get UPDATE.U_STATE = 5 ∧ t.get UPDATE.V_CODE = 1 ∧ t.log = s.log ∧
        t.get UPDATE.M_SET_VER = s.upd.pkg.num 12 4 ∧ t.upd.parts = s.stagedParts ∧ t.upd.images = s.applyImages s.stagedParts made ∧
        (t.get (HDR.IRQ_RAW 0xA)).testBit 0 = true) ∧
      (s.headerBad = true → t.get UPDATE.V_CODE = 2) ∧
      (∀ w : Wick, t.slotOf w = s.slotOf w) ∧ t = { s with regs := t.regs, upd := t.upd, log := t.log })) ∧
    (s.get UPDATE.U_STATE ≠ 4 ∨ s.pdOn 1 = false → exec (.verifyDone nor) s = .next s))

/-- Activation, commit, rollback, ABORT and the reload of metering (R414 to R420): the steps of a trial follow one another, probation commits
both slots, a trigger rolls the set back, ABORT empties the staging area or rolls back. Where it says more than those rules it follows a
choice or a reading of the model: log entries 2, 151, 156, 157, 158, 159, 160. -/
def Obligations.TrialsCommitOrRollBack : Prop :=
  (∀ (s : State) (m : Master) (confirm : Bool), s.MayWrite m 0xA 0x044 → s.guardHeld m 28 = false → s.on (HDR.ENABLE 0xA) = true →
    let code := if s.get UPDATE.U_STATE ≠ 5 then 2 else if s.on TAMPER.SNUFFED = true then 3 else if s.on UPDATE.M_SCHEMA = true ∧ confirm = false then 5
      else if s.handing = true ∨ s.incoming.isSome = true then 6 else if s.standbyBad = true then 7 else 0
    (code = 0 → Answers (exec (.updateActivate m confirm) s) (fun t => t.get UPDATE.CMD_STATUS = 0 ∧ t.get UPDATE.U_STATE = 7 ∧ t.get UPDATE.ACT_STEP = 1 ∧
      t.trial = true ∧ t.get UPDATE.LAST_REASON = 0 ∧ t.upd.onTrial = [] ∧ t.upd.prevVer = s.get UPDATE.INST_SET_VER ∧ t.upd.recDigest = s.upd.digest ∧
      t.log = (s.event Master.mss.id 0x0B03 (wide (s.get UPDATE.M_SET_VER))).log ∧ (t.get (HDR.IRQ_RAW 0xA)).testBit 2 = true ∧
      KeepsRegs s t [UPDATE.CMD_STATUS, UPDATE.U_STATE, UPDATE.ACT_STEP, UPDATE.COMMIT_STATE, UPDATE.LAST_REASON, HDR.IRQ_RAW 0xA, EVLOG.QUEUE_LOST_CNT, HDR.IRQ_RAW 6] ∧
      t = { s with regs := t.regs, upd := t.upd, log := t.log })) ∧
    (code ≠ 0 → Answers (exec (.updateActivate m confirm) s) (fun t => t.get UPDATE.CMD_STATUS = code ∧ KeepsRegs s t [UPDATE.CMD_STATUS] ∧
      t = { s with regs := t.regs }))) ∧
  (∀ (s : State) (ok : Bool),
    (s.upd.switchAt = none → s.trial = false → exec (.actStepPass ok) s = .next s) ∧
    (s.upd.switchAt = none → s.trial = true → s.get UPDATE.ACT_STEP = 1 → Answers (exec (.actStepPass ok) s) (fun t => t.get UPDATE.ACT_STEP = 2 ∧
      t.upd.dry = some s.standby.idx ∧ (t.get (HDR.IRQ_RAW 0xA)).testBit 2 = true)) ∧
    (∀ w, s.upd.switchAt = none → s.trial = true → s.get UPDATE.ACT_STEP = 2 → s.upd.alone = false → s.dryWick = some w →
      (s.dryPassed w ok = true → Answers (exec (.actStepPass ok) s) (fun t => t.get UPDATE.ACT_STEP = 3 ∧ t.upd.dry = none ∧
        t.get (PILOT.BOOT_FAILS w.idx) = 0 ∧ (t.get (HDR.IRQ_RAW 0xA)).testBit 2 = true ∧
        (s.on UPDATE.M_OVERLAP = false → t.upd.switchAt = some s.coldSwitchAt) ∧
        (∀ o, s.on UPDATE.M_OVERLAP = true → s.author = some o → s.incoming = none → w = o.other → s.on (wickEn w) = true →
          s.on (PILOT.NEEDS_BIST w.idx) = false → s.lastingFault w = false → s.arb.failed.contains w.idx = false → t.get PILOT.HO_STATE = 1 ∧ t.get PILOT.HO_CAUSE = 4 ∧ t.role o.other = .warming ∧
          t.role o = .author ∧ o.other.idx ∈ t.upd.onTrial))) ∧
      (s.dryPassed w ok = false → exec (.actStepPass ok) s = .next s)) ∧
    (s.upd.switchAt = none → s.trial = true → s.get UPDATE.ACT_STEP = 3 →
      (∀ w, s.trialAuthor = some w → Answers (exec (.actStepPass ok) s) (fun t => t.get UPDATE.ACT_STEP = 4 ∧ t.upd.dry = some w.other.idx ∧
        (t.get (HDR.IRQ_RAW 0xA)).testBit 2 = true)) ∧
      (s.trialAuthor = none → exec (.actStepPass ok) s = .next s)) ∧
    (∀ w, s.upd.switchAt = none → s.trial = true → s.get UPDATE.ACT_STEP = 4 → s.dryWick = some w → s.dryPassed w ok = true →
      Answers (exec (.actStepPass ok) s) (fun t =>
        (bit (s.get UPDATE.M_PARTS) 3 = true → t.get UPDATE.ACT_STEP = 5 ∧ t.get MSS.MSS_RESTARTS = min (s.get MSS.MSS_RESTARTS + 1) 0xFFFF ∧
          t.get MSS.LAST_RESTART = 2) ∧
        (bit (s.get UPDATE.M_PARTS) 3 = false → t.get UPDATE.ACT_STEP = 6 ∧ (t.get (HDR.IRQ_RAW 0xA)).testBit 2 = true))) ∧
    (s.upd.switchAt = none → s.trial = true → s.get UPDATE.ACT_STEP = 5 → ok = true → Answers (exec (.actStepPass ok) s) (fun t =>
      t.get UPDATE.ACT_STEP = 6 ∧ (t.get (HDR.IRQ_RAW 0xA)).testBit 2 = true ∧ KeepsRegs s t [UPDATE.ACT_STEP, HDR.IRQ_RAW 0xA] ∧
      t = { s with regs := t.regs })) ∧
    (∀ at_ o, s.upd.switchAt = some at_ → at_ ≤ s.now → s.author = some o → Answers (exec (.actStepPass ok) s) (fun t => t.role o = .cold ∧
      t.role o.other = .warming ∧ t.upd.switchAt = none ∧ t.authorSince = none ∧ t.get (WCORE.START_KIND o.other) = 2))) ∧
  (∀ (s : State) (w : Wick) (b : Nat), s.trialAuthor = some w → s.upd.tookAt = some b → s.trial = true → s.get UPDATE.ACT_STEP = 6 → s.stopped w = false →
    (b + secs (s.get UPDATE.PROBATION_S) ≤ s.base → Answers (exec .probationEnd s) (fun t => t.get UPDATE.U_STATE = 8 ∧ t.get UPDATE.ACT_STEP = 0 ∧
      t.get UPDATE.COMMIT_STATE = 2 ∧ t.get UPDATE.INST_SET_VER = s.get UPDATE.M_SET_VER % 2 ^ 32 ∧ (∀ x : Wick, t.slotOf x = 1 - s.slotOf x) ∧
      t.get UPDATE.COMMIT_CNT = (s.upd.commits + 1) % 2 ^ 16 ∧ t.upd.commits = (s.upd.commits + 1) % 2 ^ 32 ∧ t.upd.images = s.upd.images ∧ t.upd.onTrial = [] ∧
      (t.get (HDR.IRQ_RAW 0xA)).testBit 3 = true ∧ t.log = (s.event Master.mss.id 0x0B04 (wide (s.get UPDATE.M_SET_VER))).log ∧
      t = { s with regs := t.regs, upd := t.upd, log := t.log })) ∧
    (s.base < b + secs (s.get UPDATE.PROBATION_S) → exec .probationEnd s = .next s)) ∧
  (∀ (s : State) (reason : Fin 8) (boot : Bool),
    (s.rollbackDue reason.val = true → Answers (exec (.updateRollback reason boot) s) (fun t => t.get UPDATE.U_STATE = 9 ∧ t.get UPDATE.ACT_STEP = 0 ∧
      t.trial = false ∧ t.get UPDATE.LAST_REASON = reason.val ∧ (∀ x : Wick, t.slotOf x = s.slotOf x) ∧ t.upd.images = s.upd.images ∧ t.upd.mssTrial = false ∧
      (s.upd.mssTrial = false → (t.get (HDR.IRQ_RAW 0xA)).testBit 4 = true) ∧
      (s.upd.mssTrial = true → t.get MSS.MSS_RESTARTS = min (s.get MSS.MSS_RESTARTS + 1) 0xFFFF))) ∧
    (s.rollbackDue reason.val = false → exec (.updateRollback reason boot) s = .next s)) ∧
  (∀ (s : State) (m : Master), s.MayWrite m 0xA 0x044 → s.guardHeld m 28 = false → s.on (HDR.ENABLE 0xA) = true →
    (∀ same, s.get UPDATE.U_STATE = 0 ∨ s.get UPDATE.U_STATE = 8 ∨ s.get UPDATE.U_STATE = 9 → Answers (exec (.updateAbort m false same) s) (fun t =>
      t.get UPDATE.CMD_STATUS = 9 ∧ KeepsRegs s t [UPDATE.CMD_STATUS] ∧ t = { s with regs := t.regs })) ∧
    (1 ≤ s.get UPDATE.U_STATE → s.get UPDATE.U_STATE ≤ 6 → Answers (exec (.updateAbort m false false) s) (fun t => t.get UPDATE.CMD_STATUS = 0 ∧
      t.get UPDATE.U_STATE = 0 ∧ KeepsRegs s t [UPDATE.CMD_STATUS, UPDATE.U_STATE] ∧
      t = { s with regs := t.regs, upd := { s.upd with pkg := [], missing := [], opened := [] } })) ∧
    (s.get UPDATE.U_STATE = 7 → Answers (exec (.updateAbort m false false) s) (fun t => t.get UPDATE.CMD_STATUS = 0 ∧ t.get UPDATE.U_STATE = 9 ∧
      t.trial = false ∧ t.get UPDATE.LAST_REASON = 6 ∧ t.upd.images = s.upd.images)) ∧
    (s.get UPDATE.U_STATE = 4 → s.pdOn 1 = true → Answers (exec (.updateAbort m false true) s) (fun t => t.get UPDATE.CMD_STATUS = 8 ∧
      (t.get UPDATE.U_STATE = 5 ∨ t.get UPDATE.U_STATE = 6)))) ∧
  (∀ (s : State) (m : Master), s.MayWrite m 0xA 0x008 →
    (s.on (HDR.ENABLE 0xA) = false → ∀ same, exec (.updateAbort m true same) s = .next s) ∧
    (s.on (HDR.ENABLE 0xA) = true → 1 ≤ s.get UPDATE.U_STATE → s.get UPDATE.U_STATE ≤ 6 → Answers (exec (.updateAbort m true false) s) (fun t =>
      t.on (HDR.ENABLE 0xA) = false ∧ t.get UPDATE.U_STATE = 0 ∧ t.get UPDATE.CMD_STATUS = 0))) ∧
  (∀ (s : State) (w : Wick) (ok : Bool),
    (s.measures w = false → exec (.meterReload w ok) s = .next s) ∧
    (s.measures w = true → s.trial = true → s.dryWick = some w → w.idx ∉ s.upd.meterTrial →
      (ok = true → Answers (exec (.meterReload w ok) s) (fun t => w.idx ∈ t.upd.meterTrial ∧ t.trial = true ∧ t.get UPDATE.ACT_STEP = s.get UPDATE.ACT_STEP ∧
        t.roleA = s.roleA ∧ t.roleB = s.roleB)) ∧
      (ok = false → Answers (exec (.meterReload w ok) s) (fun t => t.get UPDATE.U_STATE = 9 ∧ t.trial = false ∧ t.get UPDATE.LAST_REASON = 5))) ∧
    (s.measures w = true → s.trial = false → w.idx ∈ s.upd.meterTrial → Answers (exec (.meterReload w ok) s) (fun t => w.idx ∉ t.upd.meterTrial ∧
      t.roleA = s.roleA ∧ t.roleB = s.roleB)))

/-! ### The management subsystem, the event log, the built-in self-test (R422 to R436) -/

/-- Sensors and restarts of the MSS (R422, R423, R434): a reading is shown; a limit crossed while the page is enabled is logged once and
raised; a restart counts itself, ends a run and keeps the settings. Where it says more than those rules it follows a choice or a reading
of the model: log entries 144, 145. -/
def Obligations.SensorsAndRestartsAreLogged : Prop :=
  let logs := [EVLOG.QUEUE_LOST_CNT, HDR.IRQ_RAW 6, HDR.IRQ_RAW 7]
  (∀ (s : State) (r : Reading), s.pdOn 1 = false → exec (.sensorCondition r) s = .next s) ∧
  (∀ (s : State) (n : Fin 6) (v : BitVec 16), s.pdOn 1 = true → Answers (exec (.sensorCondition (.temp n v)) s) (fun t =>
    t.get (MSS.TEMP n.val) = v.toNat ∧
    (s.on (HDR.ENABLE 7) = true → s.mss.hot = false → (10 * s.get MSS.TEMP_HI_C : Int) < v.toInt → t.mss.hot = true ∧
      t.log = (s.event Master.mss.id 0x0C01 [n.val, ofSigned 24 v.toInt]).log ∧ (t.get (HDR.IRQ_RAW 7)).testBit 0 = true) ∧
    (s.on (HDR.ENABLE 7) = false ∨ s.mss.hot = true ∨ v.toInt ≤ 10 * s.get MSS.TEMP_HI_C → t.log = s.log ∧
      t.get (HDR.IRQ_RAW 7) = s.get (HDR.IRQ_RAW 7)) ∧
    KeepsRegs s t (MSS.TEMP n.val :: BIST.COND_TMAX :: logs) ∧ t = { s with regs := t.regs, log := t.log, mss := { s.mss with hot := t.mss.hot } })) ∧
  (∀ (s : State) (v : BitVec 10), s.pdOn 1 = true → Answers (exec (.sensorCondition (.humidity v)) s) (fun t =>
    t.get MSS.HUMIDITY = v.toNat ∧
    (s.on (HDR.ENABLE 7) = true → s.mss.damp = false → 10 * s.get MSS.HUM_HI ≤ v.toNat → t.mss.damp = true ∧
      t.log = (s.event Master.mss.id 0x0C02 [v.toNat]).log ∧ (t.get (HDR.IRQ_RAW 7)).testBit 1 = true) ∧
    (s.on (HDR.ENABLE 7) = true → s.mss.damp = true → (t.mss.damp = false ↔ v.toNat + 50 ≤ 10 * s.get MSS.HUM_HI) ∧ t.log = s.log) ∧
    KeepsRegs s t (MSS.HUMIDITY :: logs) ∧ t = { s with regs := t.regs, log := t.log, mss := { s.mss with damp := t.mss.damp } })) ∧
  (∀ (s : State) (v : BitVec 16) (held : Bool), s.pdOn 1 = true → Answers (exec (.sensorCondition (.light v held)) s) (fun t =>
    t.get MSS.LIGHT_LUX = v.toNat ∧
    (s.on (HDR.ENABLE 7) = true → s.mss.light = false → held = true → s.get MSS.LIGHT_THR_LUX < v.toNat → t.mss.light = true ∧
      t.log = (s.event Master.mss.id 0x0C03 [v.toNat]).log ∧ (t.get (HDR.IRQ_RAW 7)).testBit 2 = true) ∧
    (s.on (HDR.ENABLE 7) = true → held = false → t.mss = s.mss ∧ t.log = s.log) ∧
    KeepsRegs s t (MSS.LIGHT_LUX :: logs) ∧ t = { s with regs := t.regs, log := t.log, mss := { s.mss with light := t.mss.light } })) ∧
  (∀ (s : State) (n : Fin 8) (v : BitVec 16) (held : Bool), s.pdOn 1 = true →
    (s.pdOn (railPd n.val) = false → Answers (exec (.sensorCondition (.rail n v held)) s) (fun t => t.get (MSS.RAIL_MV n.val) = 0 ∧
      t.on (MSS.RAIL_OK n.val) = false ∧ KeepsRegs s t [MSS.RAIL_MV n.val, MSS.RAIL_OK n.val] ∧
      t = { s with regs := t.regs, mss := { s.mss with rails := s.mss.rails.filter (· ≠ n.val) } })) ∧
    (s.pdOn (railPd n.val) = true → Answers (exec (.sensorCondition (.rail n v held)) s) (fun t => t.get (MSS.RAIL_MV n.val) = v.toNat ∧
      t.on (MSS.RAIL_OK n.val) = railOk n.val v.toNat ∧
      (s.on (HDR.ENABLE 7) = true → railOk n.val v.toNat = false → held = true → n.val ∉ s.mss.rails → n.val ∈ t.mss.rails ∧
        t.get MSS.RAIL_FAULT_CNT = min (s.get MSS.RAIL_FAULT_CNT + 1) 0xFFFF ∧ t.log = (s.event Master.mss.id 0x0C04 [n.val, v.toNat]).log ∧
        (t.get (HDR.IRQ_RAW 7)).testBit 3 = true) ∧
      (railOk n.val v.toNat = true → n.val ∉ t.mss.rails ∧ t.log = s.log) ∧
      KeepsRegs s t (MSS.RAIL_MV n.val :: MSS.RAIL_OK n.val :: MSS.RAIL_FAULT_CNT :: logs) ∧
      t = { s with regs := t.regs, log := t.log, mss := { s.mss with rails := t.mss.rails } }))) ∧
  (∀ (s : State) (ecc : Bool),
    (s.pdOn 1 = true → s.saving = false → Answers (exec (.mssRestart ecc) s) (fun t =>
      t.get MSS.MSS_RESTARTS = min (s.get MSS.MSS_RESTARTS + 1) 0xFFFF ∧ t.get MSS.LAST_RESTART = (if ecc = true then 3 else 1) ∧
      (t.get (HDR.IRQ_RAW 7)).testBit 4 = true ∧ t.bist = none ∧ t.upd.opened = [] ∧ t.mss.since = s.base ∧ t.mss.hot = false ∧
      (∀ l ∈ t.locks, l.2 ≠ Master.mss.id) ∧ t.get UPDATE.STG_LEN = s.get UPDATE.STG_LEN ∧ t.on (HDR.ENABLE 7) = s.on (HDR.ENABLE 7) ∧
      (s.get UPDATE.U_STATE = 4 → t.get UPDATE.U_STATE = 0) ∧ t.keys = s.keys ∧ t.cfg = s.cfg ∧ t.roleA = s.roleA ∧ t.roleB = s.roleB)) ∧
    (s.pdOn 1 = false ∨ s.saving = true → exec (.mssRestart ecc) s = .next s))

/-- The event log (R424 to R429, R435): a listed event is queued with its time, or counted as lost or suppressed; the MSS writes the oldest as
the record of the next sequence number; a bucket gets a token every 60 s over its rate; R_SEQ fetches a record and checks its CRC. Where
it says more than those rules it follows a choice or a reading of the model: log entries 130, 148. -/
def Obligations.EventsBecomeRecords : Prop :=
  (∀ (s : State) (source : Byte) (code : BitVec 16) (params : List (BitVec 24)),
    let c := code.toNat
    let limited := decide (c ∈ limitedCodes)
    (c ∉ limitedCodes → c ∉ fixedCodes → exec (.eventEnqueue source code params) s = .next s) ∧
    (limited = true ∧ s.log.tokensOf c ≠ 0 ∨ c ∈ fixedCodes ∧ limited = false →
      (s.log.queue.length < 64 → Answers (exec (.eventEnqueue source code params) s) (fun t =>
        (∃ e : Event, t.log.queue = enqueued s.log.queue e ∧
          ((∀ x ∈ s.log.queue, x.time = s.now → x.source ≤ source.toNat) → t.log.queue = s.log.queue ++ [e]) ∧ e.code = c ∧ e.source = source.toNat ∧ e.time = s.now ∧ e.trusted = s.on TIME.TRUSTED ∧
          e.deferred = s.deferring ∧ e.suppressed = s.log.pendingSup.getD c 0 ∧ e.params = params.map BitVec.toNat) ∧
        t.log.pendingSup = s.log.pendingSup.del c ∧ (limited = true → t.log.tokensOf c = s.log.tokensOf c - 1) ∧ t = { s with log := t.log })) ∧
      (64 ≤ s.log.queue.length → Answers (exec (.eventEnqueue source code params) s) (fun t => t.log.queue = s.log.queue ∧ t.log.lostBefore = true ∧
        t.get EVLOG.QUEUE_LOST_CNT = min (s.get EVLOG.QUEUE_LOST_CNT + 1) 0xFFFF ∧ (t.get (HDR.IRQ_RAW 6)).testBit 1 = true ∧
        KeepsRegs s t [EVLOG.QUEUE_LOST_CNT, HDR.IRQ_RAW 6] ∧ t = { s with regs := t.regs, log := t.log }))) ∧
    (limited = true → s.log.tokensOf c = 0 → exec (.eventEnqueue source code params) s =
      .next { s with log := { s.log with pendingSup := s.log.pendingSup.put c (min (s.log.pendingSup.getD c 0 + 1) 0xFFFF) } })) ∧
  (∀ (s : State),
    (s.log.queue = [] ∨ s.deferring = true → exec .eventWrite s = .next s) ∧
    (∀ (e : Event) (rest : List Event), s.log.queue = e :: rest → s.deferring = false → Answers (exec .eventWrite s) (fun t => t.log.queue = rest ∧
      t.log.lostBefore = false ∧ t.log.newest = some s.log.nextSeq ∧ t.log.record s.log.nextSeq = e.record s.log.lostBefore s.log.nextSeq ∧
      (∀ a : Nat, a < s.log.nextSeq % 65536 * 32 ∨ s.log.nextSeq % 65536 * 32 + 32 ≤ a → t.log.area.get a = s.log.area.get a) ∧
      (t.get (HDR.IRQ_RAW 6)).testBit 0 = true ∧ t.log.rate = s.log.rate ∧ t.log.buckets = s.log.buckets ∧
      (s.on (HDR.ENABLE 6) = false → t.fifos = s.fifos) ∧ (s.on (FABRIC.EVT_FWD_EN s.cw) = false → t.fab.fwdNext = none) ∧
      KeepsRegs s t [HDR.IRQ_RAW 6, HDR.IRQ_RAW 5, PWR.PD_SLEEP, STREAM.DROP_CNT 0, STREAM.F_NEXT_SEQ 0] ∧
      t = { s with regs := t.regs, log := t.log, fifos := t.fifos, fab := t.fab }))) ∧
  (∀ (s : State) (code : BitVec 16) (b : Bucket), s.log.buckets.get? code.toNat = some b →
    (secs 60 * (b.added + 1) ≤ (s.base - b.since) * s.log.rateOf code.toNat → Answers (exec (.tokenRefill code) s) (fun t =>
      (b.tokens + 1 < s.log.rateOf code.toNat → t.log.buckets.get? code.toNat = some { b with tokens := b.tokens + 1, added := b.added + 1 }) ∧
      (s.log.rateOf code.toNat ≤ b.tokens + 1 → t.log.buckets.get? code.toNat = none ∧ t.log.tokensOf code.toNat = s.log.rateOf code.toNat) ∧
      t = { s with log := { s.log with buckets := t.log.buckets } })) ∧
    ((s.base - b.since) * s.log.rateOf code.toNat < secs 60 * (b.added + 1) → exec (.tokenRefill code) s = .next s)) ∧
  (∀ (s : State) (m : Master) (v : Byte), s.MayWrite m 6 0x054 →
    (s.get EVLOG.RL_CODE ∈ limitedCodes → Answers (exec (.rlRateWrite m v) s) (fun t => t.log.rateOf (s.get EVLOG.RL_CODE) = max 1 v.toNat ∧
      t.log.tokensOf (s.get EVLOG.RL_CODE) = max 1 v.toNat ∧ t = { s with log := { s.log with rate := t.log.rate, buckets := t.log.buckets } })) ∧
    (s.get EVLOG.RL_CODE ∉ limitedCodes → exec (.rlRateWrite m v) s = .next s)) ∧
  (∀ (s : State) (m : Master) (seq : Word), s.MayWrite m 6 0x058 → Answers (exec (.rSeqFetch m seq) s) (fun t =>
    t.get EVLOG.R_SEQ = seq.toNat ∧
    (s.log.holds seq.toNat = false → t.get EVLOG.R_STATUS = 2 ∧ ∀ k : Fin 8, t.get (EVLOG.R_DATA k.val) = 0) ∧
    (s.log.holds seq.toNat = true → t.wordBytes EVLOG.R_DATA 8 = s.log.record seq.toNat ∧
      (crc32 ((s.log.record seq.toNat).take 28) = leNat ((s.log.record seq.toNat).drop 28) → t.get EVLOG.R_STATUS = 0 ∧
        t.get EVLOG.CRC_ERR_CNT = s.get EVLOG.CRC_ERR_CNT) ∧
      (crc32 ((s.log.record seq.toNat).take 28) ≠ leNat ((s.log.record seq.toNat).drop 28) → t.get EVLOG.R_STATUS = 3 ∧
        t.get EVLOG.CRC_ERR_CNT = min (s.get EVLOG.CRC_ERR_CNT + 1) 0xFFFF ∧ (t.get (HDR.IRQ_RAW 6)).testBit 2 = true)) ∧
    KeepsRegs s t ([EVLOG.R_SEQ, EVLOG.R_STATUS, EVLOG.CRC_ERR_CNT, HDR.IRQ_RAW 6] ++ (List.range 8).map EVLOG.R_DATA) ∧ t = { s with regs := t.regs }))

/-- Built-in self-test (R430 to R433, R436): START is refused under the first code that applies or runs its target; a run ends PASS, FAIL,
ABORTED or when a condition fails, is counted, logged and raised, and a failure sets its target's flag. Where it says more than those
rules it follows a choice or a reading of the model: log entries 146, 147. -/
def Obligations.SelfTestsRunAndEnd : Prop :=
  let ended := fun (s t : State) (r : BistRun) (code : Nat) => t.bist = none ∧ t.get BIST.RUN_STATUS = code ∧
    t.get BIST.RUN_MS = msShown (s.base - r.since) % 2 ^ 32 ∧ t.get BIST.RUN_CNT = min (s.get BIST.RUN_CNT + 1) 0xFFFF ∧
    (t.get (HDR.IRQ_RAW 8)).testBit 0 = true
  (∀ (s : State) (m : Master) (pll rival : Bool), s.MayWrite m 8 0x044 →
    (m ≠ .mss → m ≠ .hostS → s.bistRefusal m (s.get BIST.TARGET) pll rival = 7) ∧
    (m = .mss ∨ m = .hostS → s.on (HDR.ENABLE 8) = false → s.bistRefusal m (s.get BIST.TARGET) pll rival = 11) ∧
    (m = .mss ∨ m = .hostS → s.on (HDR.ENABLE 8) = true → s.bist.isSome = true ∨ s.arb.testing ≠ [] ∨ (m = .hostS ∧ rival = true) → s.bistRefusal m (s.get BIST.TARGET) pll rival = 6) ∧
    (s.bistRefusal m (s.get BIST.TARGET) pll rival ≠ 0 → Answers (exec (.bistStart m pll rival) s) (fun t =>
      t.get BIST.RUN_STATUS = s.bistRefusal m (s.get BIST.TARGET) pll rival % 16 ∧ KeepsRegs s t [BIST.RUN_STATUS] ∧ t = { s with regs := t.regs })) ∧
    (m = .mss ∨ m = .hostS → s.on (HDR.ENABLE 8) = true → s.bist = none → s.arb.testing = [] → m = .mss ∨ rival = false → 1 ≤ s.get BIST.TARGET → s.get BIST.TARGET ≤ 8 →
      s.bistRole (s.get BIST.TARGET) = true → s.bistConditions (bistDestructive (s.get BIST.TARGET)) = true → pll = true →
      Answers (exec (.bistStart m pll rival) s) (fun t => t.bist = some { target := s.get BIST.TARGET, master := m.id, since := s.base } ∧
        t.get BIST.RUN_STATUS = 1 ∧ t.get BIST.RUN_TARGET = s.get BIST.TARGET ∧ t.get BIST.RUN_MASTER = m.id ∧
        (∀ w, bistWick (s.get BIST.TARGET) = some w → bistDestructive (s.get BIST.TARGET) = true → t.pdOn (corePd w) = true) ∧
        t.roleA = s.roleA ∧ t.roleB = s.roleB))) ∧
  (∀ (s : State) (m : Master) (r : BistRun),
    (s.MayWrite m 8 0x044 → s.bist = some r → Answers (exec (.bistAbort m false none) s) (fun t => ended s t r 8 ∧
      t.get BIST.FAIL_FLAGS = s.get BIST.FAIL_FLAGS)) ∧
    (s.MayWrite m 8 0x044 → s.bist = none → Answers (exec (.bistAbort m false none) s) (fun t =>
      t.get BIST.RUN_STATUS = (if s.get BIST.RUN_TARGET = 0 then 10 else 9) ∧ KeepsRegs s t [BIST.RUN_STATUS] ∧ t = { s with regs := t.regs })) ∧
    (∀ detail : Word, s.MayWrite m 8 0x044 → s.bist = some r → r.target = 8 → s.scanServed = true →
      Answers (exec (.bistAbort m false (some (false, detail))) s) (fun t => t.bist = none ∧ t.get BIST.RUN_STATUS = (if s.get BIST.RUN_TARGET = 0 then 10 else 9) ∧
        t.get BIST.FAIL_DETAIL = detail.toNat ∧ bit (t.get BIST.FAIL_FLAGS) 7 = true ∧ t.get BIST.RUN_CNT = min (s.get BIST.RUN_CNT + 1) 0xFFFF)) ∧
    (s.MayWrite m 8 0x008 → s.bist = some r → Answers (exec (.bistAbort m true none) s) (fun t => ended s t r 8 ∧ t.on (HDR.ENABLE 8) = false)) ∧
    (s.MayWrite m 8 0x008 → s.bist = none → Answers (exec (.bistAbort m true none) s) (fun t => t.on (HDR.ENABLE 8) = false ∧
      KeepsRegs s t [HDR.ENABLE 8] ∧ t = { s with regs := t.regs }))) ∧
  (∀ (s : State) (r : BistRun),
    (s.bist = some r → s.bistConditions false = false → Answers (exec .bistConditionCheck s) (fun t => ended s t r 4)) ∧
    (s.bist = none ∨ s.bistConditions false = true → exec .bistConditionCheck s = .next s) ∧
    (∀ detail : Word, s.bist = some r → 1 ≤ r.target → r.target ≤ 8 → (r.target = 8 → s.scanServed = true) →
      (bistScrub r.target = false → Answers (exec (.bistRunEnd true detail) s) (fun t => ended s t r 2 ∧ t.get BIST.FAIL_FLAGS = s.get BIST.FAIL_FLAGS ∧
        t.get BIST.FAIL_DETAIL = s.get BIST.FAIL_DETAIL % 2 ^ 32)) ∧
      (bistScrub r.target = false → Answers (exec (.bistRunEnd false detail) s) (fun t => ended s t r 3 ∧ t.get BIST.FAIL_DETAIL = detail.toNat ∧
        bit (t.get BIST.FAIL_FLAGS) (r.target - 1) = true ∧ t.get BIST.FAIL_CNT = min (s.get BIST.FAIL_CNT + 1) 0xFFFF ∧
        (t.get (HDR.IRQ_RAW 8)).testBit 1 = true)) ∧
      (∀ w, bistWick r.target = some w → bistDestructive r.target = true → ∀ pass, Answers (exec (.bistRunEnd pass detail) s) (fun t =>
        t.pdOn (corePd w) = false)) ∧
      (r.target = 7 → Answers (exec (.bistRunEnd true detail) s) (fun t => ended s t r 2 ∧ t.get BIST.FAIL_DETAIL = detail.toNat))) ∧
    (∀ (pass : Bool) (detail : Word), s.bist = none ∨ (s.bist = some r ∧ r.target = 8 ∧ s.scanServed = false) →
      exec (.bistRunEnd pass detail) s = .next s)) ∧
  (∀ (s : State) (m : Master) (v same : Word), s.MayWrite m 8 0x050 → Answers (exec (.failFlagsClear m v same) s) (fun t =>
    (∀ n : Fin 8, bit (t.get BIST.FAIL_FLAGS) n.val = ((bit (s.get BIST.FAIL_FLAGS) n.val && !bit v.toNat (n.val + 1)) || bit same.toNat (n.val + 1))) ∧
    KeepsRegs s t [BIST.FAIL_FLAGS] ∧ t = { s with regs := t.regs }))
end

