-- ==== Sys2Proof/Laws/Ops.lean ====
section
/-! SUPPORT. What each shared operation can do, said once: which field of the state it touches, what it leaves there, and what it leaves
alone. A proof cites these and unfolds none of the operations. -/

namespace Sys2Proof.Machine

/-! ### Memories -/

/-- Clearing bytes keeps the canonical form. -/
theorem Mem.wf_clear (m : Mem) (a n : Nat) (h : m.wf = true) : (m.clear a n).wf = true := Mem.wf_filter m _ h

/-- Writing a number keeps the canonical form. -/
theorem Mem.wf_setNum (m : Mem) (a n v : Nat) (h : m.wf = true) : (m.setNum a n v).wf = true := Mem.wf_write m a _ h

/-- A number is written in as many bytes as it is given. -/
@[simp] theorem leBytes_length (n v : Nat) : (leBytes n v).length = n := by
  induction n generalizing v with
  | zero => rfl
  | succ n ih => rw [leBytes, List.length_cons, ih]

/-- Writing a number leaves every address outside its bytes. -/
theorem Mem.get_setNum_out (m : Mem) {a n c : Nat} (h : c < a ∨ a + n ≤ c) (v : Nat) : (m.setNum a n v).get c = m.get c := by
  rw [Mem.setNum, Mem.get_write_out]
  rwa [leBytes_length]

/-- Bytes read where bytes were written are the bytes written. -/
theorem Mem.read_write_same (m : Mem) (a : Nat) (l : List Byte) : (m.write a l).read a l.length = l := by
  induction l generalizing m a with
  | nil => rfl
  | cons b t ih =>
    rw [List.length_cons, Mem.read, Mem.write, ih, Mem.get_write_out _ _ (by omega), Mem.get_set_same]

/-! ### Operations on registers touch nothing else -/

/-- Two states differ in their registers at most. -/
def SameButRegs (s t : State) : Prop := t = { s with regs := t.regs }

theorem SameButRegs.refl (s : State) : SameButRegs s s := rfl

theorem SameButRegs.trans {s t u : State} (h : SameButRegs s t) (k : SameButRegs t u) : SameButRegs s u := by
  unfold SameButRegs at *
  rw [k, h]

theorem State.set_same (s : State) (f : Field) (v : Nat) : SameButRegs s (s.set f v) := rfl

theorem State.raise_same (s : State) (p n : Nat) : SameButRegs s (s.raise p n) := rfl

theorem State.clearIrq_same (s : State) (p v k : Nat) : SameButRegs s (s.clearIrq p v k) := rfl

theorem State.bump_same (s : State) (f : Field) (n : Nat) : SameButRegs s (s.bump f n) := rfl

theorem State.wrapInc_same (s : State) (f : Field) : SameButRegs s (s.wrapInc f) := rfl

theorem State.set2_same (s : State) (lo hi : Field) (v : Nat) : SameButRegs s (s.set2 lo hi v) := rfl

theorem State.setPd_same (s : State) (n : Nat) (v : Bool) : SameButRegs s (s.setPd n v) := rfl

theorem State.setAll_same (s : State) (l : List (Field × Nat)) : SameButRegs s (s.setAll l) := by
  induction l generalizing s with
  | nil => rfl
  | cons p t ih => exact (s.set_same p.1 p.2).trans (ih _)

theorem State.setWords_same (s : State) (f : Nat → Field) (k : Nat) (l : List Nat) : SameButRegs s (s.setWords f k l) := by
  induction l generalizing s k with
  | nil => rfl
  | cons v t ih => exact (s.set_same (f k) v).trans (ih _ _)

theorem State.countErr_same (s : State) (p : Nat) (m : Master) (q off c : Nat) : SameButRegs s (s.countErr p m q off c) := by
  unfold State.countErr
  split
  · exact (s.set_same _ _).trans (State.bump_same _ _ _)
  · exact State.bump_same _ _ _

/-! ### What an operation on registers leaves in them -/

/-- Raising an interrupt leaves every field but the page's IRQ_RAW. -/
theorem State.get_raise_ne (s : State) {p n : Nat} {g : Field} (h : g.key ≠ (HDR.IRQ_RAW p).key) : (s.raise p n).get g = s.get g :=
  State.get_set_ne s h _

/-- Raising an interrupt sets its bit of IRQ_RAW and leaves the others (R41). -/
theorem State.get_raise_same (s : State) (p n : Nat) (h : s.get (HDR.IRQ_RAW p) < 2 ^ 32) (k : n < 32) :
    (s.raise p n).get (HDR.IRQ_RAW p) = s.get (HDR.IRQ_RAW p) ||| 2 ^ n := by
  rw [State.raise, State.get_set_same]
  exact Nat.mod_eq_of_lt (Nat.or_lt_two_pow h (Nat.pow_lt_pow_right (by decide) k))

/-- Clearing interrupts leaves every field but the page's IRQ_RAW. -/
theorem State.get_clearIrq_ne (s : State) {p v k : Nat} {g : Field} (h : g.key ≠ (HDR.IRQ_RAW p).key) :
    (s.clearIrq p v k).get g = s.get g := State.get_set_ne s h _

/-- A counter that counts leaves every other field. -/
theorem State.get_bump_ne (s : State) {f g : Field} (h : g.key ≠ f.key) (n : Nat) : (s.bump f n).get g = s.get g :=
  State.get_set_ne s h _

/-- A saturating counter stands at its sum, or at its largest value (R10). -/
theorem State.get_bump_same (s : State) (f : Field) (n : Nat) : (s.bump f n).get f = min (s.get f + n) (2 ^ f.width - 1) := by
  rw [State.bump, State.get_set_same]
  exact Nat.mod_eq_of_lt (lt_of_le_of_lt (Nat.min_le_right _ _) (Nat.sub_lt (Nat.two_pow_pos _) (by decide)))

/-- A wrapping counter leaves every other field. -/
theorem State.get_wrapInc_ne (s : State) {f g : Field} (h : g.key ≠ f.key) : (s.wrapInc f).get g = s.get g := State.get_set_ne s h _

/-- A wrapping counter goes up by one at its width. -/
theorem State.get_wrapInc_same (s : State) (f : Field) : (s.wrapInc f).get f = (s.get f + 1) % 2 ^ f.width := State.get_set_same s f _

/-- A value over a pair of registers leaves every other field (R32). -/
theorem State.get_set2_ne (s : State) {lo hi g : Field} (h : g.key ≠ lo.key) (k : g.key ≠ hi.key) (v : Nat) :
    (s.set2 lo hi v).get g = s.get g := by
  rw [State.set2, State.get_set_ne _ k, State.get_set_ne _ h]

/-- A value over a pair of registers reads as it was written (R32). -/
theorem State.get2_set2 (s : State) {lo hi : Field} (h : lo.key ≠ hi.key) (wl : lo.width = 32) (wh : hi.width = 32) (v : Nat)
    (hv : v < 2 ^ 64) : (s.set2 lo hi v).get2 lo hi = v := by
  rw [State.get2, State.set2, State.get_set_ne _ h, State.get_set_same, State.get_set_same, wl, wh]
  omega

/-- Fields that take values leave every field not among them. -/
theorem State.get_setAll_ne (s : State) (l : List (Field × Nat)) {g : Field} (h : g.key ∉ l.map (fun p => p.1.key)) :
    (s.setAll l).get g = s.get g := by
  induction l generalizing s with
  | nil => rfl
  | cons p t ih =>
    simp only [List.map_cons, List.mem_cons, not_or] at h
    exact (ih _ h.2).trans (State.get_set_ne s h.1 _)

/-- A counted refusal leaves every field but its page's COUNT and ERR_FIRST (R42). -/
theorem State.get_countErr_ne (s : State) {p : Nat} (m : Master) (q off c : Nat) {g : Field} (h : g.key ≠ (HDR.ERR_COUNT p).key)
    (k : g.key ≠ (HDR.ERR_FIRST p).key) : (s.countErr p m q off c).get g = s.get g := by
  unfold State.countErr
  split
  · exact (State.get_bump_ne _ h 1).trans (State.get_set_ne s k _)
  · exact State.get_bump_ne _ h 1

/-! ### Roles, timers, the journal -/

@[simp] theorem State.setRole_same (s : State) (w : Wick) (r : Role) : (s.setRole w r).role w = r := by cases w <;> rfl

/-- A role taken leaves the other wick's. -/
theorem State.setRole_ne (s : State) {w v : Wick} (h : v ≠ w) (r : Role) : (s.setRole w r).role v = s.role v := by
  cases w <;> cases v <;> first | rfl | exact absurd rfl h

@[simp] theorem State.setRole_regs (s : State) (w : Wick) (r : Role) : (s.setRole w r).regs = s.regs := by cases w <;> rfl

/-- A timer set runs, and falls due n base cycles from now. -/
theorem State.armed_arm (s : State) (id n : Nat) : (s.arm id n).armed id = true ∧ (s.arm id n).due id = decide (s.base + n ≤ s.base) := by
  unfold State.armed State.due State.arm Map.has
  simp

/-- A timer stopped does not run. -/
theorem State.armed_disarm (s : State) (id : Nat) : (s.disarm id).armed id = false := by
  unfold State.armed State.disarm Map.has
  simp

/-- A record in the journal is made by a controller that runs and while no final save does; it leaves everything but the count of the journal
and its ring (R23, R312). -/
theorem State.jotAs_cases (s : State) (k : RecKind) :
    s.jotAs k = s ∨ (s.controllerRuns = true ∧ s.saving = false ∧ ∃ r, s.jotAs k = { s with jseq := s.jseq + 1, ring := r }) := by
  unfold State.jotAs
  split
  · rename_i h
    simp only [Bool.and_eq_true, Bool.not_eq_true'] at h
    exact .inr ⟨h.1, h.2, _, rfl⟩
  · exact .inl rfl

/-- A record of a change of state leaves everything but the count of the journal and its ring. -/
theorem State.jot_cases (s : State) :
    s.jot = s ∨ (s.controllerRuns = true ∧ s.saving = false ∧ ∃ r, s.jot = { s with jseq := s.jseq + 1, ring := r }) := s.jotAs_cases .state

@[simp] theorem State.jotAs_regs (s : State) (k : RecKind) : (s.jotAs k).regs = s.regs := by
  rcases s.jotAs_cases k with h | ⟨-, -, r, h⟩ <;> rw [h]

@[simp] theorem State.jot_regs (s : State) : s.jot.regs = s.regs := s.jotAs_regs .state

@[simp] theorem State.jot_get (s : State) (f : Field) : s.jot.get f = s.get f := State.get_of_regs s.jot_regs f

/-! ### Events -/

/-- An event raised changes the log and, where the queue is full, QUEUE_LOST_CNT and the page's IRQ_RAW (R426, R428). -/
theorem State.event_cases (s : State) (src code : Nat) (ps : List Nat) :
    (∃ l, s.event src code ps = { s with log := l }) ∨
      (∃ l, s.event src code ps = (({ s with log := l } : State).bump EVLOG.QUEUE_LOST_CNT 1).raise 6 1) := by
  unfold State.event
  split
  · exact .inl ⟨_, rfl⟩
  · extract_lets l
    split
    · exact .inr ⟨_, rfl⟩
    · exact .inl ⟨_, rfl⟩

/-- An event raised leaves every field but QUEUE_LOST_CNT and the IRQ_RAW of its page. -/
theorem State.get_event_ne (s : State) (src code : Nat) (ps : List Nat) {g : Field} (h : g.key ≠ EVLOG.QUEUE_LOST_CNT.key)
    (k : g.key ≠ (HDR.IRQ_RAW 6).key) : (s.event src code ps).get g = s.get g := by
  rcases s.event_cases src code ps with ⟨l, e⟩ | ⟨l, e⟩ <;> rw [e]
  · exact State.get_of_regs rfl g
  · exact (State.get_raise_ne _ k).trans ((State.get_bump_ne _ h 1).trans (State.get_of_regs rfl g))

/-! ### A guarded write -/

/-- A write is carried out, refused and counted once under its lowest code, or has no effect: its master is stopped (R14) or its page
position is reserved (R30). -/
theorem State.write_cases (s : State) (m : Master) (p off : Nat) (extra : List Nat) (k : State → State) :
    (s.write m p off extra k = s ∧ (s.acts m = false ∨ reservedPage p = true)) ∨
    (∃ c, minimum? (s.writeCodes m p off ++ extra) = some c ∧ s.write m p off extra k = s.countErr (errPage p c) m p off c) ∨
    (minimum? (s.writeCodes m p off ++ extra) = none ∧ s.acts m = true ∧ reservedPage p = false ∧ s.write m p off extra k = k s) := by
  unfold State.write
  split
  · rename_i h
    simp only [Bool.and_eq_true, Bool.not_eq_true'] at h
    split
    · exact .inr (.inl ⟨_, ‹_›, rfl⟩)
    · exact .inr (.inr ⟨‹_›, h.1, h.2, rfl⟩)
  · rename_i h
    refine .inl ⟨rfl, ?_⟩
    cases ha : s.acts m
    · exact .inl rfl
    · exact .inr (by simpa [ha] using h)

/-- A write that nothing refuses is carried out. -/
theorem State.write_of_mayWrite (s : State) {m : Master} {p off : Nat} (ha : s.acts m = true) (hr : reservedPage p = false)
    (hc : s.writeCodes m p off = []) (k : State → State) : s.write m p off [] k = k s := by
  unfold State.write
  rw [ha, hr, hc]
  rfl

end Sys2Proof.Machine
end

