-- ==== Sys2Proof/WellFormed.lean ====
section
/-! DEFINITION. Which commands are well formed: the limits the spec sets on operands that their types do not. -/

namespace Sys2Proof

/-- Whether a number is that of a physical page (R33). -/
def isPage (p : Nat) : Bool := decide (p < 0x2D) && !decide (0x1D ≤ p ∧ p < 0x20)

/-- Whether a frame of the backbone has the size of one (R339). -/
def frameOk (x : FabRx) : Bool := decide (38 ≤ x.frame.length ∧ x.frame.length ≤ 1518)

/-- Whether what a positive answer lends has its length: JOIN_KEY, ENGINE_ID, RATED_H, CLO, LAST_WMIN, LAST_MIN (R346). -/
def lentOk (l : Option (List Byte)) : Bool :=
  match l with
  | some b => b.length = 68
  | none => true

/-- Whether a command's operands lie within the spec's limits: pages (R33), channels (R113), lengths of frames and packets (R96, R108,
R136, R339), arguments of transactions (R167), lent keys (R346), event parameters (R424), causes of a snuff (R400).
  DESIGN CHOICE (log entry 5). -/
def Instr.wf : Instr → Bool
  | .irqClrWrite _ page _ _ => isPage page
  | .irqSourceSet page _ => isPage page
  | .errCntRead _ page _ => isPage page
  | .pageLockSet _ page _ => isPage page
  | .copyActivePage _ _ pos => decide (pos < 0xD)
  | .lockAcquireRead m _ rivals => decide rivals.Nodup && !rivals.contains m
  | .packetCommit _ _ payload => decide (payload.length < 65536)
  | .preambleDetect _ l => l.all (fun x => decide (x.chan < 64)) && decide (l.map Detect.chan).Nodup
  | .phrCheck _ _ p => decide (p.length < 2048)
  | .frameReceived _ _ psdu _ => decide (5 ≤ psdu.length ∧ psdu.length ≤ 511)
  | .internalSubmit p ty dest opcode args _ win att nb na => p != .host && [1, 2, 5, 6, 7, 9].contains ty && decide (dest < 65536 ∧ opcode < 256 ∧ args.length ≤ 220 ∧ win < 256 ∧ att ≤ 8 ∧ nb < 2 ^ 48 ∧ na < 2 ^ 48)
  | .regAnswerReceived _ lent => lentOk lent
  | .powerSampleClose _ x l => l.all (fun r => decide (if x.val = 3 then r.length = 3 else 1 ≤ r.length))
  | .helloReceived x => frameOk x
  | .lsaReceived x => frameOk x
  | .dbRequestReceived x => frameOk x
  | .fabricForward x => match x with | some f => frameOk f | none => true
  | .eventFwdReceived x => frameOk x
  | .eventAckReceived x => frameOk x
  | .rpaRequestReceived x => frameOk x
  | .rpaResponseReceived x => frameOk x
  | .csbTransferEnd _ data => decide (data.length ≤ 16)
  | .snufferFire causes => !causes.isEmpty && decide causes.Nodup
  | .eventEnqueue _ _ params => decide (params.length ≤ 4)
  | .registerWrite _ _ _ | .writeHiCommit _ _ _ | .readLoCapture _ _ _ | .shFieldWrite _ _ _ | .lockRelease _ _ _ | .lockForce _ _ | .locksDisable _
  | .portRead _ _ _ _ | .portWrite _ _ _ _ | .portErase _ _ _ _ | .portCmdDone _ _ | .cfgArm _ _ _ | .cfgValidationDone | .cfgCancel _ _ _ _
  | .cfgSwapInstant | .copyActive _ _ | .clearShadow _ _ | .validate _ _ | .cfgCmdDone | .hostWriteFrame _ _ | .hostReadFrame _ _ | .frameAbort
  | .hostWakeRise | .hostlinkSleep _ | .sessOpen _ | .sessOpenDone | .lockoutEnd | .sessClose _ | .hostlinkEnableWrite _ _ | .chCfgWrite _ _ _ _
  | .descriptorWrite _ _ _ _ | .post _ _ | .doorbellDeliver _ | .revoke _ _ _ | .chAck _ _ _ _ _ | .mboxPageDisable _ _ | .tableRead _ | .tableWrite _
  | .tableErase _ | .results _ | .packetOpen _ | .packetAbandon _ | .flush _ _ | .flushBoundary _ | .fEnClear _ _ | .fDataRead _ _
  | .demodSfdTimeout _ _ | .pllUnlock _ | .pllRelock _ | .loadPreset _ _ _ | .presetLoadDone | .ledgerRequest _ _ _ _ _ _ _ | .seqAllocate _
  | .frameTransmit _ | .frameTxEnd _ | .grantLapse _ | .bucketBoundary | .presumptionEnd | .quietAssert _ | .secondBoundary | .beaconSend _
  | .taperTrain | .rendezvousSend | .ackSend | .seenEntryExpire | .linkDisable _ _ | .mirrorCopy | .txnSubmit _ _ | .txnOffer | .txnRequeueExpiry _
  | .txnDeadline _ | .attemptTimeout _ _ | .backoffExpiry _ | .quarantineEnd _ | .abort _ _ _ _ | .abortAll _ _ _ | .txnDisable _ _ | .resPop _ _
  | .respSel _ _ _ | .guestLookupTimeout | .regQueryReceived _ _ | .guestInReceived _ _ _ | .returnRequestDue _ | .returnReqReceived _ _
  | .returnConfReceived _ _ | .fabricRepeatTimer | .fabricAckReceived _ _ | .pushSend _ _ | .roleRecompute | .faultLastSExpiry _ _ | .faultBucketRotate
  | .faultAck _ _ _ | .notHeardExpiry _ | .noticePop _ _ | .dailyResolution | .stepBroadcast | .stepInstant | .schedRefresh | .periodicReplan
  | .trackEnd _ | .waveAbort _ _ _ _ _ | .waveAbortAll _ _ _ _ | .inject _ _ | .waveHandoffReceived _ _ _ _ _ _ _ | .keepAwakeHold _ | .profileHourClose
  | .profileBlockCopy | .preBrighten | .preBrightenResend | .waveDisable _ _ | .meterEnable _ _ | .meterDisable _ _ | .stopSaveDone _
  | .commonFieldWrite _ _ _ _ _ | .trimWrite _ _ _ _ | .seal _ _ | .sampleClip _ _ | .overloadEnd _ _ | .settlingEnd _ _ | .perSecondClose _
  | .meterCompare _ _ | .harmonicWindowClose _ _ _ _ | .agg10minClose _ | .voltageEventStart _ _ _ | .voltageEventEnd _ _ _ | .missingNeutralDeclare _ _ _
  | .missingNeutralClear _ _ _ | .intervalClose | .accClear _ _ | .capture _ _ | .captureDone _ | .recFetch _ _ _ | .meterCheckpoint _ _ | .hIndexRead _ _
  | .planDue | .attrStart _ _ _ | .participantsFix | .chipEnd | .sessionChipsEnd | .solveDone | .attrAbort _ _ _ | .baseClear _ _ _ | .attrDisable _ _
  | .libBegin _ _ | .libDataWrite _ _ _ _ | .libFinish _ _ | .libDelete _ _ | .libOpDone _ | .start _ _ | .pause _ _ _ | .resume _ _ | .activate _ _
  | .campaignAbort _ _ _ | .blockSend | .campaignHold | .queryClose _ | .activationInstant | .confirmWaitEnd | .campaignDisable _ _ | .heartbeat _
  | .lossTimerExpiry | .voterDisagreement _ _ _ | .lockstepMismatch _ | .sramEccCorrection _ | .sramDoubleError _ | .wickReady _ _
  | .startDeadlineExpiry _ _ | .bootStable _ | .controllerCheckpoint | .handover _ _ | .cancel _ | .handoverSwapInstant _ | .outgoingDomainsOff
  | .selftestNow _ _ | .selftestDue _ | .selftestReport _ _ _ _ | .restore _ _ | .faultClr _ _ | .countClr _ _ | .faultWindowHour | .soakComplete
  | .recoveryRetry | .wickEnWrite _ _ _ | .fabAddrWrite _ _ _ _ | .helloSend _ | .neighbourAbsent _ | .portConflictClear _ | .lsaOriginate | .lsaExpire
  | .routeCompute | .eventFwdSend | .eventFwdResend | .rpaRead _ _ | .rpaWrite _ _ | .rpaOpenChal _ _ | .rpaOpen _ _ | .rpaClose _ _ | .rpaTimeout _
  | .rpaIdleExpiry | .ptpMessageReceived _ _ | .ptpMessageSend _ _ _ | .announceReceiptTimeout _ | .gnssPpsEdge _ _ | .nmeaSentence _ _ _ _ | .gnssLoss
  | .timeSourceSelect | .epochSWrite _ _ | .timeSet _ _ | .vinRise _ _ _ | .moduleStart _ _ _ | .xtalOk | .holdReady _ | .holdWaitExpiry | .resetNLow
  | .pfailNFall | .vinMonitorTrip _ | .finalSave | .finalSaveDone _ | .vholdExhausted _ | .frKeyWrite _ _ | .factoryReset _ | .koOutWrite _ _
  | .kfMismatchTimer _ | .gpioEdge _ _ | .gpioEvtClear _ _ _ | .txDataWrite _ _ | .uartTxEmpty | .uartByteReceived _ _ _ | .rxDataRead _
  | .uartDisable _ | .go _ | .vauxOvercurrent | .vaultPowerOn _ _ _ | .rootRetry _ | .vaultImport _ _ | .vaultIdentity _ | .push _ | .roll _ _
  | .keyCancel _ | .rollInstant | .rollGraceEnd | .remask | .rngHealthFail | .loopSample _ | .lidOpen | .tamperArmWrite _ _ _ _ | .snKeyWrite _ _
  | .snCmd _ | .snuffOverwriteDone | .pufReenrolDone | .beginUpdate _ | .stagingEraseDone | .stgDataWrite _ _ _ | .verify _ | .verifyDone _
  | .updateActivate _ _ | .actStepPass _ | .probationEnd | .updateRollback _ _ | .updateAbort _ _ _ | .meterReload _ _ | .sensorCondition _
  | .eventWrite | .tokenRefill _ | .rlRateWrite _ _ | .rSeqFetch _ _ | .bistStart _ _ _ | .bistAbort _ _ _ | .bistConditionCheck | .bistRunEnd _ _
  | .failFlagsClear _ _ _ | .mssRestart _ | .hostlinkDomainRestart | .meterDomainRunning _ | .fllLossOfLock _ | .fllRelock _ | .phyStatusPoll _ _
  | .rngRestartDone | .lidClose | .kfInputChange _ _ | .regAnswerExpiry | .revertInhibitWrite _ _ | .vioLoss _ | .vioReturn _ => true

end Sys2Proof
end

