-- ==== Sys2Proof/Tests/Slice0.lean ====
section
/-! SUPPORT. Small tests: ill-formed operands that the check refuses, values the spec states in its examples and check values, and for
every statement with hypotheses states and operands that meet them. -/

namespace Sys2Proof.Tests
open Sys2Proof Sys2Proof.Machine

set_option maxRecDepth 100000
set_option Elab.async false

/-! ### States the tests start from -/

/-- A module that has started: every page enabled, supplies good, Wick A AUTHOR, Wick B COLD, some time after the start. -/
def rdy : State :=
  let s := State.reset.set PWR.PD_ON 0xFFF
  let s := ((List.range 0x10) ++ ((List.range 13).map (· + 0x10)) ++ ((List.range 13).map (· + 0x20))).foldl
    (fun (s : State) p => s.set (HDR.ENABLE p) 1) s
  let s := s.setAll [(PWR.VIN_OK, 1), (PWR.VIO_OK, 1), (PWR.XTAL_OK, 1), (PWR.HOLD_READY, 1), (RADIO.PLL_LOCK .a, 1), (RADIO.PLL_LOCK .b, 1),
    (RADIO.TX_EN .a, 1), (RADIO.TX_EN .b, 1), (VAULT.ROOT_OK, 1), (VAULT.RNG_OK, 1), (TIME.TRUSTED, 1), (HDR.RUNNING (Wick.page .a 7), 1),
    (HDR.RUNNING (Wick.page .b 7), 1)]
  { s with roleA := .author, roleB := .cold, base := 4000000, now := 4500000, authorSince := some 1000000
           power := { s.power with started := true, restored := true, recorded := true, startBase := 1000 } }

/-- Cells of a bank: numbers at their addresses. -/
def cells (m : Mem) (l : List (Nat × Nat × Nat)) : Mem := l.foldl (fun (m : Mem) c => m.setNum c.1 c.2.1 c.2.2) m

/-- A state with cells in the ACTIVE bank. -/
def inBank (s : State) (l : List (Nat × Nat × Nat)) : State :=
  { s with cfg := { s.cfg with half0 := { s.cfg.half0 with mem := cells s.cfg.half0.mem l } } }

/-- A state with numbers in the registry entry of a lantern address. -/
def inEntry (s : State) (a : Nat) (l : List (Nat × Nat × Nat)) : State :=
  { s with reg := { s.reg with mem := cells s.reg.mem (l.map (fun c => (tabRegistry.at (a - 1) + c.1, c.2.1, c.2.2))) } }

/-- A state with a slot at a value. -/
def inSlot (s : State) (n : Nat) (x : Slot) : State := { s with txn := { s.txn with slots := s.txn.slots.put n x } }

/-- A profile of one sub-band and one channel, which is a beacon channel and an air-link channel, keys in the slots 0 to 3, a segment. -/
def lnk : State :=
  let s := inBank rdy ([(0, 2, 0x5250), (2, 1, 1), (3, 1, 1), (4, 4, 868000), (8, 4, 257), (0xB, 1, 10), (0x19, 1, 8), (0x1A, 2, 100),
    (0x40, 4, 867000), (0x44, 4, 868600), (0x48, 4, 36000), (0x4C, 2, 3600), (0x4E, 2, 161), (0x50, 2, 2000), (0x52, 2, 0x100), (0x54, 2, 270),
    (0x100, 4, 868000), (0x104, 4, 0x3C0)].map (fun (c : Nat × Nat × Nat) => (tabProfile.base + c.1, c.2.1, c.2.2)))
  { s.setAll [(FABRIC.SEG_ID .a, 5), (FABRIC.SEG_ID .b, 5), (FABRIC.FAB_ADDR .a, 7), (FABRIC.FAB_ADDR .b, 7), (LINK.BEACON_EN .a, 1), (LINK.BEACON_EN .b, 1)] with
    keys := (List.range 4).map (fun n => (n, { gen := 1, half := false, key := leBytes 16 n })) }

/-- The same in an instant well before the next beacon. -/
def lnkFree : State := { lnk with now := nextMultiple lnk.now lnk.active.beaconTicks + 100000 - 100000 % 32768 + 500 }

/-- The SHADOW field of the link page that a test writes. -/
def shField (w : Wick) : Field := LINK.BEACON_S w
/-- The module with the FRAMES stream on. -/
def rdyF : State := rdy.set (STREAM.F_EN 1) 1
/-- A preamble on channel 0. -/
def detect0 : Detect := { chan := 0, mainNeg := 60, divNeg := 70 }
/-- A PHR too short for a PSDU. -/
def phr0 : Phr := { modeSwitch := false, fcs4 := true, length := 4, decoded := true }
/-- A frame of lantern 3 to the controller of segment 9. -/
def otherSeg : List Byte := leBytes 2 4 ++ leBytes 2 9 ++ leBytes 2 0 ++ leBytes 2 3 ++ leBytes 32 0
/-- A lantern known to be a router. -/
def awake (a : Nat) (s : State) : State := { s with reg := { s.reg with lanterns := [(a, { Lantern.unknown with router := true })] } }
/-- A bank with three street nodes. -/
def nodes3 (s : State) : State := { s with cfg := { s.cfg with half0 := s.cfg.half0.sset (WAVE.N_NODES .a) 3 } }
/-- A wave program that takes hand-offs of kind 1. -/
def prog2 (s : State) : State := inBank s [(tabWavePrograms.at 0, 1, 5), (tabWavePrograms.at 0 + 1, 1, 2), (tabWavePrograms.at 0 + 2, 2, 0xFFFF)]
/-- Seconds after the epoch of a UTC second of day 0. -/
def atSec (n : Nat) : Nat := 32768 * (n + rdy.get TIME.UTC_OFF_S)
/-- An instant in which the open seconds and intervals of both metering domains are current. -/
def still : State := rdy.rollMeter
/-- The same with voltage expected on phase 1. -/
def stillV : State := (rdy.set (METER.V_DIV .a 0) 5).rollMeter
/-- The module with both backbone ports on. -/
def fab0 : State := lnk.setAll [(FABRIC.P0_EN .a, 1), (FABRIC.P1_EN .a, 1)]
/-- An Announce. -/
def ann0 : Announce := { prio1 := 1, cls := 6, accuracy := 32, variance := 1, prio2 := 1, gm := 5, steps := 1, utcOff := 37, utcValid := true, sender := 9 }
/-- A request of 40 octets on channel 0 as a command. -/
def ask0 : LedgerReq := { channel := 0, cls := 1, psdu := 40, wake := 0, air := false }
/-- A neighbour that has been heard once. -/
def nb0 : Neighbour := { uid := 77, link := 0, addr := 8, seg := 9, interval := 1000, clockClass := 6, tflags := 1, rssi := 0, since := 5, up := true }
/-- Whatever holds of what an empty option holds. -/
theorem of_none {α : Type} {o : Option α} {P : α → Prop} (e : o = none) (d : α) (h : o = some d) : P d := by rw [e] at h; cases h
/-- A push that has to wait for a slot can be met. -/
theorem witness_pushWaits : ∃ (s : State) (a : BitVec 16) (n : Fin 7) (d : Desc), s.registryRuns = true ∧ s.registered a.toNat = true ∧
    s.mayPush a.toNat = true ∧ s.pushing a.toNat = false ∧ s.pushDesc a.toNat n.val = some d ∧ s.takesInternal d = true ∧ s.nextSlot? = none :=
  ⟨{ (inEntry rdy 3 [(0, 8, 5), (0x18, 1, 2), (0x70, 2, 1)]) with txn := { rdy.txn with slots := (List.range 64).map (fun n => (n, { Slot.empty with state := 1 })) } },
   (3 : BitVec 16), (0 : Fin 7), ((inEntry rdy 3 [(0, 8, 5), (0x18, 1, 2), (0x70, 2, 1)]).pushDesc 3 0).get (by decide +kernel), by decide +kernel⟩
/-- A backbone frame of module 77 under the fabric key: its kind, its destination and its body, with the counter 5. -/
def sealedFab (s : State) (ltype dest : Nat) (body : List Byte) : FabRx :=
  let aad := leBytes 1 0 ++ leBytes 1 ltype ++ leBytes 2 8 ++ leBytes 4 5 ++ leBytes 2 dest ++ leBytes 2 8 ++ leBytes 2 0 ++ leBytes 2 body.length
  { port := 0, uid := 77, frame := fabGroup ++ leBytes 6 1 ++ beBytes 2 (s.get (FABRIC.ETHERTYPE s.cw)) ++ aad ++ ccmSeal (s.slotKey 1) (fabNonce 5 0 77) aad body }
/-- A frame is taken in, opens to a body and is not an old one: the hypotheses of FabricFramesAreTakenIn on what a message does. -/
def OpensTo (s : State) (x : FabRx) (b : List Byte) : Prop :=
  let num := fun (off n : Nat) => leNat ((x.frame.drop off).take n)
  (s.fabRuns = true ∧ s.portOn x.port.val = true ∧ (s.fab.conflicts.has x.port.val = false ∨ num 15 1 = 1) ∧ s.fabKeyed = true ∧ (x.frame.take 6 = fabGroup ∨ x.frame.take 6 = macOf s.uid) ∧
    leNat ((x.frame.drop 12).take 2).reverse = s.get (FABRIC.ETHERTYPE s.cw) ∧ num 14 1 % 16 = 0 ∧ num 28 2 ≤ 1400 ∧ 38 + num 28 2 ≤ x.frame.length) ∧
  ccmOpen (s.slotKey 1) (fabNonce (num 18 4) (num 14 1) x.uid.toNat) ((x.frame.drop 14).take 16) ((x.frame.drop 30).take (num 28 2 + 8)) = some b ∧
  ¬ ∃ c, s.fab.counters.get? (2 * x.uid.toNat + bits (num 14 1) 4 1) = some c ∧ num 18 4 ≤ c
/-- A number that no entry holds is not old. -/
theorem notOld {m : Map Nat} {k n : Nat} (e : m.get? k = none) : ¬ ∃ c, m.get? k = some c ∧ n ≤ c := fun ⟨c, h, _⟩ => by rw [e] at h; cases h
/-- The module with its fabric on, collecting events for address 7, forwarding its own to address 8. -/
def fab1 : State :=
  let s := fab0.setAll [(FABRIC.FAB_ADDR .a, 7), (FABRIC.EVT_COLLECT .a, 1), (FABRIC.EVT_FWD_ADDR .a, 8)]
  { s with fab := { s.fab with fwdNext := some 3, fwdAcked := 0, rpa := some { ctr := 6, cmd := 1, since := 5 } } }
/-- A hello of module 77 in this epoch that names this module, and one of another epoch. -/
def hello77 (e : Nat) : List Byte :=
  leBytes 8 77 ++ leBytes 2 8 ++ leBytes 2 9 ++ leBytes 6 e ++ leBytes 1 (fab1.get TIME.DOMAIN) ++ leBytes 4 0 ++ leBytes 1 1 ++ leBytes 8 fab1.uid
/-- Whether frames open is decided by evaluation, and that nothing of the sender was taken before. -/
theorem opensTo_of {s : State} {x : FabRx} {b : List Byte}
    (e : let num := fun (off n : Nat) => leNat ((x.frame.drop off).take n)
      (s.fabRuns = true ∧ s.portOn x.port.val = true ∧ (s.fab.conflicts.has x.port.val = false ∨ num 15 1 = 1) ∧ s.fabKeyed = true ∧ (x.frame.take 6 = fabGroup ∨ x.frame.take 6 = macOf s.uid) ∧
        leNat ((x.frame.drop 12).take 2).reverse = s.get (FABRIC.ETHERTYPE s.cw) ∧ num 14 1 % 16 = 0 ∧ num 28 2 ≤ 1400 ∧ 38 + num 28 2 ≤ x.frame.length) ∧
      ccmOpen (s.slotKey 1) (fabNonce (num 18 4) (num 14 1) x.uid.toNat) ((x.frame.drop 14).take 16) ((x.frame.drop 30).take (num 28 2 + 8)) = some b ∧
      s.fab.counters.get? (2 * x.uid.toNat + bits (num 14 1) 4 1) = none) : OpensTo s x b := ⟨e.1, e.2.1, notOld e.2.2⟩
/-- A hello of the epoch and one of another open and are taken in. -/
theorem witness_helloOpens : (∃ (s : State) (x : FabRx) (b : List Byte), OpensTo s x b ∧ leNat ((x.frame.drop 15).take 1) = 1 ∧ leNat ((b.drop 12).take 6) = s.epochS ∧
      leNat ((b.drop 18).take 1) = s.get TIME.DOMAIN ∧ s.fab.conflicts.has x.port.val = false ∧ (∀ h ∈ s.fab.heard, h.1 = x.port.val → h.2.1 = leNat (b.take 8))) ∧
    (∃ (s : State) (x : FabRx) (b : List Byte), OpensTo s x b ∧ leNat ((x.frame.drop 15).take 1) = 1 ∧ leNat ((b.drop 12).take 6) ≠ s.epochS) :=
  ⟨⟨fab1, sealedFab fab1 1 0xFFFF (hello77 fab1.epochS), hello77 fab1.epochS, opensTo_of (by decide +kernel), by decide +kernel⟩,
   ⟨fab1, sealedFab fab1 1 0xFFFF (hello77 (fab1.epochS + 1)), hello77 (fab1.epochS + 1), opensTo_of (by decide +kernel), by decide +kernel⟩⟩
/-- An LSA that is new, one of this module itself and a database request open. -/
theorem witness_lsaOpens : (∃ (s : State) (x : FabRx) (b : List Byte), OpensTo s x b ∧ leNat ((x.frame.drop 15).take 1) = 2 ∧ (parseLsa b s.base).uid ≠ s.uid ∧
      (∀ y ∈ s.fab.lsas, y.uid = (parseLsa b s.base).uid → y.seq < (parseLsa b s.base).seq)) ∧
    (∃ (s : State) (x : FabRx) (b : List Byte), OpensTo s x b ∧ leNat ((x.frame.drop 15).take 1) = 2 ∧ (parseLsa b s.base).uid = s.uid) ∧
    (∃ (s : State) (x : FabRx) (b : List Byte), OpensTo s x b ∧ leNat ((x.frame.drop 15).take 1) = 3) :=
  let own : List Byte := leBytes 8 fab1.uid ++ leBytes 10 0
  ⟨⟨fab1, sealedFab fab1 2 0xFFFF (leBytes 8 78 ++ leBytes 10 0), leBytes 8 78 ++ leBytes 10 0, opensTo_of (by decide +kernel), by decide +kernel⟩,
   ⟨fab1, sealedFab fab1 2 0xFFFF own, own, opensTo_of (by decide +kernel), by decide +kernel⟩,
   ⟨fab1, sealedFab fab1 3 0xFFFF [], [], opensTo_of (by decide +kernel), by decide +kernel⟩⟩
/-- A forwarded event, an acknowledgement of forwarded events and an answer to a remote page access open at their addressee. -/
theorem witness_messageOpens : (∃ (s : State) (x : FabRx) (b : List Byte), OpensTo s x b ∧ leNat ((x.frame.drop 15).take 1) = 0x20 ∧
      leNat ((x.frame.drop 22).take 2) = s.fabAddr ∧ s.on (FABRIC.EVT_COLLECT s.cw) = true ∧ 34 ≤ b.length) ∧
    (∃ (s : State) (x : FabRx) (b : List Byte) (next : Nat), OpensTo s x b ∧ leNat ((x.frame.drop 15).take 1) = 0x21 ∧
      leNat ((x.frame.drop 22).take 2) = s.fabAddr ∧ s.fab.fwdNext = some next ∧ leNat ((x.frame.drop 24).take 2) = s.get (FABRIC.EVT_FWD_ADDR s.cw) ∧
      seqAhead (leNat (b.take 4)) s.fab.fwdAcked ≠ 0 ∧ seqAhead (leNat (b.take 4)) s.fab.fwdAcked < seqAhead next s.fab.fwdAcked) ∧
    (∃ (s : State) (x : FabRx) (b : List Byte) (r : RpaOut), OpensTo s x b ∧ leNat ((x.frame.drop 15).take 1) = 0x31 ∧
      leNat ((x.frame.drop 22).take 2) = s.fabAddr ∧ s.fab.rpa = some r ∧ leNat ((b.drop 2).take 4) = r.ctr ∧ 16 ≤ b.length) :=
  let rsp : List Byte := leBytes 2 0 ++ leBytes 4 6 ++ leBytes 10 0
  ⟨⟨fab1, sealedFab fab1 0x20 7 (leBytes 34 1), leBytes 34 1, opensTo_of (by decide +kernel), by decide +kernel⟩,
   ⟨fab1, sealedFab fab1 0x21 7 (leBytes 4 2), leBytes 4 2, 3, opensTo_of (by decide +kernel), by decide +kernel⟩,
   ⟨fab1, sealedFab fab1 0x31 7 rsp, rsp, { ctr := 6, cmd := 1, since := 5 }, opensTo_of (by decide +kernel), by decide +kernel⟩⟩
/-- FIPS 197, appendix C.1. -/
theorem test_aes : aes (beBytes 16 0x000102030405060708090a0b0c0d0e0f) 0x00112233445566778899aabbccddeeff = 0x69c4e0d86a7b0430d8cdb78070b4c55a := by decide +kernel
/-- RFC 4493, example 2. -/
theorem test_cmac : beNat (cmac (beBytes 16 0x2b7e151628aed2a6abf7158809cf4f3c) (beBytes 16 0x6bc1bee22e409f96e93d7e117393172a)) = 0x070a16b46b4d4144f79bdd9dd04a287c := by
  decide +kernel
/-- RFC 3610, packet vector 1. -/
theorem test_ccm : beNat (ccmSeal (beBytes 16 0xC0C1C2C3C4C5C6C7C8C9CACBCCCDCECF) (beBytes 13 0x00000003020100A0A1A2A3A4A5) (beBytes 8 0x0001020304050607)
    (beBytes 23 0x08090A0B0C0D0E0F101112131415161718191A1B1C1D1E)) = 0x588C979A61C663D2F066D0C2C0F989806D5F6B61DAC38417E8D12CFDF926E0 := by decide +kernel
/-- FIPS 180-4, the message abc. -/
theorem test_sha256 : beNat (sha256 (beBytes 3 0x616263)) = 0xba7816bf8f01cfea414140de5dae2223b00361a396177a9cb410ff61f20015ad := by decide +kernel
/-- The test port refuses the exchange in one state and serves it in another. -/
theorem witness_unlockExchange : (∃ s : State, s.on TAMPER.SNUFFED = false ∨ s.tpEn = false) ∧ (∃ s : State, s.tpEn = true ∧ s.on TAMPER.SNUFFED = true) :=
  ⟨⟨rdy, by decide +kernel⟩, ⟨{ (rdy.set TAMPER.SNUFFED 1) with tpEn := true }, by decide +kernel⟩⟩

/-! ### Ill-formed terms -/

theorem test_wf_page : (Instr.irqClrWrite .hostS 0x1D 0 0).wf = false ∧ (Instr.irqClrWrite .hostS 0x1C 0 0).wf = true := by decide
theorem test_wf_source_page : (Instr.irqSourceSet 0x2D 0).wf = false := by decide
theorem test_wf_errcnt_page : (Instr.errCntRead .hostS 0x1F none).wf = false := by decide
theorem test_wf_lock_page : (Instr.pageLockSet .hostS 0x30 1).wf = false := by decide
theorem test_wf_position : (Instr.copyActivePage .hostS .a 0xD).wf = false ∧ (Instr.copyActivePage .hostS .a 0xC).wf = true := by decide
theorem test_wf_rivals : (Instr.lockAcquireRead .mss 3 [.mss]).wf = false ∧ (Instr.lockAcquireRead .mss 3 [.wickA, .wickA]).wf = false ∧
    (Instr.lockAcquireRead .mss 3 [.wickA]).wf = true := by decide
theorem test_wf_channel : (Instr.preambleDetect .a [{ chan := 64, mainNeg := 60, divNeg := 70 }]).wf = false ∧
    (Instr.preambleDetect .a [detect0]).wf = true := by decide
theorem test_wf_channels_differ : (Instr.preambleDetect .a [detect0, detect0]).wf = false := by decide
theorem test_wf_phr : (Instr.phrCheck .a 0 { modeSwitch := false, fcs4 := true, length := 2048, decoded := true }).wf = false := by decide
theorem test_wf_purpose : (Instr.internalSubmit .host 1 3 1 [] true 0 0 0 0).wf = false := by decide
theorem test_wf_type : (Instr.internalSubmit .schedule 3 3 1 [] true 0 0 0 0).wf = false := by decide
theorem test_wf_attempts : (Instr.internalSubmit .schedule 1 3 1 [] true 0 9 0 0).wf = false ∧
    (Instr.internalSubmit .schedule 1 3 1 [] true 0 8 0 0).wf = true := by decide
theorem test_wf_lent : (Instr.regAnswerReceived 7 (some [0])).wf = false ∧
    (Instr.regAnswerReceived 7 none).wf = true := by decide
theorem test_wf_runt : (Instr.helloReceived { port := 0, uid := 1, frame := [] }).wf = false := by decide
theorem test_wf_snuff : (Instr.snufferFire []).wf = false := by decide

/-! ### Check values and worked examples -/

/-- The digits 1 to 9 in ASCII. -/
def digits : List Byte := [0x31, 0x32, 0x33, 0x34, 0x35, 0x36, 0x37, 0x38, 0x39]

/-- The check value of R70. -/
theorem test_crc16_check : crc16 digits = 0x29B1 := by decide +kernel

/-- The check value of R424. -/
theorem test_crc32_check : crc32 digits = 0xCBF43926 := by decide +kernel

/-- The read request of chapter 3's example, byte by byte: command, address, length, CRC. -/
theorem test_read_request : requestBytes 0x42 0x00F040 8 [] = [0x42, 0x40, 0xF0, 0x00, 0x08, 0x00, 0xCC, 0xE8] := by decide +kernel

/-- A and B of plan 2 in chapter 10's example. -/
theorem test_code_of_seed : codeA 0x5D2E8A41 = 611 ∧ codeB 0x5D2E8A41 = 325 := by decide +kernel

/-- The shift of lantern 0x05A0 in the same example, and its residue back from it. -/
theorem test_code_shift : codeShift 0x5D2E8A41 0x05A0 = 797 ∧ codeResidue 0x5D2E8A41 797 = 416 := by decide +kernel

/-- Its chips 226 and 236. -/
theorem test_chips : chipOf 797 226 = -1 ∧ chipOf 797 236 = 1 := by decide +kernel

/-- The module with the European preset in its ACTIVE bank. -/
def europe : State := { rdy with cfg := { rdy.cfg with half0 := { rdy.cfg.half0 with mem := Mem.write [] tabProfile.base (presetImage 1) } } }

/-- The 37-octet command on channel 4 costs 6,600 µs behind its preamble of 332 symbols (chapters 4 and 5). -/
theorem test_time_on_air : europe.active.toaUs 4 37 332 = 6600 := by decide +kernel

/-- The European preset passes validation. -/
theorem test_preset_is_valid : europe.active.profileOk = true := by decide +kernel

/-- The seventeen clear octets that chapter 5's example shows at the head of the command, and the length of the whole. -/
theorem test_frame_octets :
    let s := rdy.set (FABRIC.SEG_ID .a) 0x0117
    let f : OutFrame := { ty := 1, dest := 0x0A3C, seq := 0x2C71, retry := 0, ackReq := true, copy := false, keySel := 0, nodeId := 0
                          joinKey := [], ttl := 8, payload := [0x4B, 0x01, 0x90, 0x01, 0x32, 0x00] }
    f.psduLen = 37 ∧ leBytes 2 (f.fc .a) = [0x11, 0x00] ∧ leBytes 2 (s.get (FABRIC.SEG_ID .a)) = [0x17, 0x01] ∧
      leBytes 1 (16 * f.ttl) = [0x80] := by decide +kernel

/-- Chapter 2's example: a swap validated at 0x5E213A90 with beacons every 8 s has its instant at 0x5E240000. -/
theorem test_swap_instant : nextMultiple (0x5E213A90 + millis 100) (32768 * 8) = 0x5E240000 := by decide

/-- LOCK24 read by the host secure port answers 0x80000004 (chapter 2's example). -/
theorem test_lock24 : (doLockAcquireRead .hostS 24 [] rdy).busData = 0x80000004 := by decide +kernel

/-- PAGE_ID at 0x03C000 reads 0xC400001C while Wick A holds AUTHOR (chapter 2's example). -/
theorem test_page_id : (readAddr .hostS 0x03C000 0 rdy).busData = 0xC400001C := by decide +kernel

/-- A 300/5 A transformer on a burden of 50 mΩ has a full scale of 424,264 mA (chapter 9's example). -/
theorem test_full_scale :
    ((rdy.setAll [(METER.TYPE .a 1, 2), (METER.CT_SEC .a 1, 1), (METER.SCALE .a 1, 300), (METER.BURDEN_UOHM .a 1, 50000)]).ifsSq 1).map
      (fun x => Nat.sqrt x.floor.toNat) = some 424264 := by decide +kernel

/-- A second at 39,942 W is 11,095 mWh (chapter 9's example): 16,384 products of 39,942 W. -/
theorem test_unsaved_second : milliWattHours (16384 * 39942 * 10 ^ 12) = 11095 := by decide +kernel

/-- The instant n seconds into the dip storm of chapter 17's example. -/
def dipAt (n : Nat) (s : State) : State := { s with base := rdy.base + secs n }

/-- A dip logged n seconds into the storm, its bucket refilled first. -/
def dip (n : Nat) (s : State) : State := (doTokenRefill 0x0501 (dipAt n s)).event (srcMeter .a) 0x0501 []

/-- The storm's dips up to second n. -/
def dips : Nat → State
  | 0 => dip 0 rdy
  | n + 1 => dip (n + 1) (dips n)

/-- Chapter 17's example: nine tokens after the first dip, four after the dips at 5 s and at 6 s, none at 10 s. -/
theorem test_dip_bucket : (dips 0).log.tokensOf 0x0501 = 9 ∧ (dips 5).log.tokensOf 0x0501 = 4 ∧ (dips 6).log.tokensOf 0x0501 = 4 ∧
    (dips 10).log.tokensOf 0x0501 = 0 := by decide +kernel

/-- At 11 s the dip is held back, at 12 s a record carries SUPPRESSED 1, and twelve of eighteen dips are logged. -/
theorem test_dip_suppressed : (dips 11).log.pendingSup.getD 0x0501 0 = 1 ∧ (dips 12).log.queue.getLast?.map Event.suppressed = some 1 ∧
    (dips 17).log.queue.length = 12 ∧ (dips 17).log.pendingSup.getD 0x0501 0 = 5 := by decide +kernel

/-! ### The block as a machine -/

/-- A step runs the command in front and drops it from the queue. -/
theorem test_step_takes_the_front : ∃ t, step { rdy with pending := [.lockAcquireRead .hostS 24 [], .seqAllocate .a] } = .next t ∧
    t.pending = [.seqAllocate .a] ∧ t.busData = 0x80000004 := ⟨_, rfl, by decide +kernel⟩

/-- No row of the table gives bits, so no word spells a command. -/
theorem test_no_word_spells_a_command : decodeTableWord 32 0 = none := by decide

/-- The state after reset meets the invariants, and a command leads on from it. -/
theorem witness_rolesStayLegal : ∃ s t : State, s.RolesOk ∧ step s = .next t :=
  ⟨rdy, _, by unfold State.RolesOk; decide +kernel, rfl⟩

theorem witness_memoriesStayCanonical : ∃ s t : State, s.MemsOk ∧ step s = .next t :=
  ⟨rdy, _, by unfold State.MemsOk; decide +kernel, rfl⟩

theorem witness_stepRunsTheFrontCommand : ∃ (s : State) (c : Instr) (rest : List Instr), s.pending = c :: rest :=
  ⟨{ rdy with pending := [.seqAllocate .a] }, _, _, rfl⟩

theorem witness_emptyQueueLetsOneCyclePass : ∃ s : State, s.pending = [] ∧ s.pdOn 0 = true := ⟨rdy, rfl, by decide +kernel⟩

theorem witness_commandsLeaveQueueAndBase : ∃ (c : Instr) (s t : State), exec c s = .next t ∧ t.link ≠ s.link :=
  ⟨.seqAllocate .a, rdy, _, rfl, by decide +kernel⟩

/-! ### The hypotheses of the statements are met -/

/-- The hypotheses of the clauses of WritesStoreTheirWords are met. -/
theorem witness_writesStoreTheirWords :
    (∃ (s : State) (m : Master) (a : Addr) (p : Nat) (off : Nat), s.resolve (a.toNat / 4096) = .inl p ∧ a.toNat % 4096 = off ∧ ((wordFields p off).map Field.key).Nodup ∧ (∀ f ∈ wordFields p off, f.page = p) ∧ isSubmission p off = false ∧ s.MayWrite m p off ∧ s.plainCodes m p off = [] ∧ (p = 0xA ∧ off = 0x050 → s.get UPDATE.U_STATE = 2) ∧ ¬ (m = .hostN ∧ p = 0xF ∧ off = 0x048)) ∧
    (∃ (s : State) (m : Master) (x : Nat), s.MayWrite m 0xD 0x08C ∧ s.hold.get? (holdKey m 0xD 0x088 false) = some x ∧ x < 2 ^ 32) ∧
    (∃ (s : State) (m : Master), s.MayRead m 0xD ∧ s.hold.get? (holdKey m 0xD 0x054 true) = none) :=
  ⟨⟨rdy, Master.hostS, (0x00D090 : Addr), 0xD, 0x090, by simp only [State.MayWrite]; decide +kernel⟩,
   ⟨{ rdy with hold := [(holdKey .hostS 0xD 0x088 false, 5)] }, Master.hostS, (({ rdy with hold := [(holdKey .hostS 0xD 0x088 false, 5)] }).hold.get? (holdKey (Master.hostS) 0xD 0x088 false)).get rfl, by simp only [State.MayWrite]; decide +kernel⟩,
   ⟨rdy, Master.hostS, by simp only [State.MayRead]; decide +kernel⟩⟩

/-- The hypotheses of the clauses of RefusedAccessesAreCounted are met. -/
theorem witness_refusedAccessesAreCounted :
    (∃ (s : State) (a : Addr) (c : Nat), s.resolve (a.toNat / 4096) = .inr c) ∧
    (∃ (s : State) (m : Master) (p : Nat) (off : Nat) (c : Nat) (extra : List Nat), s.acts m = true ∧ reservedPage p = false ∧ minimum? (s.writeCodes m p off ++ extra) = some c) ∧
    (∃ (s : State) (m : Master) (p : Nat) (off : Nat) (c : Nat) (extra : List Nat), s.acts m = true ∧ reservedPage p = false ∧ minimum? (s.writeCodes m p off ++ extra) = some c ∧ s.get (HDR.ERR_COUNT (errPage p c)) = 0) ∧
    (∃ (s : State) (m : Master) (p : Nat) (off : Nat) (c : Nat) (extra : List Nat), s.acts m = true ∧ reservedPage p = false ∧ minimum? (s.writeCodes m p off ++ extra) = some c ∧ s.get (HDR.ERR_COUNT (errPage p c)) ≠ 0) :=
  ⟨⟨rdy, (0x040000 : Addr), 0xA, by decide +kernel⟩,
   ⟨rdy, .hostS, 0xD, 0x040, 3, [3], by decide +kernel⟩,
   ⟨rdy, .hostS, 0xD, 0x040, 3, [3], by decide +kernel⟩,
   ⟨rdy.set (HDR.ERR_COUNT (errPage 0xD 3)) 1, .hostS, 0xD, 0x040, 3, [3], by decide +kernel⟩⟩

/-- The hypotheses of the clauses of HeaderRegistersActAsGiven are met. -/
theorem witness_headerRegistersActAsGiven :
    (∃ (s : State) (m : Master) (page : Nat), s.MayWrite m page 0x01C ∧ s.get (HDR.IRQ_RAW page) < 2 ^ 32) ∧
    (∃ (s : State) (m : Master) (page : Nat), s.MayRead m page) ∧
    (∃ (s : State) (m : Master) (page : Nat), page < 0x30 ∧ m ≠ .hostN ∧ s.MayWrite m page 0x028) ∧
    (∃ (page : Nat), reservedPage page = false) :=
  ⟨⟨rdy, Master.hostS, Wick.page .a 0xC, by simp only [State.MayWrite]; decide +kernel⟩,
   ⟨rdy, Master.hostS, Wick.page .a 0xC, by simp only [State.MayRead]; decide +kernel⟩,
   ⟨rdy, Master.hostS, Wick.page .a 0xC, by simp only [State.MayWrite]; decide +kernel⟩,
   ⟨Wick.page .a 0xC, by decide +kernel⟩⟩

/-- The hypotheses of the clauses of ShadowWritesLeaveTheActiveBank are met. -/
theorem witness_shadowWritesLeaveTheActiveBank :
    (∃ (s : State) (m : Master) (a : Addr) (w : Wick) (pos : Nat) (off : Nat) (f : Field), s.resolve (a.toNat / 4096) = .inl (w.page pos) ∧ a.toNat % 4096 = off ∧ pos < 0xD ∧ (pageShFields pos).filter (fun g => g.off = off) = [f] ∧ s.MayWrite m (w.page pos) off ∧ s.shadowCodes m w = [] ∧ s.saving = false) ∧
    (∃ (s : State) (m : Master) (w : Wick) (pos : Nat), pageHasSh pos = true ∧ s.MayWrite m (w.page pos) 0x02C ∧ s.shadowCodes m w = [] ∧ s.saving = false) :=
  ⟨⟨rdy, Master.hostS, ((BitVec.ofNat 24 (4096 * Wick.page .a 2 + (shField .a).off)) : Addr), Wick.a, 2, (shField .a).off, shField .a, by simp only [State.MayWrite]; decide +kernel⟩,
   ⟨rdy, Master.hostS, Wick.a, 2, by simp only [State.MayWrite]; decide +kernel⟩⟩

/-- The hypotheses of the clauses of LocksAreGrantedReleasedAndForced are met. -/
theorem witness_locksAreGrantedReleasedAndForced :
    (∃ (s : State) (m : Master) (n : Fin 32), s.MayRead m 2 ∧ mayLock m n.val = true ∧ s.on (HDR.ENABLE 2) = true ∧ s.locks.get? n.val = none) ∧
    (∃ (s : State) (m : Master) (n : Fin 32) (o : Nat), s.MayRead m 2 ∧ mayLock m n.val = true ∧ s.on (HDR.ENABLE 2) = true ∧ s.locks.get? n.val = some o) ∧
    (∃ (s : State) (m : Master) (n : Fin 32), s.MayRead m 2 ∧ mayLock m n.val = true ∧ s.on (HDR.ENABLE 2) = false) ∧
    (∃ (s : State) (m : Master) (n : Fin 32), s.MayWrite m 2 (0x080 + 4 * n.val) ∧ s.locks.get? n.val = some m.id) ∧
    (∃ (s : State) (m : Master), (m = .mss ∨ m = .hostS) ∧ s.MayWrite m 2 0x044) ∧
    (∃ (s : State) (m : Master), s.MayWrite m 2 0x008) ∧
    (∃ (s : State) (m : Master) (n : Fin 32), s.MayRead m 2 ∧ mayLock m n.val = false) ∧
    (∃ (s : State) (m : Master) (n : Fin 32) (v : Word), s.MayWrite m 2 (0x080 + 4 * n.val) ∧ (s.locks.get? n.val ≠ some m.id ∨ v ≠ 0)) :=
  ⟨⟨rdy, Master.hostS, (31 : Fin 32), by simp only [State.MayRead]; decide +kernel⟩,
   ⟨{ rdy with locks := [(3, 4)] }, Master.mss, (3 : Fin 32), (({ rdy with locks := [(3, 4)] }).locks.get? ((3 : Fin 32)).val).get rfl, by simp only [State.MayRead]; decide +kernel⟩,
   ⟨State.reset, Master.hostS, (31 : Fin 32), by simp only [State.MayRead]; decide +kernel⟩,
   ⟨{ rdy with locks := [(3, 1)] }, Master.mss, (3 : Fin 32), by simp only [State.MayWrite]; decide +kernel⟩,
   ⟨rdy, Master.hostS, by simp only [State.MayWrite]; decide +kernel⟩,
   ⟨rdy, Master.hostS, by simp only [State.MayWrite]; decide +kernel⟩,
   ⟨rdy, Master.hostN, (31 : Fin 32), by simp only [State.MayRead]; decide +kernel⟩,
   ⟨rdy, Master.hostS, (31 : Fin 32), (7 : Word), by simp only [State.MayWrite]; decide +kernel⟩⟩

/-- The hypotheses of the clauses of PortCommandsReachOneEntry are met. -/
theorem witness_portCommandsReachOneEntry :
    (∃ (s : State) (m : Master) (w : Wick) (port : PortId) (tab : Table), let p := w.page (portPos port); s.MayWrite m p 0x108 ∧ s.on (PORT.BUSY p) = false ∧ portTable port (s.get (PORT.TABLE p)) = some tab ∧ tab.store ≠ .profile ∧ s.entryCodes m w port (s.get (PORT.TABLE p)) (s.on (PORT.BANK p)) (s.get (PORT.INDEX p)) .read = []) ∧
    (∃ (s : State) (m : Master) (w : Wick) (port : PortId) (tab : Table), let p := w.page (portPos port); let i := s.get (PORT.INDEX p); let e := s.portEntry p; s.MayWrite m p 0x108 ∧ s.saving = false ∧ s.on (PORT.BUSY p) = false ∧ portTable port (s.get (PORT.TABLE p)) = some tab ∧ tab.store = .bank ∧ s.entryCodes m w port (s.get (PORT.TABLE p)) (s.on (PORT.BANK p)) i (.write e) = []) ∧
    (∃ (s : State) (m : Master) (w : Wick) (port : PortId) (tab : Table), let p := w.page (portPos port); let i := s.get (PORT.INDEX p); s.MayWrite m p 0x108 ∧ s.saving = false ∧ s.on (PORT.BUSY p) = false ∧ portTable port (s.get (PORT.TABLE p)) = some tab ∧ tab.store = .bank ∧ s.entryCodes m w port (s.get (PORT.TABLE p)) (s.on (PORT.BANK p)) i .erase = []) ∧
    (∃ (s : State) (w : Wick) (port : PortId), let p := w.page (portPos port); s.on (PORT.BUSY p) = true ∧ s.stopped w = false ∧ s.saving = false) :=
  ⟨⟨rdy, Master.hostS, Wick.a, PortId.sched, (portTable (PortId.sched) ((rdy).get (PORT.TABLE ((Wick.a).page (portPos (PortId.sched)))))).get rfl, by simp only [State.MayWrite]; decide +kernel⟩,
   ⟨(rdy.setAll [(PORT.INDEX (Wick.page .a 5), 3), (PORT.BANK (Wick.page .a 5), 1), (PORT.TABLE (Wick.page .a 5), 0)]), Master.hostS, Wick.a, PortId.sched, (portTable (PortId.sched) (((rdy.setAll [(PORT.INDEX (Wick.page .a 5), 3), (PORT.BANK (Wick.page .a 5), 1), (PORT.TABLE (Wick.page .a 5), 0)])).get (PORT.TABLE ((Wick.a).page (portPos (PortId.sched)))))).get rfl, by simp only [State.MayWrite]; decide +kernel⟩,
   ⟨(rdy.setAll [(PORT.INDEX (Wick.page .a 5), 3), (PORT.BANK (Wick.page .a 5), 1), (PORT.TABLE (Wick.page .a 5), 0)]), Master.hostS, Wick.a, PortId.sched, (portTable (PortId.sched) (((rdy.setAll [(PORT.INDEX (Wick.page .a 5), 3), (PORT.BANK (Wick.page .a 5), 1), (PORT.TABLE (Wick.page .a 5), 0)])).get (PORT.TABLE ((Wick.a).page (portPos (PortId.sched)))))).get rfl, by simp only [State.MayWrite]; decide +kernel⟩,
   ⟨(rdy.setAll [(PORT.BUSY (Wick.page .a 5), 1)]), Wick.a, PortId.sched, by decide +kernel⟩⟩

/-- The hypotheses of the clauses of SwapsAndBankCommands are met. -/
theorem witness_swapsAndBankCommands :
    (∃ (s : State) (m : Master) (w : Wick) (mode : BitVec 2), s.MayWrite m (w.page 0xC) 0x040 ∧ s.plainCodes m (w.page 0xC) 0x040 = [] ∧ s.isAuthor w = true ∧ s.swapArmed = false ∧ s.saving = false ∧ s.on (HDR.ENABLE (w.page 0xC)) = true ∧ (mode = 1 ∨ mode = 2) ∧ s.cfg.cmd = none ∧ s.cfg.preset = none ∧ (mode = 2 → s.timedReason (s.get2 (CFGBANK.CFG_SWAP_TIME_LO w) (CFGBANK.CFG_SWAP_TIME_HI w)) = 0)) ∧
    (∃ (s : State) (w : Wick), s.author = some w ∧ s.stopped w = false ∧ s.saving = false ∧ s.cfg.state = 1 ∧ s.shadowFails = 0 ∧ s.cfg.swapMode = 1) ∧
    (∃ (s : State) (w : Wick), s.author = some w ∧ s.stopped w = false ∧ s.saving = false ∧ s.cfg.state = 1 ∧ s.shadowFails ≠ 0) ∧
    (∃ (s : State) (m : Master) (w : Wick), s.MayWrite m (w.page 0xC) 0x040 ∧ s.plainCodes m (w.page 0xC) 0x040 = [] ∧ s.isAuthor w = true ∧ s.swapArmed = true ∧ s.saving = false) ∧
    (∃ (s : State) (w : Wick), s.author = some w ∧ s.stopped w = false ∧ s.saving = false ∧ s.cfg.state = 2 ∧ s.cfg.swapAt ≤ s.now) ∧
    (∃ (s : State) (m : Master) (w : Wick) (x : Instr) (c : BankCmd), ((x = .copyActive m w ∧ c = .copyActive) ∨ (x = .clearShadow m w ∧ c = .clearShadow) ∨ (x = .validate m w ∧ c = .validate)) ∧ s.MayWrite m (w.page 0xC) 0x068 ∧ s.plainCodes m (w.page 0xC) 0x068 = [] ∧ s.isAuthor w = true ∧ s.swapArmed = false ∧ s.saving = false ∧ s.cfg.cmd = none) ∧
    (∃ (s : State) (w : Wick) (c : BankCmd), s.cfg.cmd = some c ∧ s.author = some w ∧ s.stopped w = false ∧ s.saving = false) :=
  ⟨⟨rdy, Master.hostS, Wick.a, (1 : BitVec 2), by simp only [State.MayWrite]; decide +kernel⟩,
   ⟨{ lnk with cfg := { lnk.cfg with state := 1, swapMode := 1, half1 := lnk.cfg.half0 } }, Wick.a, by decide +kernel⟩,
   ⟨{ rdy with cfg := { rdy.cfg with state := 1, half1 := { rdy.cfg.half1 with mem := [(tabProfile.base, 1)] } } }, Wick.a, by decide +kernel⟩,
   ⟨{ rdy with cfg := { rdy.cfg with state := 2 } }, Master.hostS, Wick.a, by simp only [State.MayWrite]; decide +kernel⟩,
   ⟨{ rdy with cfg := { rdy.cfg with state := 2, swapAt := 4500000 } }, Wick.a, by decide +kernel⟩,
   ⟨rdy, Master.hostS, Wick.a, _, _, ⟨Or.inl ⟨rfl, rfl⟩, by simp only [State.MayWrite]; decide +kernel⟩⟩,
   ⟨{ rdy with cfg := { rdy.cfg with cmd := some .clearShadow } }, Wick.a, (({ rdy with cfg := { rdy.cfg with cmd := some .clearShadow } }).cfg.cmd).get rfl, by decide +kernel⟩⟩

/-- The hypotheses of the clauses of FramesExecuteOrAreRefused are met. -/
theorem witness_framesExecuteOrAreRefused :
    (∃ (s : State) (o : Nat) (l : List Byte), s.listens = true ∧ 0 < l.length ∧ l.length ≤ 4096 ∧ o + l.length ≤ 0x20000) ∧
    (∃ (s : State) (o : Nat) (n : Nat), s.listens = true ∧ 0 < n ∧ n ≤ 4096 ∧ o + n ≤ 0x20000) ∧
    (∃ (s : State), s.listens = true) ∧
    (∃ (s : State) (a : Nat) (l : List Byte) (crc : Nat), s.listens = true ∧ a < 2 ^ 24 ∧ l.length < 2 ^ 16 ∧ crc < 2 ^ 16 ∧ crc ≠ crc16 (requestBody 1 a l.length l)) :=
  ⟨⟨rdy, 8, [1], by decide +kernel⟩,
   ⟨rdy, 8, 8, by decide +kernel⟩,
   ⟨rdy, by decide +kernel⟩,
   ⟨rdy, 8, [], 8, by decide +kernel⟩⟩

/-- The hypotheses of the clauses of SessionsAndTheHostLinkDomain are met. -/
theorem witness_sessionsAndTheHostLinkDomain :
    (∃ (s : State) (low : Word), s.pdOn 10 = true ∧ s.get HOSTLINK.IDLE_MS ≠ 0 ∧ millis (s.get HOSTLINK.IDLE_MS) ≤ low.toNat ∧ s.hl.wokeAt + low.toNat ≤ s.base ∧ s.streamBusy = false) ∧
    (∃ (s : State), s.pdOn 10 = true) ∧
    (∃ (s : State) (m : Master), s.MayWrite m 0xF 0x054 ∧ s.on (HDR.ENABLE 0xF) = true ∧ s.on VAULT.RNG_OK = true ∧ s.hl.opening = none ∧ s.lockedOut = false) ∧
    (∃ (s : State) (o : List Byte) (k : SlotKey), s.hl.opening = some o ∧ s.on (HDR.ENABLE 0xF) = true ∧ s.on VAULT.RNG_OK = true ∧ s.keys.get? 0 = some k) ∧
    (∃ (s : State), s.due tmLockout = true) ∧
    (∃ (s : State), s.MayWrite .hostS 0xF 0x054 ∧ s.hl.key.isSome = true) ∧
    (∃ (s : State) (m : Master), m ≠ .hostN ∧ s.MayWrite m 0xF 0x008) :=
  ⟨⟨(rdy.setAll [(HOSTLINK.IDLE_MS, 10)]), ((BitVec.ofNat 32 (millis 10)) : Word), by decide +kernel⟩,
   ⟨rdy, by decide +kernel⟩,
   ⟨rdy, Master.hostS, by simp only [State.MayWrite]; decide +kernel⟩,
   ⟨{ rdy with hl := { rdy.hl with opening := some [1, 2] }, keys := [(0, { gen := 1, half := false, key := leBytes 32 5 })] }, [1, 2], (({ rdy with hl := { rdy.hl with opening := some [1, 2] }, keys := [(0, { gen := 1, half := false, key := leBytes 32 5 })] }).keys.get? 0).get rfl, by decide +kernel⟩,
   ⟨{ rdy with timers := [(tmLockout, 100)] }, by decide +kernel⟩,
   ⟨{ rdy with hl := { rdy.hl with key := some [1] } }, by simp only [State.MayWrite]; decide +kernel⟩,
   ⟨rdy, Master.hostS, by simp only [State.MayWrite]; decide +kernel⟩⟩

/-- The hypotheses of the clauses of MailboxMessagesPassOnce are met. -/
theorem witness_mailboxMessagesPassOnce :
    (∃ (s : State) (m : Master) (ch : Fin 16), (m = .mss ∨ m = .hostS) ∧ s.MayWrite m (chPage ch.val) (0x040 + 0x20 * (ch.val % 8)) ∧ s.on (MBOX.OPEN ch.val) = false) ∧
    (∃ (s : State) (m : Master) (ch : Fin 16), s.actsAs m (s.get (MBOX.SENDER ch.val)) = true ∧ s.on (MBOX.PENDING ch.val) = false ∧ s.MayWrite m (chPage ch.val) (0x044 + 0x20 * (ch.val % 8))) ∧
    (∃ (s : State) (m : Master) (ch : Fin 16), s.actsAs m (s.get (MBOX.SENDER ch.val)) = true ∧ s.on (MBOX.PENDING ch.val) = false ∧ s.MayWrite m (chPage ch.val) (0x048 + 0x20 * (ch.val % 8))) ∧
    (∃ (s : State) (m : Master) (ch : Fin 16), s.actsAs m (s.get (MBOX.SENDER ch.val)) = true ∧ s.on (MBOX.PENDING ch.val) = false ∧ s.MayWrite m (chPage ch.val) (0x04C + 0x20 * (ch.val % 8))) ∧
    (∃ (s : State) (m : Master) (ch : Fin 16), s.MayWrite m (chPage ch.val) (0x050 + 0x20 * (ch.val % 8)) ∧ s.actsAs m (s.get (MBOX.SENDER ch.val)) = true ∧ s.on (MBOX.PENDING ch.val) = false ∧ s.on (MBOX.OPEN ch.val) = true ∧ s.on (HDR.ENABLE (chPage ch.val)) = true ∧ s.get (MBOX.LENGTH ch.val) ≠ 0 ∧ s.get (MBOX.OFFSET ch.val) + s.get (MBOX.LENGTH ch.val) ≤ 0x20000) ∧
    (∃ (s : State) (ch : Fin 16), s.on (MBOX.PENDING ch.val) = true ∧ s.on (MBOX.ANNOUNCED ch.val) = false ∧ s.receiverUp ch.val = true ∧ hostEndpoint (s.get (MBOX.RECEIVER ch.val)) = true) ∧
    (∃ (s : State) (m : Master) (ch : Fin 16) (ret : BitVec 16) (seq : Byte), s.MayWrite m (chPage ch.val) (0x054 + 0x20 * (ch.val % 8)) ∧ s.actsAs m (s.get (MBOX.RECEIVER ch.val)) = true ∧ s.on (MBOX.PENDING ch.val) = true ∧ seq.toNat = s.get (MBOX.POST_SEQ ch.val) ∧ (hostEndpoint (endpointOf m) = false ∨ ret.toNat < 0xFF00)) ∧
    (∃ (s : State) (m : Master) (ch : Fin 16), s.MayWrite m (chPage ch.val) (0x050 + 0x20 * (ch.val % 8)) ∧ s.actsAs m (s.get (MBOX.SENDER ch.val)) = true ∧ s.on (MBOX.PENDING ch.val) = true) ∧
    (∃ (s : State) (m : Master) (secure : Bool), s.MayWrite m (3 + b2n secure) 0x008) ∧
    (∃ (s : State) (m : Master) (ch : Fin 16), s.MayWrite m (chPage ch.val) (0x050 + 0x20 * (ch.val % 8)) ∧ s.actsAs m (s.get (MBOX.SENDER ch.val)) = true ∧ s.on (MBOX.PENDING ch.val) = false ∧ s.on (HDR.ENABLE (chPage ch.val)) = false) :=
  ⟨⟨rdy, Master.hostS, (15 : Fin 16), by simp only [State.MayWrite]; decide +kernel⟩,
   ⟨rdy.set (MBOX.SENDER 15) 4, Master.hostS, (15 : Fin 16), by simp only [State.MayWrite]; decide +kernel⟩,
   ⟨rdy.set (MBOX.SENDER 15) 4, Master.hostS, (15 : Fin 16), by simp only [State.MayWrite]; decide +kernel⟩,
   ⟨rdy.set (MBOX.SENDER 15) 4, Master.hostS, (15 : Fin 16), by simp only [State.MayWrite]; decide +kernel⟩,
   ⟨(rdy.setAll [(MBOX.SENDER 3, 5), (MBOX.RECEIVER 3, 1), (MBOX.OPEN 3, 1), (MBOX.LENGTH 3, 0x20000), (MBOX.OFFSET 3, 0)]), Master.hostN, (3 : Fin 16), by simp only [State.MayWrite]; decide +kernel⟩,
   ⟨(rdy.setAll [(MBOX.PENDING 3, 1), (MBOX.RECEIVER 3, 4)]), (3 : Fin 16), by decide +kernel⟩,
   ⟨(rdy.setAll [(MBOX.PENDING 3, 1), (MBOX.RECEIVER 3, 4), (MBOX.POST_SEQ 3, 6)]), Master.hostS, (3 : Fin 16), (0xFEFF : BitVec 16), (6 : Byte), by simp only [State.MayWrite]; decide +kernel⟩,
   ⟨(rdy.setAll [(MBOX.PENDING 3, 1), (MBOX.SENDER 3, 4)]), Master.hostS, (3 : Fin 16), by simp only [State.MayWrite]; decide +kernel⟩,
   ⟨rdy, Master.hostS, true, by simp only [State.MayWrite]; decide +kernel⟩,
   ⟨rdy.setAll [(MBOX.SENDER 15, 4), (HDR.ENABLE 4, 0)], Master.hostS, (15 : Fin 16), by simp only [State.MayWrite]; decide +kernel⟩⟩

/-- The hypotheses of the clauses of ControllerServesTables are met. -/
theorem witness_controllerServesTables :
    (∃ (s : State) (ch : Fin 16) (m : Master) (w : Wick) (r : Request), s.chWick ch.val = some w ∧ (s.chPoster.get? ch.val).bind Master.ofId = some m ∧ s.on (MBOX.PENDING ch.val) = true ∧ s.on (MBOX.ANNOUNCED ch.val) = true ∧ s.stopped w = false ∧ s.isController w = true ∧ s.requestOf ch.val = .inl r ∧ s.MayWrite w.master (chPage ch.val) (0x054 + 0x20 * (ch.val % 8)) ∧ s.actsAs w.master (s.get (MBOX.RECEIVER ch.val)) = true ∧ s.get (MBOX.OPCODE ch.val) = 0x0201 ∧ s.readCodes m (w.page (portPos r.port)) = [] ∧ (∀ k < r.count, s.entryCodes m w r.port r.number r.shadow (r.first + k) .read = [])) ∧
    (∃ (s : State) (ch : Fin 16) (m : Master) (w : Wick) (r : Request), s.chWick ch.val = some w ∧ (s.chPoster.get? ch.val).bind Master.ofId = some m ∧ s.on (MBOX.PENDING ch.val) = true ∧ s.on (MBOX.ANNOUNCED ch.val) = true ∧ s.stopped w = false ∧ s.isAuthor w = true ∧ m ≠ .hostN ∧ s.saving = false ∧ s.requestOf ch.val = .inl r ∧ r.table.store = .bank ∧ s.MayWrite w.master (chPage ch.val) (0x054 + 0x20 * (ch.val % 8)) ∧ s.actsAs w.master (s.get (MBOX.RECEIVER ch.val)) = true ∧ s.writeCodes m (w.page (portPos r.port)) 0x108 = [] ∧ let e := fun (k : Nat) => s.window.read (s.chArea ch.val + 16 + k * r.table.bytes) r.table.bytes; s.get (MBOX.OPCODE ch.val) = 0x0202 ∧ (∀ k < r.count, s.entryCodes m w r.port r.number r.shadow (r.first + k) (.write (e k)) = [])) ∧
    (∃ (s : State) (ch : Fin 16) (m : Master) (w : Wick) (r : Request), s.chWick ch.val = some w ∧ (s.chPoster.get? ch.val).bind Master.ofId = some m ∧ s.on (MBOX.PENDING ch.val) = true ∧ s.on (MBOX.ANNOUNCED ch.val) = true ∧ s.stopped w = false ∧ s.isAuthor w = true ∧ m ≠ .hostN ∧ s.saving = false ∧ s.requestOf ch.val = .inl r ∧ r.table.store = .bank ∧ s.MayWrite w.master (chPage ch.val) (0x054 + 0x20 * (ch.val % 8)) ∧ s.actsAs w.master (s.get (MBOX.RECEIVER ch.val)) = true ∧ s.writeCodes m (w.page (portPos r.port)) 0x108 = [] ∧ s.get (MBOX.OPCODE ch.val) = 0x0203 ∧ (∀ k < r.count, s.entryCodes m w r.port r.number r.shadow (r.first + k) .erase = [])) ∧
    (∃ (s : State) (ch : Fin 16) (m : Master) (w : Wick) (n : Nat), s.chWick ch.val = some w ∧ (s.chPoster.get? ch.val).bind Master.ofId = some m ∧ s.on (MBOX.PENDING ch.val) = true ∧ s.on (MBOX.ANNOUNCED ch.val) = true ∧ s.stopped w = false ∧ s.isController w = true ∧ m ≠ .hostN ∧ s.MayWrite w.master (chPage ch.val) (0x054 + 0x20 * (ch.val % 8)) ∧ s.actsAs w.master (s.get (MBOX.RECEIVER ch.val)) = true ∧ s.get (MBOX.OPCODE ch.val) = 0x0204 ∧ 0 < n ∧ n ≤ 4096 ∧ 16 + 20 * n ≤ s.get (MBOX.LENGTH ch.val) ∧ s.window.read (s.chArea ch.val) 16 = leBytes 2 0 ++ leBytes 4 0 ++ leBytes 2 n ++ leBytes 2 20 ++ leBytes 6 0) :=
  ⟨⟨{ (rdy.setAll [(MBOX.PENDING 3, 1), (MBOX.ANNOUNCED 3, 1), (MBOX.RECEIVER 3, 2), (MBOX.LENGTH 3, 32), (MBOX.OPCODE 3, 0x0201)]) with chPoster := [(3, 4)], window := cells [] [(0, 1, 5), (1, 1, 0), (2, 1, 0), (4, 2, 3), (6, 2, 1), (8, 2, 16)] }, (3 : Fin 16), Master.hostS, Wick.a, ⟨.sched, 0, tabPrograms, false, 3, 1⟩, by simp only [State.MayWrite]; (repeat' apply And.intro); all_goals first | decide +kernel | rfl⟩,
   ⟨{ (rdy.setAll [(MBOX.PENDING 3, 1), (MBOX.ANNOUNCED 3, 1), (MBOX.RECEIVER 3, 2), (MBOX.LENGTH 3, 32), (MBOX.OPCODE 3, 0x0202)]) with chPoster := [(3, 4)], window := cells [] [(0, 1, 5), (1, 1, 0), (2, 1, 1), (4, 2, 3), (6, 2, 1), (8, 2, 16)] }, (3 : Fin 16), Master.hostS, Wick.a, ⟨.sched, 0, tabPrograms, true, 3, 1⟩, by simp only [State.MayWrite]; (repeat' apply And.intro); all_goals first | decide +kernel | rfl⟩,
   ⟨{ (rdy.setAll [(MBOX.PENDING 3, 1), (MBOX.ANNOUNCED 3, 1), (MBOX.RECEIVER 3, 2), (MBOX.LENGTH 3, 32), (MBOX.OPCODE 3, 0x0203)]) with chPoster := [(3, 4)], window := cells [] [(0, 1, 5), (1, 1, 0), (2, 1, 1), (4, 2, 3), (6, 2, 1), (8, 2, 16)] }, (3 : Fin 16), Master.hostS, Wick.a, ⟨.sched, 0, tabPrograms, true, 3, 1⟩, by simp only [State.MayWrite]; (repeat' apply And.intro); all_goals first | decide +kernel | rfl⟩,
   ⟨{ (rdy.setAll [(MBOX.PENDING 3, 1), (MBOX.ANNOUNCED 3, 1), (MBOX.RECEIVER 3, 7), (MBOX.LENGTH 3, 56), (MBOX.OPCODE 3, 0x0204)]) with chPoster := [(3, 4)], window := cells [] [(6, 2, 2), (8, 2, 20)], txn := { rdy.txn with results := [[1, 2, 3, 4, 5]] } }, (3 : Fin 16), Master.hostS, Wick.a, 2, by simp only [State.MayWrite]; decide +kernel⟩⟩

/-- The hypotheses of the clauses of StreamsCarryWholePackets are met. -/
theorem witness_streamsCarryWholePackets :
    (∃ (s : State) (f : Fin 4), s.fifoAccepts f.val = true ∧ (s.fifo f.val).openSlots = none ∧ 0 < (s.fifo f.val).free f.val) ∧
    (∃ (s : State) (f : Fin 4) (l : List Word) (n : Nat), (s.fifo f.val).openSlots = some n ∧ (s.fifo f.val).words.length + 1 + l.length ≤ fifoSize f.val) ∧
    (∃ (s : State) (f : Fin 4) (n : Nat), (s.fifo f.val).openSlots = some n) ∧
    (∃ (s : State) (m : Master) (f : Fin 4), s.MayWrite m 5 (0x040 + 0x20 * f.val) ∧ s.on (STREAM.FLUSH_BUSY f.val) = false) ∧
    (∃ (s : State) (f : Fin 4) (n : Nat), (s.fifo f.val).flushMark = some n ∧ s.on (STREAM.FLUSH_BUSY f.val) = true) ∧
    (∃ (s : State) (m : Master) (f : Fin 4) (w : Word) (p : Bool) (l : List (Word × Bool)), s.MayRead m 5 ∧ (s.fifo f.val).words = (w, p) :: l) ∧
    (∃ (s : State) (m : Master) (f : Fin 4), s.MayRead m 5 ∧ (s.fifo f.val).words = []) :=
  ⟨⟨{ rdyF with fifos := [(1, { words := [], openSlots := none, flushMark := none, lastRead := 0 })] }, (1 : Fin 4), by decide +kernel⟩,
   ⟨{ rdyF with fifos := [(1, { words := [], openSlots := some 3, flushMark := none, lastRead := 0 })] }, (1 : Fin 4), [7, 8], ((({ rdyF with fifos := [(1, { words := [], openSlots := some 3, flushMark := none, lastRead := 0 })] }).fifo ((1 : Fin 4)).val).openSlots).get rfl, by decide +kernel⟩,
   ⟨{ rdyF with fifos := [(1, { words := [], openSlots := some 3, flushMark := none, lastRead := 0 })] }, (1 : Fin 4), ((({ rdyF with fifos := [(1, { words := [], openSlots := some 3, flushMark := none, lastRead := 0 })] }).fifo ((1 : Fin 4)).val).openSlots).get rfl, by decide +kernel⟩,
   ⟨rdy, Master.hostS, (3 : Fin 4), by simp only [State.MayWrite]; decide +kernel⟩,
   ⟨{ (rdy.setAll [(STREAM.FLUSH_BUSY 1, 1)]) with fifos := [(1, { words := [], openSlots := none, flushMark := some 0, lastRead := 0 })] }, (1 : Fin 4), ((({ (rdy.setAll [(STREAM.FLUSH_BUSY 1, 1)]) with fifos := [(1, { words := [], openSlots := none, flushMark := some 0, lastRead := 0 })] }).fifo ((1 : Fin 4)).val).flushMark).get rfl, by decide +kernel⟩,
   ⟨{ rdyF with fifos := [(1, { words := [(5, true), (6, false)], openSlots := none, flushMark := none, lastRead := 0 })] }, Master.hostS, (1 : Fin 4), (5 : Word), true, [(6, false)], by simp only [State.MayRead]; decide +kernel⟩,
   ⟨rdy, Master.hostS, (3 : Fin 4), by simp only [State.MayRead]; decide +kernel⟩⟩

/-- The hypotheses of the clauses of ReceiversAndPresets are met. -/
theorem witness_receiversAndPresets :
    (∃ (s : State) (w : Wick) (x : Detect), s.receiving w = true ∧ s.blanked w = false ∧ x.chan < s.active.nChan ∧ (s.active.chan x.chan).rx = true ∧ (∀ d ∈ s.busyDemods w, s.get (RADIO.CHANNEL w d) ≠ x.chan) ∧ s.freeDemods w ≠ []) ∧
    (∃ (s : State) (w : Wick) (d : Fin 8), s.due (tmSfd w d.val) = true) ∧
    (∃ (s : State) (w : Wick) (d : Fin 8), s.on (RADIO.DEMOD_BUSY w d.val) = true) ∧
    (∃ (s : State) (w : Wick), s.pdOn (radioPd w) = true) ∧
    (∃ (s : State) (m : Master) (w : Wick) (p : Fin 8), s.MayWrite m (w.page 1) 0x040 ∧ s.shadowCodes m w = [] ∧ s.cfg.preset = none ∧ 1 ≤ p.val ∧ p.val ≤ 3) ∧
    (∃ (s : State) (p : Nat) (w : Wick), s.cfg.preset = some p ∧ s.author = some w ∧ s.stopped w = false ∧ s.saving = false) :=
  ⟨⟨lnk, Wick.a, detect0, by decide +kernel⟩,
   ⟨{ rdy with timers := [(tmSfd .a 2, 5)] }, Wick.a, (2 : Fin 8), by decide +kernel⟩,
   ⟨(rdy.setAll [(RADIO.DEMOD_BUSY .a 2, 1)]), Wick.a, (2 : Fin 8), by decide +kernel⟩,
   ⟨rdy, Wick.a, by decide +kernel⟩,
   ⟨rdy, Master.hostS, Wick.a, (1 : Fin 8), by simp only [State.MayWrite]; decide +kernel⟩,
   ⟨{ rdy with cfg := { rdy.cfg with preset := some 1 } }, (({ rdy with cfg := { rdy.cfg with preset := some 1 } }).cfg.preset).get rfl, Wick.a, by decide +kernel⟩⟩

/-- The hypotheses of the clauses of ReceivedFramesAreCounted are met. -/
theorem witness_receivedFramesAreCounted :
    (∃ (s : State) (w : Wick) (d : Fin 8) (psdu : List Byte), s.on (RADIO.DEMOD_BUSY w d.val) = true ∧ 5 ≤ psdu.length ∧ psdu.length ≤ 511 ∧ s.role w = .mirror) ∧
    (∃ (s : State) (w : Wick) (d : Fin 8) (psdu : List Byte) (f : RxFrame), s.on (RADIO.DEMOD_BUSY w d.val) = true ∧ 5 ≤ psdu.length ∧ psdu.length ≤ 511 ∧ s.role w = .author ∧ s.stopped w = false ∧ s.linkOn w = true ∧ s.captures w = false ∧ parseFrame psdu = some f ∧ f.headerOk = true ∧ f.ty ≠ 15 ∧ f.seg ≠ s.get (FABRIC.SEG_ID s.cw) ∧ s.cw = w) ∧
    (∃ (s : State) (w : Wick), s.on (RADIO.PLL_LOCK w) = true ∧ s.link.onAir.get? w.idx = none ∧ s.get PILOT.TH_PLL = 0) :=
  ⟨⟨({ lnk with roleB := .mirror }.setAll [(RADIO.DEMOD_BUSY .b 2, 1)]), Wick.b, (2 : Fin 8), leBytes 5 77, by decide +kernel⟩,
   ⟨(lnk.setAll [(RADIO.DEMOD_BUSY .a 2, 1)]), Wick.a, (2 : Fin 8), otherSeg, (parseFrame (otherSeg)).get rfl, by decide +kernel⟩,
   ⟨(rdy.setAll [(PILOT.TH_PLL, 0)]), Wick.a, by decide +kernel⟩⟩

/-- The hypotheses of the clauses of LedgerChargesWhatItGrants are met. -/
theorem witness_ledgerChargesWhatItGrants :
    (∃ (s : State) (w : Wick) (x : LedgerReq), s.on (RADIO.PLL_LOCK w) = true ∧ s.stopped w = false ∧ let r := reqOf x; let u := s.closeBuckets; u.ledgerCode w r = 0) ∧
    (∃ (s : State) (w : Wick) (x : LedgerReq), s.on (RADIO.PLL_LOCK w) = true ∧ s.stopped w = false ∧ let r := reqOf x; let u := s.closeBuckets; u.ledgerCode w r ≠ 0 ∧ s.active.profFilled = true ∧ x.channel.val < s.active.nChan) ∧
    (∃ (s : State), s.base / 32768 = s.ledger.boundaries + 1) ∧
    (∃ (s : State), s.MayWrite .hostS 0xC 0x008 ∧ s.presuming = true) ∧
    (∃ (s : State) (w : Wick) (g : Grant), s.link.grants.get? w.idx = some g ∧ g.since + 65 < s.base) ∧
    (∃ (s : State) (t : State) (y : LedgerReq), exec (.ledgerRequest .a y.channel y.cls y.psdu y.wake y.air none) s = .next t) :=
  ⟨⟨lnk, Wick.a, ask0, by decide +kernel⟩,
   ⟨lnk, Wick.a, { ask0 with psdu := 40000 }, by decide +kernel⟩,
   ⟨{ rdy with ledger := { rdy.ledger with boundaries := 121 } }, by decide +kernel⟩,
   ⟨rdy, by simp only [State.MayWrite]; decide +kernel⟩,
   ⟨{ rdy with link := { rdy.link with grants := [(0, { frame := none, use := .bare, channel := 0, wake := 0, toa := 20000, common := false, since := 3000000, start := 0, count := 1, cut := false })] } }, Wick.a, (({ rdy with link := { rdy.link with grants := [(0, { frame := none, use := .bare, channel := 0, wake := 0, toa := 20000, common := false, since := 3000000, start := 0, count := 1, cut := false })] } }).link.grants.get? (Wick.a).idx).get rfl, by decide +kernel⟩,
   ⟨lnk, _, ask0, rfl⟩⟩

/-- The hypotheses of the clauses of FramesAndBeaconsAreKeyed are met. -/
theorem witness_framesAndBeaconsAreKeyed :
    (∃ (s : State) (w : Wick) (g : Grant) (f : OutFrame), s.link.grants.get? w.idx = some g ∧ g.frame = some f ∧ s.mayKey w g = true ∧ s.on (RADIO.TX_EN w) = true ∧ s.ringRoom = true ∧ f.ty ≠ 0xF) ∧
    (∃ (s : State) (w : Wick) (g : Grant), s.link.onAir.get? w.idx = some g ∧ g.cut = false ∧ g.since + g.toa * 32768 / 1000000 ≤ s.base) ∧
    (∃ (s : State) (w : Wick), let k := s.nextBeacon; let c := s.active.beaconChan k; s.beaconOn w = true ∧ k ≤ s.now + usTicks (s.active.preUs c) ∧ s.link.onAir.get? w.idx = none ∧ s.on (RADIO.TX_EN w) = true ∧ s.transmitterFree w = true ∧ s.ringRoom = true ∧ s.closeBuckets.ledgerCode w { channel := c, cls := 0, psdu := beaconPsdu, wake := 0, air := false } = 0) ∧
    (∃ (s : State) (w : Wick), s.isController w = false ∧ s.stopped w = false ∧ s.saving = false) ∧
    (∃ (s : State) (w : Wick), s.isController w = true ∧ s.stopped w = false ∧ (s.saving = false ∨ s.link.seqNext ≠ s.link.seqCeiling)) ∧
    (∃ (s : State) (w : Wick), (s.stopped w = true ∨ (s.saving = true ∧ s.link.seqNext = s.link.seqCeiling))) :=
  ⟨⟨{ lnkFree with link := { lnk.link with grants := [(0, { frame := some { ty := 1, dest := 9, seq := 4, retry := 0, ackReq := false, copy := false, keySel := 0, nodeId := 0, joinKey := [], ttl := 3, payload := [1, 2] }, use := .bare, channel := 0, wake := 0, toa := 20000, common := false, since := 4000000, start := 0, count := 1, cut := false })] } }, Wick.a, (({ lnkFree with link := { lnk.link with grants := [(0, { frame := some { ty := 1, dest := 9, seq := 4, retry := 0, ackReq := false, copy := false, keySel := 0, nodeId := 0, joinKey := [], ttl := 3, payload := [1, 2] }, use := .bare, channel := 0, wake := 0, toa := 20000, common := false, since := 4000000, start := 0, count := 1, cut := false })] } }).link.grants.get? (Wick.a).idx).get rfl, (((({ lnkFree with link := { lnk.link with grants := [(0, { frame := some { ty := 1, dest := 9, seq := 4, retry := 0, ackReq := false, copy := false, keySel := 0, nodeId := 0, joinKey := [], ttl := 3, payload := [1, 2] }, use := .bare, channel := 0, wake := 0, toa := 20000, common := false, since := 4000000, start := 0, count := 1, cut := false })] } }).link.grants.get? (Wick.a).idx).get rfl).frame).get rfl, by decide +kernel⟩,
   ⟨{ lnk with link := { lnk.link with onAir := [(0, { frame := some { ty := 1, dest := 9, seq := 4, retry := 0, ackReq := false, copy := false, keySel := 0, nodeId := 0, joinKey := [], ttl := 3, payload := [1, 2] }, use := .bare, channel := 0, wake := 0, toa := 20000, common := false, since := 3000000, start := 0, count := 1, cut := false })] } }, Wick.a, (({ lnk with link := { lnk.link with onAir := [(0, { frame := some { ty := 1, dest := 9, seq := 4, retry := 0, ackReq := false, copy := false, keySel := 0, nodeId := 0, joinKey := [], ttl := 3, payload := [1, 2] }, use := .bare, channel := 0, wake := 0, toa := 20000, common := false, since := 3000000, start := 0, count := 1, cut := false })] } }).link.onAir.get? (Wick.a).idx).get rfl, by decide +kernel⟩,
   ⟨{ lnk with now := lnk.nextBeacon }, Wick.a, by decide +kernel⟩,
   ⟨rdy, Wick.b, by decide +kernel⟩,
   ⟨rdy, Wick.a, by decide +kernel⟩,
   ⟨{ rdy with stoppedA := true }, Wick.a, by decide +kernel⟩⟩

/-- The hypotheses of the clauses of TapersAndRendezvousGoOut are met. -/
theorem witness_tapersAndRendezvousGoOut :
    (∃ (s : State) (p : TaperPlan) (h : Nat) (homes : List Nat), s.link.taper = some p ∧ p.homes = h :: homes ∧ let w := s.cw; let b := s.active; let c := b.sampleChan h s.now; let toa := b.toaUs c 34 0; let n := b.trainFrames c; s.linkOn w = true ∧ s.transmitterFree w = true ∧ s.grant? w = none ∧ s.clearOfBeacon w s.now (n * toa) = true ∧ s.clearOfAcks (n * toa) = true ∧ (clearOfSecond s.now = true ∨ b.commonChan s.now ≠ c) ∧ (p.begun = true ∨ s.inTime (s.slot p.slot) = true) ∧ s.link.fcnt.getD w.idx 0 + n ≤ 0xFFFFFFFF ∧ (b.access = true → s.now % 32768 + usTicks (n * toa) ≤ 32768) ∧ s.on (RADIO.TX_EN w) = true ∧ 0 < n ∧ (s.askTrain w { channel := c, cls := (s.slot p.slot).desc.cls, psdu := 34, wake := 0, air := false } n 0).1 = 0) ∧
    (∃ (s : State) (p : TaperPlan), s.link.taper = some p ∧ p.homes = [] ∧ p.rendezvous ≤ s.now ∧ s.now ≤ p.rendezvous + msTicks 5 ∧ let w := s.cw; let c := s.active.commonChan s.now; let f := s.attemptFrame p.slot; let toa := s.active.toaUs c f.psduLen 0; s.linkOn w = true ∧ s.transmitterFree w = true ∧ s.grant? w = none ∧ clearOfSecond s.now = true ∧ s.clearOfBeacon w s.now toa = true ∧ s.clearOfAcks toa = true ∧ s.ringRoom = true ∧ s.on (RADIO.TX_EN w) = true ∧ s.closeBuckets.ledgerCode w { channel := c, cls := (s.slot p.slot).desc.cls, psdu := f.psduLen, wake := 0, air := false } = 0) :=
  ⟨⟨(inSlot { lnkFree with link := { lnkFree.link with taper := some { slot := 1, homes := [0], rendezvous := lnkFree.now, begun := true } } } 1 { Slot.empty with state := 2, seq := some 4, desc := { Desc.empty with ty := 2, dest := 0x8001, opcode := 1 } }), { slot := 1, homes := [0], rendezvous := lnkFree.now, begun := true }, 0, [], by decide +kernel⟩,
   ⟨(inSlot { lnkFree with link := { lnkFree.link with taper := some { slot := 1, homes := [], rendezvous := lnkFree.now, begun := true } } } 1 { Slot.empty with state := 2, seq := some 4, desc := { Desc.empty with ty := 2, dest := 0x8001, opcode := 1 } }), { slot := 1, homes := [], rendezvous := lnkFree.now, begun := true }, by decide +kernel⟩⟩

/-- The hypotheses of the clauses of LinkSendsAcksAndCopies are met. -/
theorem witness_linkSendsAcksAndCopies :
    (∃ (s : State) (a : AckDue) (c : Nat), let w := s.cw; s.link.acks = [a] ∧ a.channel = some c ∧ a.due ≤ s.base ∧ s.base ≤ a.due + 6 ∧ s.linkOn w = true ∧ s.transmitterFree w = true ∧ s.clearOfBeacon w s.now (s.active.toaUs c 41 0) = true ∧ s.on (RADIO.TX_EN w) = true ∧ s.isController w = true ∧ s.ringRoom = true ∧ s.closeBuckets.ledgerCode w { channel := c, cls := 1, psdu := 41, wake := 0, air := false } = 0) ∧
    (∃ (s : State) (c : CopyDue) (l : List CopyDue) (w : Wick), s.link.copies = c :: l ∧ s.copier = some w ∧ c.due ≤ s.base ∧ s.base ≤ c.due + 65 ∧ (s.isController w = false ∨ (s.clearOfBeacon w s.now (s.active.toaUs c.channel c.frame.psduLen 0) = true ∧ s.clearOfAcks (s.active.toaUs c.channel c.frame.psduLen 0) = true)) ∧ clearOfSecond s.now = true ∧ s.linkOn w = true ∧ s.transmitterFree w = true ∧ s.on (RADIO.TX_EN w) = true ∧ c.frame.copy = true ∧ c.frame.ty ≠ 0xF ∧ s.closeBuckets.ledgerCode w { channel := c.channel, cls := 3, psdu := c.frame.psduLen, wake := 0, air := false } = 0) ∧
    (∃ (s : State) (m : Master) (w : Wick), s.MayWrite m (w.page 2) 0x008 ∧ s.isController w = true) :=
  ⟨⟨{ lnkFree with link := { lnkFree.link with acks := [{ dest := 9, seq := 4, result := 0, channel := some 0, rssi := 50, due := 4000000, own := none }] } }, { dest := 9, seq := 4, result := 0, channel := some 0, rssi := 50, due := 4000000, own := none }, 0, by decide +kernel⟩,
   ⟨{ lnkFree with roleA := .author, roleB := .mirror, link := { lnkFree.link with copies := [{ frame := { ty := 1, dest := 9, seq := 4, retry := 0, ackReq := false, copy := true, keySel := 0, nodeId := 0, joinKey := [], ttl := 3, payload := [1, 2] }, channel := 0, due := 4000000 }] } }, { frame := { ty := 1, dest := 9, seq := 4, retry := 0, ackReq := false, copy := true, keySel := 0, nodeId := 0, joinKey := [], ttl := 3, payload := [1, 2] }, channel := 0, due := 4000000 }, [], Wick.b, by decide +kernel⟩,
   ⟨rdy, Master.hostS, Wick.a, by simp only [State.MayWrite]; decide +kernel⟩⟩

/-- The hypotheses of the clauses of TransactionsAreTakenAndShown are met. -/
theorem witness_transactionsAreTakenAndShown :
    (∃ (s : State) (m : Master) (w : Wick) (n : Nat), s.MayWrite m (w.page 3) 0x058 ∧ s.submitCode m w = 0 ∧ s.nextSlot? = some n) ∧
    (∃ (s : State) (p : Purpose) (ty : Nat) (dest : Nat) (opcode : Nat) (args : List Byte) (ack : Bool) (win : Nat) (att : Nat) (nb : Nat) (na : Nat) (n : Nat), let d := { master := 0, purpose := p, ty := ty, dest := dest, opcode := opcode, args := args, ackReq := ack, respWin := win, maxAtt := att, notBefore := nb, notAfter := na, nodeId := 0, joinKey := [] }; p ≠ .host ∧ s.takesInternal d = true ∧ s.nextSlot? = some n) ∧
    (∃ (s : State) (n : Nat) (q : Nat), let w := s.cw; let x := s.slot n; let c := s.active.commonChan s.now; s.linkFree = true ∧ s.nextOffer = some n ∧ x.seq = some q ∧ x.desc.ty = 1 ∧ s.wakes x = false ∧ (s.attemptFrame n).psduLen ≤ 255 ∧ s.reg.retained = [] ∧ s.on (RADIO.TX_EN w) = true ∧ s.closeBuckets.ledgerCode w { channel := c, cls := x.desc.cls, psdu := (s.attemptFrame n).psduLen, wake := 0, air := false } = 0) ∧
    (∃ (s : State) (n : Fin 64), (s.slot n.val).state = 1 ∧ (s.slot n.val).timer ≠ 0 ∧ (s.slot n.val).timer ≤ s.base) ∧
    (∃ (s : State) (n : Fin 64), (s.slot n.val).state = 4 ∧ (s.slot n.val).timer ≤ s.base ∧ s.linkFree = false) ∧
    (∃ (s : State) (m : Master) (w : Wick), s.MayWrite m (w.page 3) 0x008 ∧ s.isController w = true ∧ s.txn.waiting = [] ∧ (∀ n < 64, (s.slot n).live = true → (s.slot n).desc.purpose = .host)) ∧
    (∃ (s : State) (m : Master) (w : Wick), s.MayWrite m (w.page 3) 0x204 ∧ s.isController w = true) ∧
    (∃ (s : State) (m : Master) (w : Wick) (v : Word), let n := v.toNat % 64; s.MayWrite m (w.page 3) 0x300 ∧ (s.slot n).epoch = v.toNat / 64 % 4 ∧ (s.slot n).desc.ty = 2 ∧ (s.slot n).desc.asks = true) ∧
    (∃ (s : State) (n : Fin 64), (s.slot n.val).state = 4 ∧ (s.slot n.val).timer ≤ s.base ∧ let u := s.setSlot n.val { s.slot n.val with state := 1, timer := 0, planned := none, keyed := false }; u.linkFree = true ∧ u.offerable n.val = true) ∧
    (∃ (s : State) (n : Fin 64), (s.slot n.val).state = 4 ∧ (s.slot n.val).timer ≤ s.base ∧ let u := s.setSlot n.val { s.slot n.val with state := 1, timer := 0, planned := none, keyed := false }; (u.linkFree = false ∨ u.offerable n.val = false)) :=
  ⟨⟨(rdy.setAll [((TXN.SUB_DEST .a).forMaster .hostS, 0xFFFF)]), Master.hostS, Wick.a, (((rdy.setAll [((TXN.SUB_DEST .a).forMaster .hostS, 0xFFFF)])).nextSlot?).get rfl, by simp only [State.MayWrite]; decide +kernel⟩,
   ⟨rdy, (.push 3 1), 8, 8, 8, [], true, 8, 8, 8, 8, ((rdy).nextSlot?).get rfl, by decide +kernel⟩,
   ⟨(inSlot (inEntry lnkFree 9 [(0x18, 1, 2)]) 0 { Slot.empty with state := 1, seq := some 4, desc := { Desc.empty with ty := 1, dest := 9, opcode := 1, notAfter := 2 ^ 40 } } |> awake 9), (((inSlot (inEntry lnkFree 9 [(0x18, 1, 2)]) 0 { Slot.empty with state := 1, seq := some 4, desc := { Desc.empty with ty := 1, dest := 9, opcode := 1, notAfter := 2 ^ 40 } } |> awake 9)).nextOffer).get rfl, ((((inSlot (inEntry lnkFree 9 [(0x18, 1, 2)]) 0 { Slot.empty with state := 1, seq := some 4, desc := { Desc.empty with ty := 1, dest := 9, opcode := 1, notAfter := 2 ^ 40 } } |> awake 9)).slot ((((inSlot (inEntry lnkFree 9 [(0x18, 1, 2)]) 0 { Slot.empty with state := 1, seq := some 4, desc := { Desc.empty with ty := 1, dest := 9, opcode := 1, notAfter := 2 ^ 40 } } |> awake 9)).nextOffer).get rfl)).seq).get rfl, by decide +kernel⟩,
   ⟨(inSlot rdy 63 { Slot.empty with state := 1, timer := 4000000 }), (63 : Fin 64), by decide +kernel⟩,
   ⟨(inSlot rdy 0 { Slot.empty with state := 4, timer := 4000000 }), (0 : Fin 64), by decide +kernel⟩,
   ⟨rdy, Master.hostS, Wick.a, by simp only [State.MayWrite]; decide +kernel⟩,
   ⟨rdy, Master.hostS, Wick.a, by simp only [State.MayWrite]; decide +kernel⟩,
   ⟨(inSlot rdy 5 { Slot.empty with state := 3, epoch := 1, desc := { Desc.empty with ty := 2, ackReq := true, respWin := 5 } }), Master.hostS, Wick.a, (69 : Word), by simp only [State.MayWrite]; decide +kernel⟩,
   ⟨(inSlot (inEntry lnkFree 9 [(0x18, 1, 2)]) 0 { Slot.empty with state := 4, timer := 4000000, seq := some 4, desc := { Desc.empty with ty := 1, dest := 9, opcode := 1, notAfter := 2 ^ 40 } } |> awake 9), (0 : Fin 64), by decide +kernel⟩,
   ⟨(inSlot rdy 0 { Slot.empty with state := 4, timer := 4000000 }), (0 : Fin 64), by decide +kernel⟩⟩

/-- The hypotheses of the clauses of HostTransactionsCloseWithARecord are met. -/
theorem witness_hostTransactionsCloseWithARecord :
    (∃ (s : State) (n : Fin 64), let x := s.slot n.val; x.desc.purpose = .host ∧ s.txn.waiting = [] ∧ s.txn.results.length < 256 ∧ s.link.taper = none ∧ x.state = 1 ∧ s.inTime x = false ∧ x.attempts = 0) ∧
    (∃ (s : State) (n : Fin 64), let x := s.slot n.val; x.desc.purpose = .host ∧ s.txn.waiting = [] ∧ s.txn.results.length < 256 ∧ s.link.taper = none ∧ x.state = 3 ∧ x.timer ≤ s.base ∧ s.maxAttempts x.desc ≤ x.attempts ∧ 0 < x.attempts ∧ x.desc.asks = true ∧ x.desc.ty = 1) ∧
    (∃ (s : State) (n : Fin 64), let x := s.slot n.val; x.desc.purpose = .host ∧ s.txn.waiting = [] ∧ s.txn.results.length < 256 ∧ s.link.taper = none ∧ x.state = 3 ∧ x.timer ≤ s.base ∧ x.attempts < s.maxAttempts x.desc) ∧
    (∃ (s : State) (n : Fin 64), let x := s.slot n.val; x.desc.purpose = .host ∧ s.txn.waiting = [] ∧ s.txn.results.length < 256 ∧ s.link.taper = none ∧ x.state = 5 ∧ x.timer ≤ s.base) ∧
    (∃ (s : State) (m : Master) (w : Wick) (tag : Byte), let n := tag.toNat % 64; let x := s.slot n; s.MayWrite m (w.page 3) 0x058 ∧ s.isAuthor w = true ∧ x.live = true ∧ x.epoch = tag.toNat / 64 ∧ mayAbort m x.desc = true ∧ s.txn.waiting = [] ∧ s.txn.results.length < 256) ∧
    (∃ (s : State) (m : Master) (w : Wick), s.MayWrite m (w.page 3) 0x058 ∧ s.isController w = true) ∧
    (∃ (s : State) (n : Fin 64) (a : AckIn), let x := s.slot n.val; x.desc.purpose = .host ∧ s.txn.waiting = [] ∧ s.txn.results.length < 256 ∧ s.link.taper = none ∧ x.state = 3 ∧ 0 < x.attempts ∧ x.desc.asks = true ∧ x.desc.ty = 1 ∧ a.tag.toNat = s.tag n.val ∧ x.seq = some a.ackedSeq ∧ a.src = x.desc.dest ∧ a.result.toNat ≠ 3) ∧
    (∃ (s : State) (n : Fin 64), let x := s.slot n.val; (x.state = 1 ∨ x.state = 4) ∧ s.inTime x = false ∧ (∀ p ∈ s.txn.waiting, s.inTime { Slot.empty with desc := p.1, submitted := p.2 } = true)) ∧
    (∃ (s : State) (m : Master) (w : Wick) (tag : Byte), let n := tag.toNat % 64; let x := s.slot n; s.MayWrite m (w.page 3) 0x058 ∧ s.isController w = true ∧ x.live = true ∧ x.epoch = tag.toNat / 64 ∧ mayAbort m x.desc = true) ∧
    (∃ (s : State) (m : Master) (w : Wick) (tag : Byte) (same : Bool), let n := tag.toNat % 64; let x := s.slot n; s.MayWrite m (w.page 3) 0x058 ∧ s.isController w = true ∧ x.state ≠ 0 ∧ x.epoch = tag.toNat / 64 ∧ mayAbort m x.desc = true ∧ (x.state = 5 ∨ same = true)) ∧
    (∃ (s : State) (m : Master) (w : Wick) (tag : Byte), let n := tag.toNat % 64; let x := s.slot n; s.MayWrite m (w.page 3) 0x058 ∧ s.isController w = true ∧ (x.state = 0 ∨ x.epoch ≠ tag.toNat / 64 ∨ mayAbort m x.desc = false)) :=
  ⟨⟨(inSlot rdy 0 { Slot.empty with state := 1, desc := { Desc.empty with purpose := .host, master := 4, ty := 1, dest := 9, notAfter := 5 } }), (0 : Fin 64), by decide +kernel⟩,
   ⟨(inSlot rdy 1 { Slot.empty with state := 3, attempts := 2, timer := 5, desc := { Desc.empty with purpose := .host, master := 4, ty := 1, dest := 9, ackReq := true, maxAtt := 2 } }), (1 : Fin 64), by decide +kernel⟩,
   ⟨(inSlot rdy 1 { Slot.empty with state := 3, attempts := 1, timer := 5, desc := { Desc.empty with purpose := .host, master := 4, ty := 1, dest := 9, ackReq := true, maxAtt := 2 } }), (1 : Fin 64), by decide +kernel⟩,
   ⟨(inSlot rdy 63 { Slot.empty with state := 5, timer := 5, desc := { Desc.empty with purpose := .host, master := 4, ty := 1, dest := 9, ackReq := true } }), (63 : Fin 64), by decide +kernel⟩,
   ⟨(inSlot rdy 2 { Slot.empty with state := 1, epoch := 1, desc := { Desc.empty with purpose := .host, master := 4, ty := 1, dest := 9, ackReq := true } }), Master.hostS, Wick.a, (66 : Byte), by simp only [State.MayWrite]; decide +kernel⟩,
   ⟨rdy, Master.hostS, Wick.a, by simp only [State.MayWrite]; decide +kernel⟩,
   ⟨(inSlot rdy 1 { Slot.empty with state := 3, attempts := 1, seq := some 4, timer := 5, desc := { Desc.empty with purpose := .host, master := 4, ty := 1, dest := 9, ackReq := true, maxAtt := 2 } }), (1 : Fin 64), { src := 9, tag := 1, result := 0, ackedSeq := 4 }, by decide +kernel⟩,
   ⟨(inSlot rdy 0 { Slot.empty with state := 1, desc := { Desc.empty with purpose := .host, master := 4, ty := 1, dest := 9, notAfter := 5 } }), (0 : Fin 64), by decide +kernel⟩,
   ⟨(inSlot rdy 2 { Slot.empty with state := 1, epoch := 1, desc := { Desc.empty with purpose := .host, master := 4, ty := 1, dest := 9, ackReq := true } }), Master.hostS, Wick.a, (66 : Byte), by simp only [State.MayWrite]; decide +kernel⟩,
   ⟨(inSlot rdy 2 { Slot.empty with state := 5, epoch := 1, desc := { Desc.empty with purpose := .host, master := 4, ty := 1, dest := 9, ackReq := true } }), Master.hostS, Wick.a, (66 : Byte), false, by simp only [State.MayWrite]; decide +kernel⟩,
   ⟨rdy, Master.hostS, Wick.a, (3 : Byte), by simp only [State.MayWrite]; decide +kernel⟩⟩

/-- The hypotheses of the clauses of GuestsAndLookups are met. -/
theorem witness_guestsAndLookups :
    (∃ (s : State) (node : BitVec 64) (seg : BitVec 16) (a : Nat) (m : Nat), s.findNode node.toNat = some a ∧ s.authorRuns = true ∧ (s.entryState a = 1 ∨ s.entryState a = 2 ∨ s.entryState a = 5) ∧ s.entryFlag a 0 = true ∧ s.on (HDR.ENABLE (s.cw.page 0xB)) = true ∧ s.segModule seg.toNat = some m) ∧
    (∃ (s : State) (node : BitVec 64) (a : Nat), s.findNode node.toNat = some a ∧ (s.entryState a = 1 ∨ s.entryState a = 2 ∨ s.entryState a = 5) ∧ s.on (HDR.ENABLE (s.cw.page 0xB)) = true) ∧
    (∃ (s : State) (a : BitVec 16) (since : Nat), s.authorSince = some since ∧ s.entryState a.toNat = 5 ∧ s.rget a.toNat 0x22 2 ≠ 0xFFFF ∧ s.get (REGISTRY.RETURN_S s.cw) ≠ 0 ∧ since + 32768 * s.get (REGISTRY.RETURN_S s.cw) ≤ s.base ∧ (∀ x ∈ s.fab.repeats, ¬ (x.ltype = 0x14 ∧ x.nodeId = s.nodeId a.toNat))) ∧
    (∃ (s : State) (node : BitVec 64) (a : Nat), s.findNode node.toNat = some a ∧ s.entryState a = 6) ∧
    (∃ (s : State) (node : BitVec 64) (a : Nat), s.findNode node.toNat = some a ∧ s.entryState a = 5) ∧
    (∃ (s : State) (node : BitVec 64) (seg : BitVec 16) (m : Nat), s.on (HDR.ENABLE (s.cw.page 0xB)) = true ∧ s.segModule seg.toNat = some m ∧ (∀ a, s.findNode node.toNat = some a → s.authorRuns = false ∨ s.entryFlag a 0 = false ∨ (s.entryState a ≠ 1 ∧ s.entryState a ≠ 2 ∧ s.entryState a ≠ 5))) :=
  ⟨⟨(inEntry { rdy with fab := { rdy.fab with lsas := [{ uid := 77, addr := 8, seg := 9, seq := 3, withdrawn := false, links := [], since := 4000000 }] } } 3 [(0, 8, 5), (0x18, 1, 2), (0x19, 1, 1)]), (5 : BitVec 64), (9 : BitVec 16), (((inEntry { rdy with fab := { rdy.fab with lsas := [{ uid := 77, addr := 8, seg := 9, seq := 3, withdrawn := false, links := [], since := 4000000 }] } } 3 [(0, 8, 5), (0x18, 1, 2), (0x19, 1, 1)])).findNode ((5 : BitVec 64)).toNat).get rfl, (((inEntry { rdy with fab := { rdy.fab with lsas := [{ uid := 77, addr := 8, seg := 9, seq := 3, withdrawn := false, links := [], since := 4000000 }] } } 3 [(0, 8, 5), (0x18, 1, 2), (0x19, 1, 1)])).segModule ((9 : BitVec 16)).toNat).get rfl, by decide +kernel⟩,
   ⟨(inEntry { rdy with fab := { rdy.fab with lsas := [{ uid := 77, addr := 8, seg := 9, seq := 3, withdrawn := false, links := [], since := 4000000 }] } } 3 [(0, 8, 5), (0x18, 1, 1)]), (5 : BitVec 64), (((inEntry { rdy with fab := { rdy.fab with lsas := [{ uid := 77, addr := 8, seg := 9, seq := 3, withdrawn := false, links := [], since := 4000000 }] } } 3 [(0, 8, 5), (0x18, 1, 1)])).findNode ((5 : BitVec 64)).toNat).get rfl, by decide +kernel⟩,
   ⟨((inEntry rdy 3 [(0, 8, 5), (0x18, 1, 5), (0x22, 2, 9)]).setAll [(REGISTRY.RETURN_S .a, 5)]), (3 : BitVec 16), ((((inEntry rdy 3 [(0, 8, 5), (0x18, 1, 5), (0x22, 2, 9)]).setAll [(REGISTRY.RETURN_S .a, 5)])).authorSince).get rfl, by decide +kernel⟩,
   ⟨(inEntry rdy 3 [(0, 8, 5), (0x18, 1, 6)]), (5 : BitVec 64), (((inEntry rdy 3 [(0, 8, 5), (0x18, 1, 6)])).findNode ((5 : BitVec 64)).toNat).get rfl, by decide +kernel⟩,
   ⟨(inEntry rdy 3 [(0, 8, 5), (0x18, 1, 5)]), (5 : BitVec 64), (((inEntry rdy 3 [(0, 8, 5), (0x18, 1, 5)])).findNode ((5 : BitVec 64)).toNat).get rfl, by decide +kernel⟩,
   ⟨{ rdy with fab := { rdy.fab with lsas := [{ uid := 77, addr := 8, seg := 9, seq := 3, withdrawn := false, links := [], since := 4000000 }] } }, (6 : BitVec 64), (9 : BitVec 16), (State.segModule { rdy with fab := { rdy.fab with lsas := [{ uid := 77, addr := 8, seg := 9, seq := 3, withdrawn := false, links := [], since := 4000000 }] } } 9).get rfl, by decide +kernel, by decide +kernel, of_none (by decide +kernel)⟩⟩

/-- The hypotheses of the clauses of LanternsArePushedAndWatched are met. -/
theorem witness_lanternsArePushedAndWatched :
    (∃ (s : State) (a : BitVec 16) (n : Fin 7) (d : Desc) (k : Nat), s.registryRuns = true ∧ s.registered a.toNat = true ∧ s.mayPush a.toNat = true ∧ s.pushing a.toNat = false ∧ s.pushDesc a.toNat n.val = some d ∧ s.takesInternal d = true ∧ s.nextSlot? = some k) ∧
    (∃ (s : State) (a : Nat), s.registryRuns = true ∧ s.on (REGISTRY.AUTO_ROLE s.cw) = true ∧ s.reg.roleDue = none ∧ s.registeredList = [a] ∧ s.direct a = true ∧ 2 ≤ s.cfgGet (LINK.MAX_TTL .a) ∧ (s.lantern a).candidate = some (s.entryFlag a 3, 0) ∧ ((s.lantern a).router, s.parent a) ≠ (s.entryFlag a 3, 0)) ∧
    (∃ (s : State) (a : BitVec 16) (n : Fin 16) (since : Nat), (s.lantern a.toNat).activeSince.get? n.val = some since ∧ s.registryRuns = true ∧ since + 32768 * s.get (REGISTRY.LAST_S s.cw) ≤ s.base ∧ bit (s.rget a.toNat 0x66 2) n.val = false) ∧
    (∃ (s : State) (a : Nat) (x : Lantern), s.reg.lanterns = [(a, x)] ∧ s.reg.rotated + 32768 * 21600 ≤ s.base) ∧
    (∃ (s : State) (m : Master) (w : Wick) (a : BitVec 16), s.MayWrite m (w.page 4) 0x064 ∧ s.isController w = true ∧ isLantern a.toNat = true ∧ s.entryState a.toNat ≠ 0) ∧
    (∃ (s : State) (a : BitVec 16), s.registryRuns = true ∧ isLantern a.toNat = true ∧ s.entryState a.toNat = 2 ∧ s.pendingBit a.toNat 5 = false ∧ (s.lantern a.toNat).heardBase + 32768 * s.get (REGISTRY.SILENT_S s.cw) ≤ s.base) ∧
    (∃ (s : State) (m : Master) (w : Wick), s.MayWrite m (w.page 4) 0x064 ∧ s.isController w = true) ∧
    (∃ (s : State) (a : BitVec 16) (n : Fin 7) (d : Desc), s.registryRuns = true ∧ s.registered a.toNat = true ∧ s.mayPush a.toNat = true ∧ s.pushing a.toNat = false ∧ s.pushDesc a.toNat n.val = some d ∧ s.takesInternal d = true ∧ s.nextSlot? = none) ∧
    (∃ (s : State), s.registryRuns = true ∧ s.on (REGISTRY.AUTO_ROLE s.cw) = true ∧ (∀ d, s.reg.roleDue = some d → d ≤ s.base)) :=
  ⟨⟨(inEntry rdy 3 [(0, 8, 5), (0x18, 1, 2), (0x70, 2, 1)]), (3 : BitVec 16), (0 : Fin 7), (((inEntry rdy 3 [(0, 8, 5), (0x18, 1, 2), (0x70, 2, 1)])).pushDesc ((3 : BitVec 16)).toNat ((0 : Fin 7)).val).get rfl, (((inEntry rdy 3 [(0, 8, 5), (0x18, 1, 2), (0x70, 2, 1)])).nextSlot?).get rfl, by decide +kernel⟩,
   ⟨{ (rdy.setAll [(REGISTRY.AUTO_ROLE .a, 1)]) with reg := { (inEntry rdy 3 [(0, 8, 5), (0x18, 1, 2), (0x19, 1, 8)]).reg with lanterns := [(3, { Lantern.unknown with hops := some 0, rssi := 50, candidate := some (true, 0) })] } }, 3, by decide +kernel⟩,
   ⟨{ (rdy.setAll [(REGISTRY.LAST_S .a, 5)]) with reg := { (inEntry rdy 3 [(0x18, 1, 2)]).reg with lanterns := [(3, { Lantern.unknown with activeSince := [(15, 5)] })] } }, (3 : BitVec 16), (15 : Fin 16), ((({ (rdy.setAll [(REGISTRY.LAST_S .a, 5)]) with reg := { (inEntry rdy 3 [(0x18, 1, 2)]).reg with lanterns := [(3, { Lantern.unknown with activeSince := [(15, 5)] })] } }).lantern ((3 : BitVec 16)).toNat).activeSince.get? ((15 : Fin 16)).val).get rfl, by decide +kernel⟩,
   ⟨{ rdy with base := 32768 * 21600, reg := { rdy.reg with lanterns := [(3, { Lantern.unknown with faultCounts := [(1, [2, 3])] })], rotated := 0 } }, 3, { Lantern.unknown with faultCounts := [(1, [2, 3])] }, by decide +kernel⟩,
   ⟨(inEntry rdy 0x1000 [(0x18, 1, 2), (0x68, 2, 3)]), Master.hostS, Wick.a, (0x1000 : BitVec 16), by simp only [State.MayWrite]; decide +kernel⟩,
   ⟨{ (rdy.setAll [(REGISTRY.SILENT_S .a, 10)]) with reg := { (inEntry rdy 3 [(0x18, 1, 2)]).reg with lanterns := [(3, { Lantern.unknown with heardBase := 5 })] } }, (3 : BitVec 16), by decide +kernel⟩,
   ⟨rdy, Master.hostS, Wick.a, by simp only [State.MayWrite]; decide +kernel⟩,
   witness_pushWaits,
   ⟨{ rdy.setAll [(REGISTRY.AUTO_ROLE .a, 1)] with reg := { rdy.reg with roleDue := none } }, by decide +kernel, by decide +kernel, of_none rfl⟩⟩

/-- The hypotheses of the clauses of ScheduleResolvesAndRuns are met. -/
theorem witness_scheduleResolvesAndRuns :
    (∃ (s : State), s.schedRuns = true ∧ s.utcOk = true ∧ s.reg.day ≠ some s.localDay) ∧
    (∃ (s : State) (x : DayStep) (k : Nat), s.schedRuns = true ∧ s.utcOk = true ∧ s.reg.day.isSome = true ∧ s.reg.daySteps = [x] ∧ x.sent = false ∧ x.level ≠ 0xFFFF ∧ x.at_ ≤ s.now + 32768 * s.cfgGet (SCHED.LEAD_S .a) ∧ s.now + 32768 ≤ x.at_ ∧ s.on (HDR.ENABLE (s.cw.page 3)) = true ∧ s.nextSlot? = some k) ∧
    (∃ (s : State) (x : DayStep), s.schedRuns = true ∧ s.utcOk = true ∧ s.reg.day.isSome = true ∧ s.reg.daySteps = [x] ∧ x.done = false ∧ x.at_ ≤ s.now ∧ s.on (SCHED.KO_EN s.cw) = true) ∧
    (∃ (s : State) (p : Nat) (k : Nat), s.schedRuns = true ∧ s.authorRuns = true ∧ s.utcOk = true ∧ s.reg.refreshed ≠ some s.localDay ∧ (s.cfgGet (SCHED.REFRESH_MIN .a) : Int) ≤ s.localMin - 1440 * s.localDay ∧ s.active.programs = [p] ∧ s.nextSlot? = some k ∧ s.on (HDR.ENABLE (s.cw.page 3)) = true ∧ s.isAuthor s.cw = true) ∧
    (∃ (s : State), s.schedRuns = true ∧ s.utcOk = true ∧ s.reg.day.isSome = true ∧ (∃ x ∈ s.reg.daySteps, x.done = false ∧ x.at_ ≤ s.now)) :=
  ⟨⟨rdy, by decide +kernel⟩,
   ⟨{ rdy with reg := { rdy.reg with day := some 0, daySteps := [{ program := 1, step := 2, minute := 300, at_ := 4500000 + 32768, level := 50, ko := 1, sent := false, done := false }] } }, { program := 1, step := 2, minute := 300, at_ := 4500000 + 32768, level := 50, ko := 1, sent := false, done := false }, (({ rdy with reg := { rdy.reg with day := some 0, daySteps := [{ program := 1, step := 2, minute := 300, at_ := 4500000 + 32768, level := 50, ko := 1, sent := false, done := false }] } }).nextSlot?).get rfl, by decide +kernel⟩,
   ⟨{ (rdy.setAll [(SCHED.KO_EN .a, 1)]) with reg := { rdy.reg with day := some 0, daySteps := [{ program := 1, step := 2, minute := 300, at_ := 4500000, level := 50, ko := 1, sent := false, done := false }] } }, { program := 1, step := 2, minute := 300, at_ := 4500000, level := 50, ko := 1, sent := false, done := false }, by decide +kernel⟩,
   ⟨(inBank { rdy with now := atSec 43300 } [(tabPrograms.at 1, 1, 1), (tabPrograms.at 1 + 2, 2, 0xFFFF)]), 1, (((inBank { rdy with now := atSec 43300 } [(tabPrograms.at 1, 1, 1), (tabPrograms.at 1 + 2, 2, 0xFFFF)])).nextSlot?).get rfl, by decide +kernel⟩,
   ⟨{ rdy with reg := { rdy.reg with day := some 0, daySteps := [{ program := 1, step := 2, minute := 300, at_ := 4500000, level := 50, ko := 1, sent := false, done := false }] } }, by decide +kernel⟩⟩

/-- The hypotheses of the clauses of TracksAndWavesEnd are met. -/
theorem witness_tracksAndWavesEnd :
    (∃ (s : State), s.waveRuns = true ∧ s.wave.tracks.keys.Nodup) ∧
    (∃ (s : State) (n : Fin 64) (k : Track), s.waveRuns = true ∧ s.wave.tracks.get? n.val = some k ∧ s.trackEndAt k ≤ s.now) ∧
    (∃ (s : State) (m : Master) (w : Wick) (sel : Fin 32) (x : WaveSlot) (k : Track), s.MayWrite m (w.page 6) 0x058 ∧ s.isController w = true ∧ s.wave.waves.get? sel.val = some x ∧ s.wave.tracks.get? x.track = some k ∧ k.wave = some sel.val) ∧
    (∃ (s : State) (m : Master) (w : Wick) (sel : Fin 32), s.MayWrite m (w.page 6) 0x058 ∧ s.isController w = true ∧ s.wave.waves.get? sel.val = none) ∧
    (∃ (s : State) (m : Master) (w : Wick), s.MayWrite m (w.page 6) 0x058 ∧ s.isController w = true ∧ s.wave.waves ≠ [] ∧ s.wave.waves.keys.Nodup ∧ (∀ j x, s.wave.waves.get? j = some x → ∃ k, s.wave.tracks.get? x.track = some k ∧ k.wave = some j)) ∧
    (∃ (s : State) (m : Master) (w : Wick), s.MayWrite m (w.page 6) 0x008 ∧ s.isController w = true) ∧
    (∃ (s : State) (m : Master) (w : Wick), s.MayWrite m (w.page 6) 0x058 ∧ s.isController w = true ∧ s.wave.waves = []) :=
  ⟨⟨rdy, by decide +kernel⟩,
   ⟨{ rdy with wave := { rdy.wave with tracks := [(63, { state := 1, kind := 1, node := 0, prev := none, speed := 1, t := 100, tRef := 100, dets := 1, program := some 0, wave := some 2, first := none, latest := 0, src := none, counted := [], handed := [], deferred := [], nextPlan := 5 })], waves := [(2, { track := 63, kind := 1, program := 0, entries := 0 })] } }, (63 : Fin 64), (({ rdy with wave := { rdy.wave with tracks := [(63, { state := 1, kind := 1, node := 0, prev := none, speed := 1, t := 100, tRef := 100, dets := 1, program := some 0, wave := some 2, first := none, latest := 0, src := none, counted := [], handed := [], deferred := [], nextPlan := 5 })], waves := [(2, { track := 63, kind := 1, program := 0, entries := 0 })] } }).wave.tracks.get? ((63 : Fin 64)).val).get rfl, by decide +kernel⟩,
   ⟨{ rdy with wave := { rdy.wave with tracks := [(6, { state := 1, kind := 1, node := 0, prev := none, speed := 1, t := 100, tRef := 100, dets := 1, program := some 0, wave := some 2, first := none, latest := 0, src := none, counted := [], handed := [], deferred := [], nextPlan := 5 })], waves := [(2, { track := 6, kind := 1, program := 0, entries := 0 })] } }, Master.hostS, Wick.a, (2 : Fin 32), (({ rdy with wave := { rdy.wave with tracks := [(6, { state := 1, kind := 1, node := 0, prev := none, speed := 1, t := 100, tRef := 100, dets := 1, program := some 0, wave := some 2, first := none, latest := 0, src := none, counted := [], handed := [], deferred := [], nextPlan := 5 })], waves := [(2, { track := 6, kind := 1, program := 0, entries := 0 })] } }).wave.waves.get? ((2 : Fin 32)).val).get rfl, (({ rdy with wave := { rdy.wave with tracks := [(6, { state := 1, kind := 1, node := 0, prev := none, speed := 1, t := 100, tRef := 100, dets := 1, program := some 0, wave := some 2, first := none, latest := 0, src := none, counted := [], handed := [], deferred := [], nextPlan := 5 })], waves := [(2, { track := 6, kind := 1, program := 0, entries := 0 })] } }).wave.tracks.get? ((({ rdy with wave := { rdy.wave with tracks := [(6, { state := 1, kind := 1, node := 0, prev := none, speed := 1, t := 100, tRef := 100, dets := 1, program := some 0, wave := some 2, first := none, latest := 0, src := none, counted := [], handed := [], deferred := [], nextPlan := 5 })], waves := [(2, { track := 6, kind := 1, program := 0, entries := 0 })] } }).wave.waves.get? ((2 : Fin 32)).val).get rfl).track).get rfl, by simp only [State.MayWrite]; decide +kernel⟩,
   ⟨rdy, Master.hostS, Wick.a, (31 : Fin 32), by simp only [State.MayWrite]; decide +kernel⟩,
   ⟨{ rdy with wave := { rdy.wave with tracks := [(6, { state := 1, kind := 1, node := 0, prev := none, speed := 1, t := 100, tRef := 100, dets := 1, program := some 0, wave := some 2, first := none, latest := 0, src := none, counted := [], handed := [], deferred := [], nextPlan := 5 })], waves := [(2, { track := 6, kind := 1, program := 0, entries := 0 })] } }, Master.hostS, Wick.a, ⟨⟨by decide +kernel, by decide +kernel, by decide +kernel⟩, by decide +kernel, by decide +kernel, by decide +kernel, fun j x h => by
      by_cases hj : j = 2
      · subst hj
        have h' : some ({ track := 6, kind := 1, program := 0, entries := 0 } : WaveSlot) = some x := h
        cases h'
        exact ⟨_, rfl, rfl⟩
      · have h' : (if j = 2 then some ({ track := 6, kind := 1, program := 0, entries := 0 } : WaveSlot) else none) = some x := h
        rw [if_neg hj] at h'
        cases h'⟩⟩,
   ⟨rdy, Master.hostS, Wick.a, by simp only [State.MayWrite]; decide +kernel⟩,
   ⟨rdy, Master.hostS, Wick.a, by simp only [State.MayWrite]; decide +kernel⟩⟩

/-- The hypotheses of the clauses of InjectionsAndHandoffsStartTracks are met. -/
theorem witness_injectionsAndHandoffsStartTracks :
    (∃ (s : State) (m : Master) (w : Wick), let node := s.get (WAVE.INJ_NODE w); let at_ := s.get2 (WAVE.INJ_TIME_LO w) (WAVE.INJ_TIME_HI w); s.MayWrite m (w.page 6) 0x058 ∧ s.isAuthor w = true ∧ s.cw = w ∧ s.waveRuns = true ∧ node < s.active.nNodes ∧ s.wave.tracks = [] ∧ at_ ≤ s.now ∧ s.now - at_ ≤ msTicks (s.get (WAVE.DET_MAX_AGE_MS w)) ∧ s.active.nodeNoStart node = false ∧ s.get (WAVE.MIN_CONF w) ≤ s.get (WAVE.INJ_CONF w) ∧ s.chooseProgram (s.get (WAVE.INJ_KIND w)) node = none) ∧
    (∃ (s : State) (m : Master) (w : Wick), s.MayWrite m (w.page 6) 0x058 ∧ s.isAuthor w = true ∧ s.cw = w ∧ s.waveRuns = true ∧ s.get (WAVE.INJ_NODE w) < s.active.nNodes ∧ s.now < s.get2 (WAVE.INJ_TIME_LO w) (WAVE.INJ_TIME_HI w)) ∧
    (∃ (s : State) (seg : BitVec 16) (id : Byte) (flags : Byte) (node : BitVec 16) (kind : Byte) (n : Nat) (k : Track), s.handoffRefused node.toNat kind.toNat = false ∧ s.wave.tracks.find? (fun c => c.2.src = some (seg.toNat, id.toNat)) = some (n, k) ∧ s.wave.tracks.get? n = some k ∧ k.state = 2 ∧ bit flags.toNat 1 = true) ∧
    (∃ (s : State) (node : BitVec 16) (kind : Byte), s.handoffRefused node.toNat kind.toNat = true) ∧
    (∃ (s : State) (seg : BitVec 16) (id : Byte) (flags : Byte) (node : BitVec 16) (kind : Byte) (n : Nat), s.handoffRefused node.toNat kind.toNat = false ∧ bit flags.toNat 1 = false ∧ s.wave.tracks.find? (fun c => c.2.src = some (seg.toNat, id.toNat)) = none ∧ (List.range 64).find? (fun n => !s.wave.tracks.has n) = some n) ∧
    (∃ (s : State) (m : Master) (w : Wick), s.MayWrite m (w.page 6) 0x058 ∧ s.isController w = true ∧ s.isAuthor w = true ∧ s.waveRuns = true ∧ s.get (WAVE.INJ_NODE w) < s.active.nNodes) ∧
    (∃ (s : State) (m : Master) (w : Wick), s.MayWrite m (w.page 6) 0x058 ∧ s.isController w = true ∧ (s.isAuthor w = false ∨ s.waveRuns = false ∨ s.active.nNodes ≤ s.get (WAVE.INJ_NODE w))) ∧
    (∃ (s : State) (seg : BitVec 16) (id : Byte) (flags : Byte) (node : BitVec 16) (kind : Byte) (n : Nat) (k : Track), s.handoffRefused node.toNat kind.toNat = false ∧ s.wave.tracks.find? (fun c => c.2.src = some (seg.toNat, id.toNat)) = some (n, k) ∧ s.wave.tracks.get? n = some k ∧ k.state = 2 ∧ bit flags.toNat 1 = false ∧ bit flags.toNat 0 = true) :=
  ⟨⟨(nodes3 ((inBank rdy [(tabNodes.at 0, 2, 3), (tabNodes.at 0 + 2, 1, 0)]).setAll [(WAVE.N_NODES .a, 3), (WAVE.INJ_NODE .a, 2), (WAVE.INJ_KIND .a, 1), (WAVE.INJ_CONF .a, 127), (WAVE.INJ_TIME_LO .a, 4499990)])), Master.hostS, Wick.a, by simp only [State.MayWrite]; decide +kernel⟩,
   ⟨(nodes3 ((inBank rdy [(tabNodes.at 0, 2, 3), (tabNodes.at 0 + 2, 1, 0)]).setAll [(WAVE.N_NODES .a, 3), (WAVE.INJ_NODE .a, 2), (WAVE.INJ_KIND .a, 1), (WAVE.INJ_CONF .a, 127), (WAVE.INJ_TIME_LO .a, 4500001)])), Master.hostS, Wick.a, by simp only [State.MayWrite]; decide +kernel⟩,
   ⟨{ prog2 (nodes3 rdy) with wave := { rdy.wave with tracks := [(4, { state := 2, kind := 1, node := 1, prev := none, speed := 5, t := 4400000, tRef := 4400000, dets := 0, program := none, wave := none, first := none, latest := 0, src := some (5, 1), counted := [], handed := [], deferred := [], nextPlan := 5000000 })] } }, (5 : BitVec 16), (1 : Byte), (2 : Byte), (1 : BitVec 16), (1 : Byte), 4, { state := 2, kind := 1, node := 1, prev := none, speed := 5, t := 4400000, tRef := 4400000, dets := 0, program := none, wave := none, first := none, latest := 0, src := some (5, 1), counted := [], handed := [], deferred := [], nextPlan := 5000000 }, by decide +kernel⟩,
   ⟨rdy, (7 : BitVec 16), (7 : Byte), by decide +kernel⟩,
   ⟨(prog2 (nodes3 rdy)), (0 : BitVec 16), (1 : Byte), (1 : Byte), (1 : BitVec 16), (1 : Byte), 0, by decide +kernel⟩,
   ⟨nodes3 rdy, Master.hostS, Wick.a, by simp only [State.MayWrite]; decide +kernel⟩,
   ⟨rdy, Master.hostS, Wick.a, by simp only [State.MayWrite]; decide +kernel⟩,
   ⟨{ prog2 (nodes3 rdy) with wave := { rdy.wave with tracks := [(4, { state := 2, kind := 1, node := 1, prev := none, speed := 5, t := 4400000, tRef := 4400000, dets := 0, program := none, wave := none, first := none, latest := 0, src := some (5, 1), counted := [], handed := [], deferred := [], nextPlan := 5000000 })] } }, (5 : BitVec 16), (1 : Byte), (1 : Byte), (1 : BitVec 16), (1 : Byte), 4, { state := 2, kind := 1, node := 1, prev := none, speed := 5, t := 4400000, tRef := 4400000, dets := 0, program := none, wave := none, first := none, latest := 0, src := some (5, 1), counted := [], handed := [], deferred := [], nextPlan := 5000000 }, by decide +kernel⟩⟩

/-- The hypotheses of the clauses of ProfilesAndPreBrightening are met. -/
theorem witness_profilesAndPreBrightening :
    (∃ (s : State) (p : Fin 64) (k : Nat), s.waveRuns = true ∧ s.isAuthor s.cw = true ∧ s.on (HDR.ENABLE (s.cw.page 3)) = true ∧ s.active.wflag p.val 0 = true ∧ s.active.wflag p.val 4 = true ∧ s.windowOpen p.val = true ∧ (∀ x, s.wave.holds.get? p.val = some x → x + 32768 * 300 ≤ s.base) ∧ s.nextSlot? = some k) ∧
    (∃ (s : State) (w : Wick) (h : Int), s.author = some w ∧ s.wave.openHour.getD (s.localMin / 60 - 1) = h ∧ h ≠ s.localMin / 60) ∧
    (∃ (s : State) (w : Wick), s.author = some w ∧ s.pdOn 1 = true) ∧
    (∃ (s : State), let q := (s.localSec + (s.get (WAVE.PRE_LEAD_S s.cw) : Int)) / 900; s.mayPreBrighten = true ∧ s.localSec < 900 * q ∧ s.wave.preDone ≠ some q) ∧
    (∃ (s : State) (a : Nat) (p : Nat) (level : Nat) (k : Nat) (e : LastEntry), s.mayPreBrighten = true ∧ s.wave.preDone = some (s.localSec / 900) ∧ s.wave.preMinute ≠ s.localMin ∧ s.wave.preSet = [(a, p, level)] ∧ s.lastEntry a = some e ∧ e.wave < 0x80 ∧ e.until_ ≤ s.now ∧ s.isAuthor s.cw = true ∧ s.on (HDR.ENABLE (s.cw.page 3)) = true ∧ s.nextSlot? = some k) :=
  ⟨⟨(inBank rdy [(tabWavePrograms.at 63, 1, 0x11)]), (63 : Fin 64), (((inBank rdy [(tabWavePrograms.at 63, 1, 0x11)])).nextSlot?).get rfl, by decide +kernel⟩,
   ⟨{ rdy with wave := { rdy.wave with openHour := some (rdy.localMin / 60 - 3) } }, Wick.a, rdy.localMin / 60 - 3, by decide +kernel⟩,
   ⟨rdy, Wick.a, by decide +kernel⟩,
   ⟨{ (rdy.setAll [(WAVE.PROFILE_EN .a, 1), (WAVE.PRE_LEAD_S .a, 60)]) with now := atSec 860, wave := { rdy.wave with ready := true } }, by decide +kernel⟩,
   ⟨{ (rdy.setAll [(WAVE.PROFILE_EN .a, 1), (WAVE.PRE_LEAD_S .a, 60)]) with now := 4500000, wave := { rdy.wave with ready := true, preDone := some (rdy.localSec / 900), preMinute := 0, preSet := [(3, 0, 50)], last := [(3, { wave := 1, program := 0, level := 5, tt := 5, until_ := 5 })] } }, 3, 0, 50, 0, { wave := 1, program := 0, level := 5, tt := 5, until_ := 5 }, by decide +kernel⟩⟩

/-- The hypotheses of the clauses of MeteringDomainsStartAndStop are met. -/
theorem witness_meteringDomainsStartAndStop :
    (∃ (s : State) (m : Master) (w : Wick), s.acts m = true ∧ s.meterCtrlCodes m w = [] ∧ s.on (HDR.RUNNING (w.page 7)) = false ∧ s.saving = false ∧ s.on PWR.XTAL_OK = true) ∧
    (∃ (s : State) (m : Master) (w : Wick), s.acts m = true ∧ s.meterCtrlCodes m w = [] ∧ (s.on (HDR.RUNNING (w.page 7)) = true ∨ s.saving = true ∨ s.on PWR.XTAL_OK = false)) ∧
    (∃ (s : State) (m : Master) (w : Wick), s.acts m = true ∧ s.meterCtrlCodes m w = [] ∧ s.measures w = true) ∧
    (∃ (s : State) (m : Master) (w : Wick), s.acts m = true ∧ s.meterCtrlCodes m w = [] ∧ s.on (HDR.RUNNING (w.page 7)) = true ∧ s.measures w = false) ∧
    (∃ (s : State) (m : Master) (w : Wick), s.acts m = true ∧ s.meterCtrlCodes m w = [] ∧ s.on (HDR.RUNNING (w.page 7)) = false) ∧
    (∃ (s : State) (w : Wick) (x : Saved), s.on (HDR.RUNNING (w.page 7)) = true ∧ (s.dom w).frozen = true ∧ s.saving = false ∧ (s.dom w).stopping = some x) ∧
    (∃ (s : State) (w : Wick), s.pdOn (meterPd w) = true ∧ s.on (HDR.RUNNING (w.page 7)) = false ∧ s.on (HDR.ENABLE (w.page 7)) = true ∧ s.saving = false) ∧
    (∃ (s : State) (w : Wick), s.on (METER.FLL_LOCK w) = true) ∧
    (∃ (s : State) (w : Wick), s.on (HDR.RUNNING (w.page 7)) = true) ∧
    (∃ (s : State) (w : Wick), s.measures w = true ∧ s.saving = false ∧ s.due (tmCkpt w) = true) :=
  ⟨⟨(rdy.setAll [(HDR.RUNNING (Wick.page .b 7), 0), (HDR.ENABLE (Wick.page .b 7), 0)]), Master.hostS, Wick.b, by decide +kernel⟩,
   ⟨(rdy.setAll [(HDR.RUNNING (Wick.page .b 7), 1), (HDR.ENABLE (Wick.page .b 7), 1)]), Master.hostS, Wick.b, by decide +kernel⟩,
   ⟨(rdy.setAll [(HDR.RUNNING (Wick.page .b 7), 1), (HDR.ENABLE (Wick.page .b 7), 1)]), Master.hostS, Wick.b, by decide +kernel⟩,
   ⟨{ rdy with meter := { rdy.meter with domA := { Dom.empty with frozen := true } } }, Master.hostS, Wick.a, by decide +kernel⟩,
   ⟨(rdy.setAll [(HDR.RUNNING (Wick.page .b 7), 0), (HDR.ENABLE (Wick.page .b 7), 0)]), Master.hostS, Wick.b, by decide +kernel⟩,
   ⟨{ rdy with meter := { rdy.meter with domA := { Dom.empty with frozen := true, stopping := some { seq := 3, acc := [(0, 9)], opening := [], index := none, len := 15, covered := 0, flags := 0, e := [1], bounds := none } } } }, Wick.a, ((({ rdy with meter := { rdy.meter with domA := { Dom.empty with frozen := true, stopping := some { seq := 3, acc := [(0, 9)], opening := [], index := none, len := 15, covered := 0, flags := 0, e := [1], bounds := none } } } }).dom (Wick.a)).stopping).get rfl, by decide +kernel⟩,
   ⟨(rdy.setAll [(HDR.RUNNING (Wick.page .a 7), 0)]), Wick.a, by decide +kernel⟩,
   ⟨(rdy.setAll [(METER.FLL_LOCK .a, 1)]), Wick.a, by decide +kernel⟩,
   ⟨(rdy.setAll [(METER.FLL_LOCK .a, 1)]), Wick.a, by decide +kernel⟩,
   ⟨{ rdy with timers := [(tmCkpt .a, 5)] }, Wick.a, by decide +kernel⟩⟩

/-- The hypotheses of the clauses of MeteringSettingsObeyTheSeal are met. -/
theorem witness_meteringSettingsObeyTheSeal :
    (∃ (s : State) (m : Master) (w : Wick) (harm : Bool) (off : BitVec 12), let pos := if harm = true then 8 else 7; let o := off.toNat / 4 * 4; s.MayWrite m (w.page pos) o) ∧
    (∃ (s : State) (m : Master) (w : Wick) (off : BitVec 12) (f : Field), s.MayWrite m (w.page 7) (off.toNat / 4 * 4) ∧ trimField w (off.toNat / 4 * 4) = some f ∧ s.on (METER.SEAL w) = false) ∧
    (∃ (s : State) (m : Master) (w : Wick) (off : BitVec 12) (v : Word) (f : Field), let x := if f.width = 23 then clampTo 0x300000 0x500000 (v.toNat % 2 ^ 23) else f.stored v.toNat; s.MayWrite m (w.page 7) (off.toNat / 4 * 4) ∧ trimField w (off.toNat / 4 * 4) = some f ∧ s.on (METER.SEAL w) = true ∧ x ≠ s.get f) ∧
    (∃ (s : State) (m : Master) (w : Wick), s.acts m = true ∧ s.meterCtrlCodes m w = [] ∧ s.on (METER.SEAL w) = false) ∧
    (∃ (s : State) (m : Master) (w : Wick), s.acts m = true ∧ s.meterCtrlCodes m w = [] ∧ s.on (METER.SEAL w) = true) ∧
    (∃ (s : State) (m : Master) (w : Wick), s.MayWrite m (w.page 7) 0x048 ∧ s.on (METER.SEAL w) = true) ∧
    (∃ (s : State) (m : Master) (w : Wick), s.MayWrite m (w.page 7) 0x048 ∧ s.on (METER.SEAL w) = false ∧ (∃ x : Wick, s.on (HDR.RUNNING (x.page 7)) = false)) ∧
    (∃ (s : State) (m : Master) (w : Wick), s.MayWrite m (w.page 7) 0x048 ∧ s.on (METER.SEAL w) = false ∧ (∀ x : Wick, s.on (HDR.RUNNING (x.page 7)) = true)) :=
  ⟨⟨rdy, Master.hostS, Wick.a, true, (7 : BitVec 12), by simp only [State.MayWrite]; decide +kernel⟩,
   ⟨rdy, Master.hostS, Wick.a, ((BitVec.ofNat 12 (METER.V_GAIN .a 1).off) : BitVec 12), (trimField (Wick.a) ((((BitVec.ofNat 12 (METER.V_GAIN .a 1).off) : BitVec 12)).toNat / 4 * 4)).get rfl, by simp only [State.MayWrite]; decide +kernel⟩,
   ⟨(rdy.setAll [(METER.SEAL .a, 1)]), Master.hostS, Wick.a, ((BitVec.ofNat 12 (METER.V_GAIN .a 1).off) : BitVec 12), (0x500001 : Word), (trimField (Wick.a) ((((BitVec.ofNat 12 (METER.V_GAIN .a 1).off) : BitVec 12)).toNat / 4 * 4)).get rfl, by simp only [State.MayWrite]; decide +kernel⟩,
   ⟨rdy, Master.hostS, Wick.a, by decide +kernel⟩,
   ⟨(rdy.setAll [(METER.SEAL .a, 1)]), Master.hostS, Wick.a, by decide +kernel⟩,
   ⟨(rdy.setAll [(METER.SEAL .a, 1)]), Master.hostS, Wick.a, by simp only [State.MayWrite]; decide +kernel⟩,
   ⟨(rdy.setAll [(HDR.RUNNING (Wick.page .b 7), 0)]), Master.hostS, Wick.a, ⟨by simp only [State.MayWrite]; decide +kernel, by decide +kernel, .b, by decide +kernel⟩⟩,
   ⟨rdy, Master.hostS, Wick.a, ⟨by simp only [State.MayWrite]; decide +kernel, by decide +kernel, fun x => by cases x <;> decide +kernel⟩⟩⟩

/-- The hypotheses of the clauses of MetersBookAndCompare are met. -/
theorem witness_metersBookAndCompare :
    (∃ (s : State) (w : Wick), s.measures w = true ∧ s.rollMeter = s) ∧
    (∃ (s : State) (w : Wick), s.measures w = true ∧ (s.dom w).second < s.now / 32768) ∧
    (∃ (s : State), (∃ w, s.intervalOver w = true)) ∧
    (∃ (s : State) (w : Wick), s.measures w = true) ∧
    (∃ (s : State) (w : Wick) (ch : Fin 8) (b : Nat), (s.dom w).clip.get? ch.val = some b ∧ b + 6554 ≤ s.base) ∧
    (∃ (s : State) (w : Wick) (c : Fin 4) (b : Nat), (s.dom w).settling.get? c.val = some b ∧ b ≤ s.base) ∧
    (∃ (s : State) (x : Series × Series) (l : List (Series × Series)), s.countedSeconds = x :: l ∧ s.controllerRuns = true ∧ s.arb.cmpSecond ≠ some x.1.second) ∧
    (∃ (s : State) (w : Wick) (x : Fin 4) (l : List (List Sample)), let r := s.rollMeter; s.measures w = true ∧ r.measures w = true ∧ r.dividesAt w x.val (r.instants w x.val (r.dom w).filt l).1 = false) ∧
    (∃ (s : State) (w : Wick) (x : Fin 4) (l : List (List Sample)), let r := s.rollMeter; s.measures w = true ∧ r.measures w = true ∧ r.dividesAt w x.val (r.instants w x.val (r.dom w).filt l).1 = true) :=
  ⟨⟨still, Wick.a, by decide +kernel⟩,
   ⟨rdy, Wick.a, by decide +kernel⟩,
   ⟨rdy, ⟨.a, by decide +kernel⟩⟩,
   ⟨rdy, Wick.a, by decide +kernel⟩,
   ⟨{ rdy with meter := { rdy.meter with domA := { Dom.empty with clip := [(7, 3993446)] } } }, Wick.a, (7 : Fin 8), ((({ rdy with meter := { rdy.meter with domA := { Dom.empty with clip := [(7, 3993446)] } } }).dom (Wick.a)).clip.get? ((7 : Fin 8)).val).get rfl, by decide +kernel⟩,
   ⟨{ rdy with meter := { rdy.meter with domA := { Dom.empty with settling := [(3, 4000000)] } } }, Wick.a, (3 : Fin 4), ((({ rdy with meter := { rdy.meter with domA := { Dom.empty with settling := [(3, 4000000)] } } }).dom (Wick.a)).settling.get? ((3 : Fin 4)).val).get rfl, by decide +kernel⟩,
   ⟨{ rdy with meter := { rdy.meter with domA := { Dom.empty with series := [{ second := 130, p := [1, 2, 3, 4], q := [0, 0, 0, 0], e := [0, 0, 0], v := [230000, 230000, 230000], i := [1, 1, 1], flags := 0, ph := [0, 0, 0], arrived := some .a }] }, domB := { Dom.empty with series := [{ second := 130, p := [1, 2, 3, 4], q := [0, 0, 0, 0], e := [0, 0, 0], v := [230000, 230000, 230000], i := [1, 1, 1], flags := 0, ph := [0, 0, 0], arrived := some .a }] } } }, ({ second := 130, p := [1, 2, 3, 4], q := [0, 0, 0, 0], e := [0, 0, 0], v := [230000, 230000, 230000], i := [1, 1, 1], flags := 0, ph := [0, 0, 0], arrived := some .a }, { second := 130, p := [1, 2, 3, 4], q := [0, 0, 0, 0], e := [0, 0, 0], v := [230000, 230000, 230000], i := [1, 1, 1], flags := 0, ph := [0, 0, 0], arrived := some .a }), [], by decide +kernel⟩,
   ⟨still, Wick.a, 0, [], by decide +kernel⟩,
   ⟨stillV, Wick.a, 0, [], by decide +kernel⟩⟩

/-- The hypotheses of the clauses of HarmonicsEventsAndRecords are met. -/
theorem witness_harmonicsEventsAndRecords :
    (∃ (s : State) (w : Wick), let r := s.rollMeter; s.measures w = true ∧ (∀ p, (r.dom w).refPhase = some p → p = r.reference w)) ∧
    (∃ (s : State) (w : Wick) (ms : Nat) (l : List Nat), s.measures w = true ∧ 5000 ≤ ms ∧ l ≠ [] ∧ (∀ h ∈ l, h < s.pctMv 10)) ∧
    (∃ (s : State) (w : Wick) (n : Nat), s.measures w = true ∧ (s.dom w).period = some n ∧ n < (s.now - millis 236) / 19660800) ∧
    (∃ (s : State) (w : Wick) (x : Fin 3), s.measures w = true ∧ x.val ∈ s.phases) ∧
    (∃ (s : State) (w : Wick) (x : Fin 3) (mv : Word) (e : Nat × Nat), s.measures w = true ∧ x.val ∈ s.phases ∧ (s.dom w).vEvents.get? x.val = some e ∧ (∀ i, (s.dom w).vEvents.get? 8 = some i → e.1 < i.1) ∧ s.pctMv (s.get (HARM.DIP_PCT w) + s.get (HARM.HYST_PCT w)) < mv.toNat) ∧
    (∃ (s : State) (w : Wick) (ms : Nat) (l : List (Nat × Nat × Nat × Nat)), s.measures w = true ∧ s.onePhase = false ∧ s.on (METER.MISSING_NEUTRAL w) = false ∧ 500 ≤ ms ∧ l ≠ [] ∧ (∀ h ∈ l, s.pctMv 20 < h.1 ∧ unbalanced h.2 = true)) ∧
    (∃ (s : State) (w : Wick), s.measures w = true) ∧
    (∃ (s : State) (m : Master) (w : Wick) (c : _), s.MayWrite m (w.page 7) 0x048 ∧ s.meter.capture = some c) ∧
    (∃ (s : State) (m : Master) (w : Wick) (x : _), s.MayWrite m (w.page 7) 0x048 ∧ s.meter.capture = none ∧ s.wfWick = some x ∧ s.measures x = true) ∧
    (∃ (s : State) (c : Capture), s.meter.capture = some c) ∧
    (∃ (s : State) (m : Master) (w : Wick) (n : Word) (r : _), s.MayWrite m (w.page 7) 0x314 ∧ (s.dom w).ring.find? (fun c => c.1 = n.toNat) = some r ∧ r.2.length = 128) ∧
    (∃ (s : State) (m : Master) (w : Wick) (n : Word), s.MayWrite m (w.page 7) 0x314 ∧ (s.dom w).ring.find? (fun c => c.1 = n.toNat) = none) ∧
    (∃ (s : State) (m : Master) (w : Wick), s.MayRead m (w.page 8)) ∧
    (∃ (s : State) (w : Wick) (locked : Bool), let r := s.rollMeter; s.measures w = true ∧ (locked = false ∨ (∃ p, (r.dom w).refPhase = some p ∧ p ≠ r.reference w))) :=
  ⟨⟨{ stillV with meter := { stillV.meter with domA := { stillV.meter.domA with refPhase := some 0 } } }, Wick.a, by decide +kernel, fun p h => Option.some.inj (h.symm.trans (by decide +kernel))⟩,
   ⟨rdy, Wick.a, 5000, [0], by decide +kernel⟩,
   ⟨{ rdy with now := 19660800 + millis 236, meter := { rdy.meter with domA := { Dom.empty with period := some 0 } } }, Wick.a, 0, by decide +kernel⟩,
   ⟨rdy, Wick.a, (2 : Fin 3), by decide +kernel⟩,
   ⟨{ rdy with meter := { rdy.meter with domA := { Dom.empty with vEvents := [(2, (1, 100))] } } }, Wick.a, (2 : Fin 3), (300000 : Word), (1, 100), by decide +kernel, by decide +kernel, by decide +kernel, of_none (by decide +kernel), by decide +kernel⟩,
   ⟨rdy, Wick.a, 500, [(100000, 100, 0, 0)], by decide +kernel⟩,
   ⟨rdy, Wick.a, by decide +kernel⟩,
   ⟨{ rdy with meter := { rdy.meter with capture := some { wick := .a, time := 5, mask := 1, samples := 10, flags := 0 } } }, Master.hostS, Wick.a, (({ rdy with meter := { rdy.meter with capture := some { wick := .a, time := 5, mask := 1, samples := 10, flags := 0 } } }).meter.capture).get rfl, by simp only [State.MayWrite]; decide +kernel⟩,
   ⟨rdy, Master.hostS, Wick.a, ((rdy).wfWick).get rfl, by simp only [State.MayWrite]; decide +kernel⟩,
   ⟨{ rdy with meter := { rdy.meter with capture := some { wick := .a, time := 5, mask := 1, samples := 2, flags := 0 } } }, (({ rdy with meter := { rdy.meter with capture := some { wick := .a, time := 5, mask := 1, samples := 2, flags := 0 } } }).meter.capture).get rfl, by decide +kernel⟩,
   ⟨{ rdy with meter := { rdy.meter with domA := { Dom.empty with ring := [(7, List.replicate 128 3)] } } }, Master.hostS, Wick.a, (7 : Word), (7, List.replicate 128 3), by simp only [State.MayWrite]; decide +kernel⟩,
   ⟨rdy, Master.hostS, Wick.a, (7 : Word), by simp only [State.MayWrite]; decide +kernel⟩,
   ⟨rdy, Master.hostS, Wick.a, by simp only [State.MayRead]; decide +kernel⟩,
   ⟨still, Wick.a, false, by decide +kernel, Or.inl rfl⟩⟩

/-- The hypotheses of the clauses of AttributionSessionsRunToTheirEnd are met. -/
theorem witness_attributionSessionsRunToTheirEnd :
    (∃ (s : State) (m : Master) (w : Wick) (p : Fin 16), s.MayWrite m (w.page 9) 0x040 ∧ s.isController w = true ∧ s.attrCode w p.val ≠ 0) ∧
    (∃ (s : State) (m : Master) (w : Wick) (p : Fin 16), let t0 := s.get2 (ATTR.START_TIME_LO w) (ATTR.START_TIME_HI w); let start := if t0 = 0 then nextMultiple (s.now + s.attrLead) 32768 else t0; s.MayWrite m (w.page 9) 0x040 ∧ s.isController w = true ∧ s.attrCode w p.val = 0 ∧ (start % 32768 ≠ 0 ∨ start < s.now + s.attrLead)) ∧
    (∃ (s : State) (m : Master) (w : Wick) (p : Fin 16), let t0 := s.get2 (ATTR.START_TIME_LO w) (ATTR.START_TIME_HI w); let start := if t0 = 0 then nextMultiple (s.now + s.attrLead) 32768 else t0; s.MayWrite m (w.page 9) 0x040 ∧ s.isController w = true ∧ s.attrCode w p.val = 0 ∧ start % 32768 = 0 ∧ s.now + s.attrLead ≤ start) ∧
    (∃ (s : State) (p : Nat) (start : Nat) (d : Int), s.authorRuns = true ∧ s.on (ATTR.PLANS_EN s.cw) = true ∧ s.utcOk = true ∧ s.duePlans = [(p, d, start)] ∧ s.attrCode s.cw p = 0) ∧
    (∃ (s : State) (p : Nat) (start : Nat) (d : Int), s.authorRuns = true ∧ s.on (ATTR.PLANS_EN s.cw) = true ∧ s.utcOk = true ∧ s.duePlans = [(p, d, start)] ∧ s.attrCode s.cw p ≠ 0) ∧
    (∃ (s : State) (x : Session) (k : Nat), s.session = some x ∧ x.fixed = false ∧ s.authorRuns = true ∧ x.start ≤ s.now + s.attrLead ∧ s.participants x.target ≠ [] ∧ s.withinLimits (s.participants x.target) = true ∧ s.isAuthor s.cw = true ∧ s.on (HDR.ENABLE (s.cw.page 3)) = true ∧ s.nextSlot? = some k) ∧
    (∃ (s : State) (x : Session), s.session = some x ∧ x.fixed = false ∧ s.authorRuns = true ∧ x.start ≤ s.now + s.attrLead ∧ (s.participants x.target = [] ∨ s.withinLimits (s.participants x.target) = false)) ∧
    (∃ (s : State) (x : Session) (w : Wick), s.session = some x ∧ s.author = some w ∧ x.outcome = 1 ∧ x.fixed = true ∧ x.notSent = false ∧ x.chips.length < 1023 ∧ s.chipReady w x = true ∧ s.now < x.start + (x.chips.length + 2) * x.chipTicks) ∧
    (∃ (s : State) (x : Session), s.session = some x ∧ x.notSent = true ∧ x.start ≤ s.now) ∧
    (∃ (s : State) (x : Session), s.session = some x ∧ x.outcome = 1 ∧ x.notSent = false ∧ x.chips.length = 1023 ∧ x.stop ≤ s.now) ∧
    (∃ (s : State) (x : Session) (w : Wick), s.session = some x ∧ s.author = some w ∧ x.outcome = 2) ∧
    (∃ (s : State) (m : Master) (w : Wick), s.MayWrite m (w.page 9) 0x040 ∧ s.isController w = true ∧ s.session = none) ∧
    (∃ (s : State) (m : Master) (w : Wick) (same : Bool) (x : _), s.MayWrite m (w.page 9) 0x040 ∧ s.isController w = true ∧ s.session = some x ∧ (same = true ∨ x.outcome = 2 ∨ x.stop ≤ s.now)) ∧
    (∃ (s : State) (m : Master) (w : Wick) (same : Bool) (x : _), s.MayWrite m (w.page 9) 0x040 ∧ s.isController w = true ∧ s.session = some x ∧ same = false ∧ x.outcome = 1 ∧ s.now < x.stop) ∧
    (∃ (s : State) (m : Master) (w : Wick), s.MayWrite m (w.page 9) 0x040 ∧ s.isController w = true) ∧
    (∃ (s : State) (m : Master) (w : Wick), s.MayWrite m (w.page 9) 0x008 ∧ s.isController w = true) ∧
    (∃ (s : State) (x : Session), s.session = some x ∧ x.fixed = false ∧ s.authorRuns = true ∧ x.start ≤ s.now + s.attrLead ∧ s.participants x.target ≠ [] ∧ s.withinLimits (s.participants x.target) = true ∧ s.takesInternal (x.frame false) = false) ∧
    (∃ (s : State) (x : Session), s.session = some x ∧ x.fixed = false ∧ s.authorRuns = true ∧ x.start ≤ s.now + s.attrLead ∧ s.participants x.target ≠ [] ∧ s.withinLimits (s.participants x.target) = true ∧ s.takesInternal (x.frame false) = true) :=
  ⟨⟨rdy, Master.hostS, Wick.a, (15 : Fin 16), by simp only [State.MayWrite]; decide +kernel⟩,
   ⟨((inBank (inEntry rdy 3 [(0x18, 1, 2), (0x1B, 1, 1), (0x20, 2, 4)]) [(tabPlans.at 15, 1, 1), (tabPlans.at 15 + 1, 1, 127), (tabPlans.at 15 + 2, 2, 0xFFFF), (tabPlans.at 15 + 4, 2, 600), (tabPlans.at 15 + 6, 2, 1000), (tabPlans.at 15 + 8, 1, 10)]).setAll [(ATTR.START_TIME_LO .a, 5000001)]), Master.hostS, Wick.a, (15 : Fin 16), by simp only [State.MayWrite]; decide +kernel⟩,
   ⟨(inBank (inEntry rdy 3 [(0x18, 1, 2), (0x1B, 1, 1), (0x20, 2, 4)]) [(tabPlans.at 15, 1, 1), (tabPlans.at 15 + 1, 1, 127), (tabPlans.at 15 + 2, 2, 0xFFFF), (tabPlans.at 15 + 4, 2, 600), (tabPlans.at 15 + 6, 2, 1000), (tabPlans.at 15 + 8, 1, 10)]), Master.hostS, Wick.a, (15 : Fin 16), by simp only [State.MayWrite]; decide +kernel⟩,
   ⟨((inBank (inEntry { rdy with now := atSec 35990 } 3 [(0x18, 1, 2), (0x1B, 1, 1), (0x20, 2, 4)]) [(tabPlans.at 15, 1, 1), (tabPlans.at 15 + 1, 1, 127), (tabPlans.at 15 + 2, 2, 0xFFFF), (tabPlans.at 15 + 4, 2, 600), (tabPlans.at 15 + 6, 2, 1000), (tabPlans.at 15 + 8, 1, 10)]).setAll [(ATTR.PLANS_EN .a, 1)]), 15, atSec 36000, 0, by decide +kernel⟩,
   ⟨((inBank (inEntry { rdy with now := atSec 35990 } 3 [(0x18, 1, 2)]) [(tabPlans.at 15, 1, 1), (tabPlans.at 15 + 1, 1, 127), (tabPlans.at 15 + 2, 2, 0xFFFF), (tabPlans.at 15 + 4, 2, 600), (tabPlans.at 15 + 6, 2, 1000), (tabPlans.at 15 + 8, 1, 10)]).setAll [(ATTR.PLANS_EN .a, 1)]), 15, atSec 36000, 0, by decide +kernel⟩,
   ⟨{ (inBank (inEntry rdy 3 [(0x18, 1, 2), (0x1B, 1, 1), (0x20, 2, 4)]) [(tabPlans.at 15, 1, 1), (tabPlans.at 15 + 1, 1, 127), (tabPlans.at 15 + 2, 2, 0xFFFF), (tabPlans.at 15 + 4, 2, 600), (tabPlans.at 15 + 6, 2, 1000), (tabPlans.at 15 + 8, 1, 10)]) with attr := { rdy.attr with cur := some { number := 3, seed := 0x5D2E8A41, start := 4400000, chipMs := 1000, ampl := 10, plan := 15, target := 0xFFFF, fixed := false, notSent := false, parts := [], chips := [], wicks := 0, outcome := 1 } } }, (({ (inBank (inEntry rdy 3 [(0x18, 1, 2), (0x1B, 1, 1), (0x20, 2, 4)]) [(tabPlans.at 15, 1, 1), (tabPlans.at 15 + 1, 1, 127), (tabPlans.at 15 + 2, 2, 0xFFFF), (tabPlans.at 15 + 4, 2, 600), (tabPlans.at 15 + 6, 2, 1000), (tabPlans.at 15 + 8, 1, 10)]) with attr := { rdy.attr with cur := some { number := 3, seed := 0x5D2E8A41, start := 4400000, chipMs := 1000, ampl := 10, plan := 15, target := 0xFFFF, fixed := false, notSent := false, parts := [], chips := [], wicks := 0, outcome := 1 } } }).session).get rfl, (({ (inBank (inEntry rdy 3 [(0x18, 1, 2), (0x1B, 1, 1), (0x20, 2, 4)]) [(tabPlans.at 15, 1, 1), (tabPlans.at 15 + 1, 1, 127), (tabPlans.at 15 + 2, 2, 0xFFFF), (tabPlans.at 15 + 4, 2, 600), (tabPlans.at 15 + 6, 2, 1000), (tabPlans.at 15 + 8, 1, 10)]) with attr := { rdy.attr with cur := some { number := 3, seed := 0x5D2E8A41, start := 4400000, chipMs := 1000, ampl := 10, plan := 15, target := 0xFFFF, fixed := false, notSent := false, parts := [], chips := [], wicks := 0, outcome := 1 } } }).nextSlot?).get rfl, by decide +kernel⟩,
   ⟨{ (inEntry (inEntry rdy 3 [(0x18, 1, 2), (0x20, 2, 4)]) 1026 [(0x18, 1, 2), (0x20, 2, 4)]) with attr := { rdy.attr with cur := some { number := 3, seed := 0x5D2E8A41, start := 4400000, chipMs := 1000, ampl := 10, plan := 15, target := 0xFFFF, fixed := false, notSent := false, parts := [], chips := [], wicks := 0, outcome := 1 } } }, (({ (inEntry (inEntry rdy 3 [(0x18, 1, 2), (0x20, 2, 4)]) 1026 [(0x18, 1, 2), (0x20, 2, 4)]) with attr := { rdy.attr with cur := some { number := 3, seed := 0x5D2E8A41, start := 4400000, chipMs := 1000, ampl := 10, plan := 15, target := 0xFFFF, fixed := false, notSent := false, parts := [], chips := [], wicks := 0, outcome := 1 } } }).session).get rfl, by decide +kernel⟩,
   ⟨{ rdy with attr := { rdy.attr with cur := some { number := 3, seed := 0x5D2E8A41, start := 4500000 - 32768 - 700, chipMs := 1000, ampl := 10, plan := 15, target := 0xFFFF, fixed := true, notSent := false, parts := [3], chips := [], wicks := 0, outcome := 1 } } }, (({ rdy with attr := { rdy.attr with cur := some { number := 3, seed := 0x5D2E8A41, start := 4500000 - 32768 - 700, chipMs := 1000, ampl := 10, plan := 15, target := 0xFFFF, fixed := true, notSent := false, parts := [3], chips := [], wicks := 0, outcome := 1 } } }).session).get rfl, Wick.a, by decide +kernel⟩,
   ⟨{ rdy with attr := { rdy.attr with cur := some { number := 3, seed := 0x5D2E8A41, start := 4400000, chipMs := 1000, ampl := 10, plan := 15, target := 0xFFFF, fixed := false, notSent := true, parts := [], chips := [], wicks := 0, outcome := 1 } } }, (({ rdy with attr := { rdy.attr with cur := some { number := 3, seed := 0x5D2E8A41, start := 4400000, chipMs := 1000, ampl := 10, plan := 15, target := 0xFFFF, fixed := false, notSent := true, parts := [], chips := [], wicks := 0, outcome := 1 } } }).session).get rfl, by decide +kernel⟩,
   ⟨{ { rdy with attr := { rdy.attr with cur := some { number := 3, seed := 0x5D2E8A41, start := 4400000, chipMs := 1000, ampl := 10, plan := 15, target := 0xFFFF, fixed := true, notSent := false, parts := [], chips := (List.replicate 1023 { vals := [], drives := [] }), wicks := 0, outcome := 1 } } } with now := 2 ^ 40 }, (({ { rdy with attr := { rdy.attr with cur := some { number := 3, seed := 0x5D2E8A41, start := 4400000, chipMs := 1000, ampl := 10, plan := 15, target := 0xFFFF, fixed := true, notSent := false, parts := [], chips := (List.replicate 1023 { vals := [], drives := [] }), wicks := 0, outcome := 1 } } } with now := 2 ^ 40 }).session).get rfl, by decide +kernel⟩,
   ⟨{ rdy with attr := { rdy.attr with cur := some { number := 3, seed := 0x5D2E8A41, start := 4400000, chipMs := 1000, ampl := 10, plan := 15, target := 0xFFFF, fixed := true, notSent := false, parts := [], chips := (List.replicate 1023 { vals := [], drives := [] }), wicks := 0, outcome := 2 } } }, (({ rdy with attr := { rdy.attr with cur := some { number := 3, seed := 0x5D2E8A41, start := 4400000, chipMs := 1000, ampl := 10, plan := 15, target := 0xFFFF, fixed := true, notSent := false, parts := [], chips := (List.replicate 1023 { vals := [], drives := [] }), wicks := 0, outcome := 2 } } }).session).get rfl, Wick.a, by decide +kernel⟩,
   ⟨rdy, Master.hostS, Wick.a, by simp only [State.MayWrite]; decide +kernel⟩,
   ⟨{ rdy with attr := { rdy.attr with cur := some { number := 3, seed := 0x5D2E8A41, start := 4400000, chipMs := 1000, ampl := 10, plan := 15, target := 0xFFFF, fixed := false, notSent := false, parts := [], chips := [], wicks := 0, outcome := 1 } } }, Master.hostS, Wick.a, true, (({ rdy with attr := { rdy.attr with cur := some { number := 3, seed := 0x5D2E8A41, start := 4400000, chipMs := 1000, ampl := 10, plan := 15, target := 0xFFFF, fixed := false, notSent := false, parts := [], chips := [], wicks := 0, outcome := 1 } } }).session).get rfl, by simp only [State.MayWrite]; decide +kernel⟩,
   ⟨{ rdy with attr := { rdy.attr with cur := some { number := 3, seed := 0x5D2E8A41, start := 4400000, chipMs := 1000, ampl := 10, plan := 15, target := 0xFFFF, fixed := false, notSent := false, parts := [], chips := [], wicks := 0, outcome := 1 } } }, Master.hostS, Wick.a, false, (({ rdy with attr := { rdy.attr with cur := some { number := 3, seed := 0x5D2E8A41, start := 4400000, chipMs := 1000, ampl := 10, plan := 15, target := 0xFFFF, fixed := false, notSent := false, parts := [], chips := [], wicks := 0, outcome := 1 } } }).session).get rfl, by simp only [State.MayWrite]; decide +kernel⟩,
   ⟨rdy, Master.hostS, Wick.a, by simp only [State.MayWrite]; decide +kernel⟩,
   ⟨rdy, Master.hostS, Wick.a, by simp only [State.MayWrite]; decide +kernel⟩,
   ⟨{ ((inBank (inEntry rdy 3 [(0x18, 1, 2), (0x1B, 1, 1), (0x20, 2, 4)]) [(tabPlans.at 15, 1, 1), (tabPlans.at 15 + 1, 1, 127), (tabPlans.at 15 + 2, 2, 0xFFFF), (tabPlans.at 15 + 4, 2, 600), (tabPlans.at 15 + 6, 2, 1000), (tabPlans.at 15 + 8, 1, 10)]).set (HDR.ENABLE (Wick.page .a 3)) 0) with attr := { rdy.attr with cur := some { number := 3, seed := 0x5D2E8A41, start := 4400000, chipMs := 1000, ampl := 10, plan := 15, target := 0xFFFF, fixed := false, notSent := false, parts := [], chips := [], wicks := 0, outcome := 1 } } }, { number := 3, seed := 0x5D2E8A41, start := 4400000, chipMs := 1000, ampl := 10, plan := 15, target := 0xFFFF, fixed := false, notSent := false, parts := [], chips := [], wicks := 0, outcome := 1 }, by decide +kernel⟩,
   ⟨{ ((inBank (inEntry rdy 3 [(0x18, 1, 2), (0x1B, 1, 1), (0x20, 2, 4)]) [(tabPlans.at 15, 1, 1), (tabPlans.at 15 + 1, 1, 127), (tabPlans.at 15 + 2, 2, 0xFFFF), (tabPlans.at 15 + 4, 2, 600), (tabPlans.at 15 + 6, 2, 1000), (tabPlans.at 15 + 8, 1, 10)])) with attr := { rdy.attr with cur := some { number := 3, seed := 0x5D2E8A41, start := 4400000, chipMs := 1000, ampl := 10, plan := 15, target := 0xFFFF, fixed := false, notSent := false, parts := [], chips := [], wicks := 0, outcome := 1 } } }, { number := 3, seed := 0x5D2E8A41, start := 4400000, chipMs := 1000, ampl := 10, plan := 15, target := 0xFFFF, fixed := false, notSent := false, parts := [], chips := [], wicks := 0, outcome := 1 }, by decide +kernel⟩⟩

/-- The hypotheses of the clauses of LibraryStoresImages are met. -/
theorem witness_libraryStoresImages :
    (∃ (s : State) (m : Master) (w : Wick), s.MayWrite m (w.page 0xA) 0x044 ∧ s.isAuthor w = true ∧ s.camp.op = none ∧ let slot := s.get (CAMPAIGN.LIB_SLOT w); slot ≠ 0 ∧ s.imageInUse slot = false ∧ s.get (CAMPAIGN.LIB_SIZE w) ≠ 0 ∧ s.get (CAMPAIGN.LIB_SIZE w) ≤ 1048576) ∧
    (∃ (s : State) (m : Master) (w : Wick), s.MayWrite m (w.page 0xA) 0x044 ∧ s.isAuthor w = true ∧ s.camp.op = none ∧ let slot := s.get (CAMPAIGN.LIB_SLOT w); slot = 0) ∧
    (∃ (s : State) (m : Master) (w : Wick), s.MayWrite m (w.page 0xA) 0x044 ∧ s.isAuthor w = true ∧ s.camp.op = none ∧ let slot := s.get (CAMPAIGN.LIB_SLOT w); slot ≠ 0 ∧ s.imageInUse slot = false) ∧
    (∃ (s : State) (m : Master) (w : Wick), s.MayWrite m (w.page 0xA) 0x044 ∧ s.isAuthor w = true ∧ s.camp.op = none ∧ let slot := s.get (CAMPAIGN.LIB_SLOT w); slot ≠ 0 ∧ s.imageInUse slot = true) ∧
    (∃ (s : State) (m : Master) (w : Wick) (c : _), s.MayWrite m (w.page 0xA) 0x044 ∧ s.isAuthor w = true ∧ s.camp.op = none ∧ s.camp.load = some c) ∧
    (∃ (s : State) (m : Master) (w : Wick), s.MayWrite m (w.page 0xA) 0x044 ∧ s.isAuthor w = true ∧ s.camp.op = none ∧ s.camp.load = none) ∧
    (∃ (s : State) (m : Master) (w : Wick) (k : Fin 128) (slot : Nat) (i : Image), s.MayWrite m (w.page 0xA) (0x400 + 4 * k.val) ∧ s.isAuthor w = true ∧ (∀ n h, s.camp.op ≠ some (.finish n h)) ∧ s.camp.load = some (slot, i)) ∧
    (∃ (s : State) (w : Wick) (slot : _) (i : _), s.author = some w ∧ s.camp.op = some (.begin_ slot i)) ∧
    (∃ (s : State) (w : Wick) (slot : _), s.author = some w ∧ s.camp.op = some (.delete slot)) ∧
    (∃ (s : State) (w : Wick) (slot : _) (i : _) (n : _) (h : _), s.author = some w ∧ s.camp.op = some (.finish n h) ∧ s.camp.load = some (slot, i)) ∧
    (∃ (s : State) (w : Wick), s.author = some w ∧ s.camp.op ≠ none) :=
  ⟨⟨(rdy.setAll [(CAMPAIGN.LIB_SLOT .a, 3), (CAMPAIGN.LIB_SIZE .a, 1048576)]), Master.hostS, Wick.a, by simp only [State.MayWrite]; decide +kernel⟩,
   ⟨rdy, Master.hostS, Wick.a, by simp only [State.MayWrite]; decide +kernel⟩,
   ⟨(rdy.setAll [(CAMPAIGN.LIB_SLOT .a, 3), (CAMPAIGN.LIB_SIZE .a, 1048576)]), Master.hostS, Wick.a, by simp only [State.MayWrite]; decide +kernel⟩,
   ⟨{ (rdy.setAll [(CAMPAIGN.LIB_SLOT .a, 3), (CAMPAIGN.LIB_SIZE .a, 1048576)]) with camp := { rdy.camp with state := 2, slot := 3 } }, Master.hostS, Wick.a, by simp only [State.MayWrite]; decide +kernel⟩,
   ⟨{ (rdy.setAll [(CAMPAIGN.LIB_SLOT .a, 3)]) with camp := { rdy.camp with load := some (3, { size := 321, version := 5, hwClass := 1, hash := [], data := [(0, 7)] }) } }, Master.hostS, Wick.a, (({ (rdy.setAll [(CAMPAIGN.LIB_SLOT .a, 3)]) with camp := { rdy.camp with load := some (3, { size := 321, version := 5, hwClass := 1, hash := [], data := [(0, 7)] }) } }).camp.load).get rfl, by simp only [State.MayWrite]; decide +kernel⟩,
   ⟨(rdy.setAll [(CAMPAIGN.LIB_SLOT .a, 3), (CAMPAIGN.LIB_SIZE .a, 1048576)]), Master.hostS, Wick.a, by simp only [State.MayWrite]; decide +kernel⟩,
   ⟨{ rdy with camp := { rdy.camp with load := some (3, { size := 321, version := 5, hwClass := 1, hash := [], data := [(0, 7)] }) } }, Master.hostS, Wick.a, (127 : Fin 128), 3, { size := 321, version := 5, hwClass := 1, hash := [], data := [(0, 7)] }, ⟨by simp only [State.MayWrite]; decide +kernel, by decide +kernel, (fun n h c => nomatch (show (none : Option LibOp) = some (.finish n h) from c)), by decide +kernel⟩⟩,
   ⟨{ rdy with camp := { rdy.camp with op := some (.begin_ 3 { size := 321, version := 5, hwClass := 1, hash := [], data := [(0, 7)] }) } }, Wick.a, 3, { size := 321, version := 5, hwClass := 1, hash := [], data := [(0, 7)] }, by decide +kernel⟩,
   ⟨{ rdy with camp := { rdy.camp with op := some (.delete 3) } }, Wick.a, 3, by decide +kernel⟩,
   ⟨{ rdy with camp := { rdy.camp with op := some (.finish 321 []), load := some (3, { size := 321, version := 5, hwClass := 1, hash := [], data := [(0, 7)] }) } }, Wick.a, 3, { size := 321, version := 5, hwClass := 1, hash := [], data := [(0, 7)] }, 321, [], by decide +kernel⟩,
   ⟨{ rdy with camp := { rdy.camp with op := some (.begin_ 3 { size := 321, version := 5, hwClass := 1, hash := [], data := [(0, 7)] }) } }, Wick.a, by decide +kernel⟩⟩

/-- The hypotheses of the clauses of CampaignsMoveThroughTheirStates are met. -/
theorem witness_campaignsMoveThroughTheirStates :
    (∃ (s : State) (m : Master) (w : Wick) (i : _), s.MayWrite m (w.page 0xA) 0x114 ∧ s.isAuthor w = true ∧ s.on (HDR.ENABLE (w.page 0xA)) = true ∧ (s.camp.state = 0 ∨ s.camp.state = 8 ∨ s.camp.state = 9) ∧ (s.library w).get? (s.get (CAMPAIGN.C_SLOT w)) = some i ∧ s.campTargets (s.get (CAMPAIGN.C_TARGET w)) (s.get (CAMPAIGN.C_FROM_VER w)) i.version ≠ []) ∧
    (∃ (s : State) (m : Master) (w : Wick), s.MayWrite m (w.page 0xA) 0x114 ∧ s.isAuthor w = true ∧ s.on (HDR.ENABLE (w.page 0xA)) = false) ∧
    (∃ (s : State) (m : Master) (w : Wick), s.MayWrite m (w.page 0xA) 0x114 ∧ s.isAuthor w = true ∧ 1 ≤ s.camp.state ∧ s.camp.state ≤ 4) ∧
    (∃ (s : State) (m : Master) (w : Wick), s.MayWrite m (w.page 0xA) 0x114 ∧ s.isAuthor w = true ∧ let sends := s.isAuthor s.cw = true ∧ s.stopped s.cw = false ∧ s.on (HDR.ENABLE (s.cw.page 3)) = true; s.camp.state = 10 ∧ s.camp.prev = 1 ∧ s.beginOpen = false ∧ sends) ∧
    (∃ (s : State) (m : Master) (w : Wick), s.MayWrite m (w.page 0xA) 0x114 ∧ s.isAuthor w = true ∧ s.camp.state ≠ 10) ∧
    (∃ (s : State) (m : Master) (w : Wick) (at_ : _), s.MayWrite m (w.page 0xA) 0x114 ∧ s.isAuthor w = true ∧ let sends := s.isAuthor s.cw = true ∧ s.stopped s.cw = false ∧ s.on (HDR.ENABLE (s.cw.page 3)) = true; at_ = s.get2 (CAMPAIGN.ACT_TIME_LO w) (CAMPAIGN.ACT_TIME_HI w) ∧ at_ ≠ 0 ∧ s.camp.state = 5 ∧ sends ∧ at_ % 32768 = 0 ∧ s.now + 32768 * 120 ≤ at_) ∧
    (∃ (s : State) (m : Master) (w : Wick) (at_ : _), s.MayWrite m (w.page 0xA) 0x114 ∧ s.isAuthor w = true ∧ at_ = s.get2 (CAMPAIGN.ACT_TIME_LO w) (CAMPAIGN.ACT_TIME_HI w) ∧ at_ ≠ 0 ∧ s.camp.state = 5 ∧ (at_ % 32768 ≠ 0 ∨ at_ < s.now + 32768 * 120)) ∧
    (∃ (s : State) (m : Master) (w : Wick), s.MayWrite m (w.page 0xA) 0x114 ∧ s.isAuthor w = true ∧ ((1 ≤ s.camp.state ∧ s.camp.state ≤ 6) ∨ s.camp.state = 10)) ∧
    (∃ (s : State) (m : Master) (w : Wick), s.MayWrite m (w.page 0xA) 0x114 ∧ s.isAuthor w = true ∧ s.camp.state = 10 ∧ (s.camp.prev ≠ 1 ∨ s.beginOpen = true)) ∧
    (∃ (s : State) (b : Nat) (k : Nat) (i : Image), s.authorRuns = true ∧ s.isAuthor s.cw = true ∧ s.on (HDR.ENABLE (s.cw.page 3)) = true ∧ (s.camp.state = 2 ∨ s.camp.state = 4) ∧ s.camp.busy = false ∧ s.camp.lastBlock + millis (s.get (CAMPAIGN.C_GAP_MS s.cw)) ≤ s.base ∧ s.camp.needed[s.camp.next]? = some b ∧ (s.library s.cw).get? s.camp.slot = some i ∧ s.nextSlot? = some k) ∧
    (∃ (s : State), s.authorRuns = true ∧ 1 ≤ s.camp.state ∧ s.camp.state ≤ 4 ∧ s.camp.lastHold + 32768 * 300 ≤ s.base) ∧
    (∃ (s : State) (b : Nat), s.authorRuns = true ∧ s.camp.state = 3 ∧ s.camp.until_ = some b ∧ b ≤ s.base ∧ s.isAuthor s.cw = true ∧ s.on (HDR.ENABLE (s.cw.page 3)) = true) ∧
    (∃ (s : State), s.authorRuns = true ∧ s.camp.state = 6 ∧ s.camp.actTime ≤ s.now ∧ s.camp.actSent = true) ∧
    (∃ (s : State), s.authorRuns = true ∧ s.camp.state = 6 ∧ s.camp.actTime ≤ s.now ∧ s.camp.actSent = false) ∧
    (∃ (s : State) (b : Nat) (n : Nat), s.authorRuns = true ∧ s.camp.state = 7 ∧ s.camp.rest = some n ∧ s.camp.until_ = some b ∧ b ≤ s.base ∧ s.isAuthor s.cw = true ∧ s.on (HDR.ENABLE (s.cw.page 3)) = true) ∧
    (∃ (s : State) (m : Master) (w : Wick), s.MayWrite m (w.page 0xA) 0x008 ∧ s.isController w = true) ∧
    (∃ (s : State) (m : Master) (w : Wick) (i : _), s.MayWrite m (w.page 0xA) 0x114 ∧ s.isAuthor w = true ∧ let sends := s.isAuthor s.cw = true ∧ s.stopped s.cw = false ∧ s.on (HDR.ENABLE (s.cw.page 3)) = true; sends ∧ s.on (HDR.ENABLE (w.page 0xA)) = true ∧ (s.camp.state = 0 ∨ s.camp.state = 8 ∨ s.camp.state = 9) ∧ (s.library w).get? (s.get (CAMPAIGN.C_SLOT w)) = some i ∧ s.campTargets (s.get (CAMPAIGN.C_TARGET w)) (s.get (CAMPAIGN.C_FROM_VER w)) i.version ≠ []) ∧
    (∃ (s : State), s.authorRuns = true ∧ (s.camp.state = 2 ∨ s.camp.state = 4) ∧ s.camp.busy = false ∧ s.camp.lastBlock + millis (s.get (CAMPAIGN.C_GAP_MS s.cw)) ≤ s.base ∧ s.camp.needed[s.camp.next]? = none) ∧
    (∃ (s : State) (b : Nat) (i : Image), let d := { Desc.empty with purpose := .block b, ty := 7, dest := s.camp.target, maxAtt := 1, args := leBytes 2 s.camp.number ++ leBytes 2 b ++ leBytes 2 s.camp.nBlocks ++ i.block b }; s.authorRuns = true ∧ (s.camp.state = 2 ∨ s.camp.state = 4) ∧ s.camp.busy = false ∧ s.camp.lastBlock + millis (s.get (CAMPAIGN.C_GAP_MS s.cw)) ≤ s.base ∧ s.camp.needed[s.camp.next]? = some b ∧ (s.library s.cw).get? s.camp.slot = some i ∧ s.takesInternal d = true) ∧
    (∃ (s : State) (b : Nat), s.authorRuns = true ∧ s.camp.until_ = some b ∧ b ≤ s.base ∧ s.camp.state = 3 ∧ (s.camp.incomplete = [] ∨ s.get (CAMPAIGN.C_MAX_ROUNDS s.cw) ≤ s.camp.round)) ∧
    (∃ (s : State) (b : Nat), s.authorRuns = true ∧ s.camp.until_ = some b ∧ b ≤ s.base ∧ s.camp.state = 7 ∧ s.camp.rest = none) :=
  ⟨⟨{ ((inEntry rdy 3 [(0x18, 1, 2)]).setAll [(CAMPAIGN.C_SLOT .a, 3), (CAMPAIGN.C_TARGET .a, 0xFFFF)]) with camp := { rdy.camp with lib := [(0, [(3, { size := 321, version := 5, hwClass := 1, hash := [], data := [(0, 7)] })]), (1, [(3, { size := 321, version := 5, hwClass := 1, hash := [], data := [(0, 7)] })])] } }, Master.hostS, Wick.a, ((({ ((inEntry rdy 3 [(0x18, 1, 2)]).setAll [(CAMPAIGN.C_SLOT .a, 3), (CAMPAIGN.C_TARGET .a, 0xFFFF)]) with camp := { rdy.camp with lib := [(0, [(3, { size := 321, version := 5, hwClass := 1, hash := [], data := [(0, 7)] })]), (1, [(3, { size := 321, version := 5, hwClass := 1, hash := [], data := [(0, 7)] })])] } }).library (Wick.a)).get? (({ ((inEntry rdy 3 [(0x18, 1, 2)]).setAll [(CAMPAIGN.C_SLOT .a, 3), (CAMPAIGN.C_TARGET .a, 0xFFFF)]) with camp := { rdy.camp with lib := [(0, [(3, { size := 321, version := 5, hwClass := 1, hash := [], data := [(0, 7)] })]), (1, [(3, { size := 321, version := 5, hwClass := 1, hash := [], data := [(0, 7)] })])] } }).get (CAMPAIGN.C_SLOT (Wick.a)))).get rfl, by simp only [State.MayWrite]; decide +kernel⟩,
   ⟨{ (rdy.setAll [(HDR.ENABLE (Wick.page .a 0xA), 0)]) with camp := { rdy.camp with lib := [(0, [(3, { size := 321, version := 5, hwClass := 1, hash := [], data := [(0, 7)] })]), (1, [(3, { size := 321, version := 5, hwClass := 1, hash := [], data := [(0, 7)] })])] } }, Master.hostS, Wick.a, by simp only [State.MayWrite]; decide +kernel⟩,
   ⟨{ rdy with camp := { rdy.camp with state := 1 } }, Master.hostS, Wick.a, by simp only [State.MayWrite]; decide +kernel⟩,
   ⟨{ rdy with camp := { rdy.camp with state := 10, prev := 1 } }, Master.hostS, Wick.a, by simp only [State.MayWrite]; decide +kernel⟩,
   ⟨{ ((inEntry rdy 3 [(0x18, 1, 2)]).setAll [(CAMPAIGN.C_SLOT .a, 3), (CAMPAIGN.C_TARGET .a, 0xFFFF)]) with camp := { rdy.camp with lib := [(0, [(3, { size := 321, version := 5, hwClass := 1, hash := [], data := [(0, 7)] })]), (1, [(3, { size := 321, version := 5, hwClass := 1, hash := [], data := [(0, 7)] })])] } }, Master.hostS, Wick.a, by simp only [State.MayWrite]; decide +kernel⟩,
   ⟨{ (rdy.setAll [(CAMPAIGN.ACT_TIME_LO .a, 32768 * 300)]) with camp := { rdy.camp with state := 5 } }, Master.hostS, Wick.a, ({ (rdy.setAll [(CAMPAIGN.ACT_TIME_LO .a, 32768 * 300)]) with camp := { rdy.camp with state := 5 } }).get2 (CAMPAIGN.ACT_TIME_LO (Wick.a)) (CAMPAIGN.ACT_TIME_HI (Wick.a)), by simp only [State.MayWrite]; decide +kernel⟩,
   ⟨{ (rdy.setAll [(CAMPAIGN.ACT_TIME_LO .a, 5)]) with camp := { rdy.camp with state := 5 } }, Master.hostS, Wick.a, ({ (rdy.setAll [(CAMPAIGN.ACT_TIME_LO .a, 5)]) with camp := { rdy.camp with state := 5 } }).get2 (CAMPAIGN.ACT_TIME_LO (Wick.a)) (CAMPAIGN.ACT_TIME_HI (Wick.a)), by simp only [State.MayWrite]; decide +kernel⟩,
   ⟨{ rdy with camp := { rdy.camp with state := 1 } }, Master.hostS, Wick.a, by simp only [State.MayWrite]; decide +kernel⟩,
   ⟨{ rdy with camp := { rdy.camp with state := 10, prev := 2 } }, Master.hostS, Wick.a, by simp only [State.MayWrite]; decide +kernel⟩,
   ⟨{ rdy with camp := { rdy.camp with lib := [(0, [(3, { size := 321, version := 5, hwClass := 1, hash := [], data := [(0, 7)] })]), (1, [(3, { size := 321, version := 5, hwClass := 1, hash := [], data := [(0, 7)] })])], state := 2, slot := 3, size := 321, needed := [0, 1, 2], next := 2 } }, (({ rdy with camp := { rdy.camp with lib := [(0, [(3, { size := 321, version := 5, hwClass := 1, hash := [], data := [(0, 7)] })]), (1, [(3, { size := 321, version := 5, hwClass := 1, hash := [], data := [(0, 7)] })])], state := 2, slot := 3, size := 321, needed := [0, 1, 2], next := 2 } }).camp.needed[({ rdy with camp := { rdy.camp with lib := [(0, [(3, { size := 321, version := 5, hwClass := 1, hash := [], data := [(0, 7)] })]), (1, [(3, { size := 321, version := 5, hwClass := 1, hash := [], data := [(0, 7)] })])], state := 2, slot := 3, size := 321, needed := [0, 1, 2], next := 2 } }).camp.next]?).get rfl, (({ rdy with camp := { rdy.camp with lib := [(0, [(3, { size := 321, version := 5, hwClass := 1, hash := [], data := [(0, 7)] })]), (1, [(3, { size := 321, version := 5, hwClass := 1, hash := [], data := [(0, 7)] })])], state := 2, slot := 3, size := 321, needed := [0, 1, 2], next := 2 } }).nextSlot?).get rfl, ((({ rdy with camp := { rdy.camp with lib := [(0, [(3, { size := 321, version := 5, hwClass := 1, hash := [], data := [(0, 7)] })]), (1, [(3, { size := 321, version := 5, hwClass := 1, hash := [], data := [(0, 7)] })])], state := 2, slot := 3, size := 321, needed := [0, 1, 2], next := 2 } }).library ({ rdy with camp := { rdy.camp with lib := [(0, [(3, { size := 321, version := 5, hwClass := 1, hash := [], data := [(0, 7)] })]), (1, [(3, { size := 321, version := 5, hwClass := 1, hash := [], data := [(0, 7)] })])], state := 2, slot := 3, size := 321, needed := [0, 1, 2], next := 2 } }).cw).get? ({ rdy with camp := { rdy.camp with lib := [(0, [(3, { size := 321, version := 5, hwClass := 1, hash := [], data := [(0, 7)] })]), (1, [(3, { size := 321, version := 5, hwClass := 1, hash := [], data := [(0, 7)] })])], state := 2, slot := 3, size := 321, needed := [0, 1, 2], next := 2 } }).camp.slot).get rfl, by decide +kernel⟩,
   ⟨{ { rdy with camp := { rdy.camp with state := 4, target := 0xFFFF } } with base := 32768 * 300 }, by decide +kernel⟩,
   ⟨{ rdy with camp := { rdy.camp with state := 3, until_ := some 4000000 } }, (({ rdy with camp := { rdy.camp with state := 3, until_ := some 4000000 } }).camp.until_).get rfl, by decide +kernel⟩,
   ⟨{ rdy with camp := { rdy.camp with state := 6, actTime := 4500000, actSent := true } }, by decide +kernel⟩,
   ⟨{ rdy with camp := { rdy.camp with state := 6, actTime := 4500000, actSent := false } }, by decide +kernel⟩,
   ⟨{ rdy with camp := { rdy.camp with state := 7, rest := some 5, until_ := some 4000000 } }, (({ rdy with camp := { rdy.camp with state := 7, rest := some 5, until_ := some 4000000 } }).camp.until_).get rfl, (({ rdy with camp := { rdy.camp with state := 7, rest := some 5, until_ := some 4000000 } }).camp.rest).get rfl, by decide +kernel⟩,
   ⟨rdy, Master.hostS, Wick.a, by simp only [State.MayWrite]; decide +kernel⟩,
   ⟨{ ((inEntry rdy 3 [(0x18, 1, 2)]).setAll [(CAMPAIGN.C_SLOT .a, 3), (CAMPAIGN.C_TARGET .a, 0xFFFF)]) with camp := { rdy.camp with lib := [(0, [(3, { size := 321, version := 5, hwClass := 1, hash := [], data := [(0, 7)] })]), (1, [(3, { size := 321, version := 5, hwClass := 1, hash := [], data := [(0, 7)] })])] } }, Master.hostS, Wick.a, { size := 321, version := 5, hwClass := 1, hash := [], data := [(0, 7)] }, by simp only [State.MayWrite]; decide +kernel⟩,
   ⟨{ rdy with camp := { rdy.camp with state := 2, needed := [], next := 0 } }, by decide +kernel⟩,
   ⟨{ rdy with camp := { rdy.camp with lib := [(0, [(3, { size := 321, version := 5, hwClass := 1, hash := [], data := [(0, 7)] })]), (1, [(3, { size := 321, version := 5, hwClass := 1, hash := [], data := [(0, 7)] })])], state := 2, slot := 3, size := 321, needed := [0, 1, 2], next := 2 } }, 2, { size := 321, version := 5, hwClass := 1, hash := [], data := [(0, 7)] }, by decide +kernel⟩,
   ⟨{ rdy with camp := { rdy.camp with state := 3, until_ := some 4000000 } }, 4000000, by decide +kernel⟩,
   ⟨{ rdy with camp := { rdy.camp with state := 7, rest := none, until_ := some 4000000 } }, 4000000, by decide +kernel⟩⟩

/-- The hypotheses of the clauses of WicksAreSupervisedAndStarted are met. -/
theorem witness_wicksAreSupervisedAndStarted :
    (∃ (s : State) (w : Wick), (s.role w).beats = true ∧ s.stopped w = false ∧ s.due (tmLoss w) = false) ∧
    (∃ (s : State) (w : Wick), s.role w = .author ∧ s.role w.other = .mirror ∧ s.due (tmLoss w) = true ∧ s.due (tmLoss w.other) = false) ∧
    (∃ (s : State) (w : Wick) (held : Fin 7), held.val ≠ (s.role w).code) ∧
    (∃ (s : State) (w : Wick) (held : Fin 7), held.val = (s.role w).code) ∧
    (∃ (s : State) (w : Wick), s.stopped w = false ∧ s.pdOn (corePd w) = true ∧ s.role w ≠ .warming) ∧
    (∃ (s : State) (w : Wick) (c : Instr), (c = .lockstepMismatch w ∨ c = .sramDoubleError w) ∧ s.stopped w = false ∧ s.pdOn (corePd w) = true ∧ s.role w ≠ .warming ∧ (s.role w ≠ .cold ∨ s.get PILOT.TH_LOCKSTEP = 0)) ∧
    (∃ (s : State) (w : Wick), s.author = some w ∧ s.stopped w = false ∧ s.saving = false ∧ s.due tmCtlCkpt = true) ∧
    (∃ (s : State) (w : Wick), s.role w = .warming ∧ s.due (tmStart w) = false ∧ s.get (WCORE.START_KIND w) ≠ 3 ∧ s.author = some w.other) ∧
    (∃ (s : State) (w : Wick), s.role w = .warming ∧ s.due (tmStart w) = false ∧ (s.replay w).get (WCORE.START_KIND w) ≠ 3 ∧ s.controller = none) ∧
    (∃ (s : State) (w : Wick), s.role w = .warming ∧ s.due (tmStart w) = false ∧ s.get (WCORE.START_KIND w) ≠ 3 ∧ s.role w.other = .snowdrop) ∧
    (∃ (s : State) (w : Wick), s.role w = .warming ∧ s.due (tmStart w) = false ∧ (s.replay w).get (WCORE.START_KIND w) = 3 ∧ s.controller = none) ∧
    (∃ (s : State) (w : Wick) (invalid : Bool), s.role w = .warming ∧ (invalid = true ∨ s.due (tmStart w) = true) ∧ s.get (WCORE.START_KIND w) ≠ 3) ∧
    (∃ (s : State) (w : Wick) (invalid : Bool), s.role w = .warming ∧ (invalid = true ∨ s.due (tmStart w) = true) ∧ s.get (WCORE.START_KIND w) = 3) ∧
    (∃ (s : State) (w : Wick), s.due (tmStable w) = true) ∧
    (∃ (s : State) (w : Wick) (c : Instr), (c = .lockstepMismatch w ∨ c = .sramDoubleError w) ∧ s.stopped w = false ∧ s.pdOn (corePd w) = true ∧ s.role w = .warming ∧ s.get (WCORE.START_KIND w) ≠ 3) :=
  ⟨⟨rdy, Wick.a, by decide +kernel⟩,
   ⟨{ rdy with roleB := .mirror, timers := [(tmLoss .a, 4000000), (tmLoss .b, 4000001)] }, Wick.a, by decide +kernel⟩,
   ⟨rdy, Wick.a, (6 : Fin 7), by decide +kernel⟩,
   ⟨rdy, Wick.b, (1 : Fin 7), by decide +kernel⟩,
   ⟨rdy, Wick.a, by decide +kernel⟩,
   ⟨rdy, Wick.a, _, ⟨Or.inl rfl, by decide +kernel⟩⟩,
   ⟨{ rdy with timers := [(tmCtlCkpt, 4000000)] }, Wick.a, by decide +kernel⟩,
   ⟨{ (rdy.setAll [(WCORE.START_KIND .b, 1)]) with roleB := .warming }, Wick.b, by decide +kernel⟩,
   ⟨{ (rdy.setAll [(WCORE.START_KIND .b, 1)]) with roleA := .cold, roleB := .warming }, Wick.b, by decide +kernel⟩,
   ⟨{ (rdy.setAll [(WCORE.START_KIND .b, 4)]) with roleA := .snowdrop, roleB := .warming }, Wick.b, by decide +kernel⟩,
   ⟨{ (rdy.setAll [(WCORE.START_KIND .b, 3)]) with roleA := .failed, roleB := .warming }, Wick.b, by decide +kernel⟩,
   ⟨{ (rdy.setAll [(WCORE.START_KIND .b, 1)]) with roleA := .failed, roleB := .warming, timers := [(tmStart .b, 4000000)] }, Wick.b, false, by decide +kernel⟩,
   ⟨{ (rdy.setAll [(WCORE.START_KIND .b, 3)]) with roleA := .failed, roleB := .warming, timers := [(tmStart .b, 4000000)] }, Wick.b, false, by decide +kernel⟩,
   ⟨{ rdy with timers := [(tmStable .a, 4000000)] }, Wick.a, by decide +kernel⟩,
   ⟨{ rdy with roleB := .warming }, Wick.b, _, ⟨Or.inl rfl, by decide +kernel⟩⟩⟩

/-- The hypotheses of the clauses of HandoversSwapTheRoles are met. -/
theorem witness_handoversSwapTheRoles :
    (∃ (s : State) (m : Master) (w : _), s.MayWrite m 0 0x04C ∧ s.author = some w ∧ s.handoverCode = 0) ∧
    (∃ (s : State) (m : Master), s.MayWrite m 0 0x04C ∧ s.handoverCode ≠ 0) ∧
    (∃ (s : State) (m : Master) (w : _), s.MayWrite m 0 0x04C ∧ let gone := s.get PILOT.HO_STATE = 3 ∨ (s.get PILOT.HO_STATE = 2 ∧ s.get2 PILOT.SWAP_AT_LO PILOT.SWAP_AT_HI ≤ s.now); ¬ gone ∧ s.handing = true ∧ s.incoming = some w) ∧
    (∃ (s : State) (m : Master), s.MayWrite m 0 0x04C ∧ let gone := s.get PILOT.HO_STATE = 3 ∨ (s.get PILOT.HO_STATE = 2 ∧ s.get2 PILOT.SWAP_AT_LO PILOT.SWAP_AT_HI ≤ s.now); gone) ∧
    (∃ (s : State) (m : Master), s.MayWrite m 0 0x04C ∧ let gone := s.get PILOT.HO_STATE = 3 ∨ (s.get PILOT.HO_STATE = 2 ∧ s.get2 PILOT.SWAP_AT_LO PILOT.SWAP_AT_HI ≤ s.now); ¬ gone ∧ s.handing = false) ∧
    (∃ (s : State) (o : Wick) (m : Wick), s.author = some o ∧ s.mirror = some m ∧ s.get2 PILOT.SWAP_AT_LO PILOT.SWAP_AT_HI ≤ s.now ∧ s.get PILOT.HO_STATE = 2 ∧ s.stopped m = false) ∧
    (∃ (s : State) (o : Wick) (m : Wick), s.author = some o ∧ s.mirror = some m ∧ s.get2 PILOT.SWAP_AT_LO PILOT.SWAP_AT_HI ≤ s.now ∧ s.get PILOT.HO_STATE = 2 ∧ s.get PILOT.HO_DEFERS < 3) ∧
    (∃ (s : State) (o : Wick) (m : Wick), s.author = some o ∧ s.mirror = some m ∧ s.get2 PILOT.SWAP_AT_LO PILOT.SWAP_AT_HI ≤ s.now ∧ s.get PILOT.HO_STATE = 2 ∧ 3 ≤ s.get PILOT.HO_DEFERS) ∧
    (∃ (s : State) (w : Wick), s.arb.outgoing = some w) ∧
    (∃ (s : State) (m : Master) (v : Bool) (w : _), s.MayWrite m 0 0x044 ∧ v = true ∧ s.handing = true ∧ s.get PILOT.HO_CAUSE = 2 ∧ s.swapCome = false ∧ s.incoming = some w) ∧
    (∃ (s : State) (m : Master) (v : Bool), s.MayWrite m 0 0x044 ∧ (v = false ∨ s.handing = false ∨ s.get PILOT.HO_CAUSE ≠ 2 ∨ s.swapCome = true)) ∧
    (∃ (s : State) (b : Nat), s.arb.soak.get? s.prefWick.idx = some b ∧ s.author = some s.prefWick.other ∧ s.isAuthor s.prefWick = false ∧ s.on PILOT.REVERT_INHIBIT = false ∧ s.eligibility s.prefWick = 0 ∧ b + 32768 * s.get PILOT.SOAK_S ≤ s.base ∧ s.on (PILOT.METER_FAULT s.prefWick.idx) = false ∧ s.handoverCode = 0) ∧
    (∃ (s : State) (w : _), s.tested = some w) ∧
    (∃ (s : State), s.tested = none) :=
  ⟨⟨rdy, Master.hostS, ((rdy).author).get rfl, by simp only [State.MayWrite]; decide +kernel⟩,
   ⟨State.reset, Master.hostS, by simp only [State.MayWrite]; decide +kernel⟩,
   ⟨{ (rdy.setAll [(PILOT.HO_STATE, 2), (PILOT.SWAP_AT_LO, 4500001)]) with roleB := .mirror }, Master.hostS, (({ (rdy.setAll [(PILOT.HO_STATE, 2), (PILOT.SWAP_AT_LO, 4500001)]) with roleB := .mirror }).incoming).get rfl, by simp only [State.MayWrite]; decide +kernel⟩,
   ⟨{ (rdy.setAll [(PILOT.HO_STATE, 2), (PILOT.SWAP_AT_LO, 4500000)]) with roleB := .mirror }, Master.hostS, by simp only [State.MayWrite]; decide +kernel⟩,
   ⟨rdy, Master.hostS, by simp only [State.MayWrite]; decide +kernel⟩,
   ⟨{ (rdy.setAll [(PILOT.HO_STATE, 2), (PILOT.SWAP_AT_LO, 4500000), (PILOT.HO_DEFERS, 0)]) with roleB := .mirror }, Wick.a, Wick.b, by decide +kernel⟩,
   ⟨{ (rdy.setAll [(PILOT.HO_STATE, 2), (PILOT.SWAP_AT_LO, 4500000), (PILOT.HO_DEFERS, 0)]) with roleB := .mirror }, Wick.a, Wick.b, by decide +kernel⟩,
   ⟨{ (rdy.setAll [(PILOT.HO_STATE, 2), (PILOT.SWAP_AT_LO, 4500000), (PILOT.HO_DEFERS, 3)]) with roleB := .mirror }, Wick.a, Wick.b, by decide +kernel⟩,
   ⟨{ rdy with arb := { rdy.arb with outgoing := some .b } }, Wick.b, by decide +kernel⟩,
   ⟨{ (rdy.setAll [(PILOT.HO_STATE, 1), (PILOT.HO_CAUSE, 2)]) with roleB := .warming }, Master.hostS, true, (({ (rdy.setAll [(PILOT.HO_STATE, 1), (PILOT.HO_CAUSE, 2)]) with roleB := .warming }).incoming).get rfl, by simp only [State.MayWrite]; decide +kernel⟩,
   ⟨rdy, Master.hostS, true, by simp only [State.MayWrite]; decide +kernel⟩,
   ⟨{ (rdy.setAll [(PILOT.PREF_WICK, 1), (PILOT.SOAK_S, 10)]) with arb := { rdy.arb with soak := [(1, 5)] } }, (({ (rdy.setAll [(PILOT.PREF_WICK, 1), (PILOT.SOAK_S, 10)]) with arb := { rdy.arb with soak := [(1, 5)] } }).arb.soak.get? ({ (rdy.setAll [(PILOT.PREF_WICK, 1), (PILOT.SOAK_S, 10)]) with arb := { rdy.arb with soak := [(1, 5)] } }).prefWick.idx).get rfl, by decide +kernel⟩,
   ⟨{ rdy with arb := { rdy.arb with testing := [(1, 5)] } }, Wick.b, by decide +kernel⟩,
   ⟨rdy, by decide +kernel⟩⟩

/-- The hypotheses of the clauses of WicksAreTestedAndRestored are met. -/
theorem witness_wicksAreTestedAndRestored :
    (∃ (s : State) (m : Master) (w : Wick), s.MayWrite m 0 0x04C ∧ (s.arb.testing.has w.idx = true ∨ s.bist.isSome = true)) ∧
    (∃ (s : State) (m : Master) (w : Wick), s.MayWrite m 0 0x04C ∧ s.arb.testing.has w.idx = false ∧ s.bist = none ∧ s.role w = .cold ∧ s.bistConditions true = true) ∧
    (∃ (s : State) (m : Master) (w : Wick), s.MayWrite m 0 0x04C ∧ s.arb.testing.has w.idx = false ∧ s.bist = none ∧ s.role w ≠ .cold) ∧
    (∃ (s : State) (w : Wick) (b : Nat), s.arb.testing.has w.idx = false ∧ s.bist = none ∧ s.role w = .cold ∧ s.bistConditions true = true ∧ (s.arb.retest.get? w.idx = some b ∨ (s.arb.retest.get? w.idx = none ∧ s.testDue w = some b)) ∧ b ≤ s.base) ∧
    (∃ (s : State) (w : Wick), s.arb.testing.has w.idx = true) ∧
    (∃ (s : State) (m : Master) (w : Wick), s.MayWrite m 0 0x04C ∧ (s.role w = .cold ∨ s.role w = .failed ∨ s.role w = .snowdrop)) ∧
    (∃ (s : State) (m : Master) (w : Wick), s.MayWrite m 0 0x04C ∧ (¬ (s.role w = .cold ∨ s.role w = .failed ∨ s.role w = .snowdrop))) ∧
    (∃ (s : State) (m : Master), s.MayWrite m 0 0x04C) ∧
    (∃ (s : State), s.arb.hour < s.base / 117964800) ∧
    (∃ (s : State), let w := if s.arb.triedWick = 0 then .b else .a; s.arb.noController = true ∧ s.arb.tried + 32768 * 600 ≤ s.base ∧ s.controller = none ∧ s.incoming = none ∧ s.barred w = true) ∧
    (∃ (s : State) (m : Master), s.MayWrite m 0 0x044) :=
  ⟨⟨{ rdy with arb := { rdy.arb with testing := [(1, 5)] } }, Master.hostS, Wick.b, by simp only [State.MayWrite]; decide +kernel⟩,
   ⟨(rdy.setAll [(PWR.VIN_MV, 10000)]), Master.hostS, Wick.b, by simp only [State.MayWrite]; decide +kernel⟩,
   ⟨rdy, Master.hostS, Wick.a, by simp only [State.MayWrite]; decide +kernel⟩,
   ⟨{ (rdy.setAll [(PWR.VIN_MV, 34000)]) with arb := { rdy.arb with retest := [(1, 4000000)] } }, Wick.b, 4000000, by decide +kernel⟩,
   ⟨{ rdy with arb := { rdy.arb with testing := [(1, 5)] } }, Wick.b, by decide +kernel⟩,
   ⟨rdy, Master.hostS, Wick.b, by simp only [State.MayWrite]; decide +kernel⟩,
   ⟨rdy, Master.hostS, Wick.a, by simp only [State.MayWrite]; decide +kernel⟩,
   ⟨rdy, Master.hostS, by simp only [State.MayWrite]; decide +kernel⟩,
   ⟨{ rdy with base := 117964800 * 2, arb := { rdy.arb with hour := 1, buckets := [(7, [3, 4])] } }, by decide +kernel⟩,
   ⟨{ (rdy.setAll [(PILOT.BOOT_FAILS 0, 3), (PILOT.SNOW_FAILS 0, 3)]) with base := 32768 * 600, roleA := .failed, roleB := .failed, arb := { rdy.arb with noController := true, triedWick := 1 } }, by decide +kernel⟩,
   ⟨rdy, Master.hostS, by simp only [State.MayWrite]; decide +kernel⟩⟩

/-- The hypotheses of the clauses of FabricFramesAreTakenIn are met. -/
theorem witness_fabricFramesAreTakenIn :
    (∃ (s : State) (x : FabRx), let num := fun (off n : Nat) => leNat ((x.frame.drop off).take n); let taken := s.fabRuns = true ∧ s.portRuns x.port.val = true ∧ s.fabKeyed = true ∧ (x.frame.take 6 = fabGroup ∨ x.frame.take 6 = macOf s.uid) ∧ leNat ((x.frame.drop 12).take 2).reverse = s.get (FABRIC.ETHERTYPE s.cw) ∧ num 14 1 % 16 = 0 ∧ num 28 2 ≤ 1400 ∧ 38 + num 28 2 ≤ x.frame.length; ¬ taken) ∧
    (∃ (s : State) (x : FabRx), let num := fun (off n : Nat) => leNat ((x.frame.drop off).take n); let taken := s.fabRuns = true ∧ s.portRuns x.port.val = true ∧ s.fabKeyed = true ∧ (x.frame.take 6 = fabGroup ∨ x.frame.take 6 = macOf s.uid) ∧ leNat ((x.frame.drop 12).take 2).reverse = s.get (FABRIC.ETHERTYPE s.cw) ∧ num 14 1 % 16 = 0 ∧ num 28 2 ≤ 1400 ∧ 38 + num 28 2 ≤ x.frame.length; taken) :=
  ⟨⟨rdy, { port := 0, uid := 77, frame := [] }, by decide +kernel⟩,
   ⟨fab0, { port := 0, uid := 77, frame := fabGroup ++ leBytes 6 1 ++ (leBytes 2 (rdy.get (FABRIC.ETHERTYPE .a))).reverse ++ leBytes 1 0 ++ leBytes 1 1 ++ leBytes 40 0 }, by decide +kernel⟩⟩

/-- The hypotheses of the clauses of FabricKeepsItsRoutes are met. -/
theorem witness_fabricKeepsItsRoutes :
    (∃ (s : State) (m : Master) (w : Wick), s.MayWrite m (w.page 0xB) 0x040 ∧ s.isController w = true) ∧
    (∃ (s : State), s.routes = true ∧ (s.due tmLsa = true ∨ s.armed tmLsa = false)) ∧
    (∃ (s : State) (link : Fin 3), s.linkRuns link.val = true ∧ s.fabKeyed = true ∧ (s.due (tmHello link.val) = true ∨ s.armed (tmHello link.val) = false) ∧ link.val < 2) ∧
    (∃ (s : State) (link : Fin 3) (c : _), s.linkRuns link.val = true ∧ s.fabKeyed = true ∧ (s.due (tmHello link.val) = true ∨ s.armed (tmHello link.val) = false) ∧ let m : FabMsg := { ltype := 1, odest := 0xFFFF, osrc := s.fabAddr, hops := 0, body := s.helloBody link.val, via := none }; let f : OutFrame := { ty := 0xF, dest := 0xFFFF, seq := 0, retry := 0, ackReq := false, copy := false, keySel := 0, nodeId := 0, joinKey := [], ttl := 0, payload := leBytes 1 1 ++ leBytes 2 0xFFFF ++ leBytes 2 s.fabAddr ++ leBytes 2 0 ++ m.body }; link.val = 2 ∧ s.active.airChan = some c ∧ s.radioFree s.cw = true ∧ s.grant? s.cw = none ∧ s.closeBuckets.ledgerCode s.cw { channel := c, cls := 1, psdu := f.psduLen, wake := 0, air := true } = 0) ∧
    (∃ (s : State), s.fabRuns = true ∧ (∃ n ∈ s.fab.neighbours, n.absentAt ≤ s.base)) ∧
    (∃ (s : State) (p : Fin 2) (b : Nat), s.fab.conflicts.get? p.val = some b ∧ b + 32768 * 10 ≤ s.base) ∧
    (∃ (s : State), s.fab.stale = true ∧ s.routes = true) ∧
    (∃ (s : State), s.pdOn 11 = true) ∧
    (∃ (s : State) (same : List (Fin 3 × BitVec 64)), let heard := fun (n : Neighbour) => ∃ y ∈ same, y.1.val = n.link ∧ y.2.toNat = n.uid; s.fabRuns = true ∧ (∃ n ∈ s.fab.neighbours, n.absentAt ≤ s.base ∧ ¬ heard n)) :=
  ⟨⟨rdy, Master.hostS, Wick.a, by simp only [State.MayWrite]; decide +kernel⟩,
   ⟨lnk, by decide +kernel⟩,
   ⟨fab0, (1 : Fin 3), by decide +kernel⟩,
   ⟨(lnk.setAll [(FABRIC.AIR_EN .a, 1)]), (2 : Fin 3), (((lnk.setAll [(FABRIC.AIR_EN .a, 1)])).active.airChan).get rfl, by decide +kernel⟩,
   ⟨{ rdy with fab := { rdy.fab with neighbours := [{ uid := 77, link := 0, addr := 8, seg := 9, interval := 1000, clockClass := 6, tflags := 1, rssi := 0, since := 5, up := true }] } }, by decide +kernel⟩,
   ⟨{ rdy with base := 327680, fab := { rdy.fab with conflicts := [(1, 0)] } }, (1 : Fin 2), (({ rdy with base := 327680, fab := { rdy.fab with conflicts := [(1, 0)] } }).fab.conflicts.get? ((1 : Fin 2)).val).get rfl, by decide +kernel⟩,
   ⟨{ lnk with fab := { rdy.fab with stale := true } }, by decide +kernel⟩,
   ⟨rdy, by decide +kernel⟩,
   ⟨{ rdy with fab := { rdy.fab with neighbours := [nb0] } }, [], ⟨by decide +kernel, nb0, List.mem_singleton.mpr rfl, by decide +kernel, fun h => by obtain ⟨y, hy, _⟩ := h; cases hy⟩⟩⟩

/-- The hypotheses of the clauses of MessagesAreForwarded are met. -/
theorem witness_messagesAreForwarded :
    (∃ (s : State) (m : FabMsg) (l : List FabMsg) (r : _), s.fab.queue = m :: l ∧ m.via = none ∧ s.routes = true ∧ m.odest ≠ s.fabAddr ∧ s.fabKeyed = true ∧ s.routeOf m.odest m.body.length = some r ∧ r.link ≠ 2 ∧ s.portRuns r.link = true) ∧
    (∃ (s : State) (m : FabMsg) (l : List FabMsg), s.fab.queue = m :: l ∧ m.via = none ∧ s.routes = true ∧ m.odest ≠ s.fabAddr ∧ s.fabKeyed = true ∧ s.routeOf m.odest m.body.length = none) ∧
    (∃ (s : State), s.fab.queue = []) ∧
    (∃ (s : State) (n : Nat) (next : Nat), s.fabRuns = true ∧ s.on (FABRIC.EVT_FWD_EN s.cw) = true ∧ s.get (FABRIC.EVT_FWD_ADDR s.cw) ≠ 0 ∧ s.log.newest = some n ∧ s.fab.fwdNext = some next ∧ seqAhead n next < 65536 ∧ seqAhead next s.fab.fwdAcked < 9 ∧ next < 2 ^ 32) ∧
    (∃ (s : State) (n : Nat) (next : Nat), s.fabRuns = true ∧ s.on (FABRIC.EVT_FWD_EN s.cw) = true ∧ s.get (FABRIC.EVT_FWD_ADDR s.cw) ≠ 0 ∧ s.log.newest = some n ∧ s.fab.fwdNext = some next ∧ next = (s.fab.fwdAcked + 2) % 2 ^ 32 ∧ s.fab.fwdAcked < 2 ^ 32 ∧ seqAhead n ((s.fab.fwdAcked + 1) % 2 ^ 32) < 65536 ∧ s.fab.fwdSince + 32768 * 10 ≤ s.base) ∧
    (∃ (s : State) (m : FabMsg) (l : List FabMsg) (link : _) (addr : _), s.fabRuns = true ∧ s.fab.queue = m :: l ∧ m.via = some (link, addr)) ∧
    (∃ (s : State) (m : FabMsg) (l : List FabMsg) (r : _), s.fabRuns = true ∧ s.fab.queue = m :: l ∧ m.via = none ∧ s.routes = true ∧ m.odest ≠ s.fabAddr ∧ s.routeOf m.odest m.body.length = some r) ∧
    (∃ (s : State) (m : FabMsg) (l : List FabMsg), s.fabRuns = true ∧ s.fab.queue = m :: l ∧ m.via = none ∧ (s.routes = false ∨ m.odest = s.fabAddr)) :=
  ⟨⟨{ fab0 with fab := { rdy.fab with small := [(9, { cost := 1, hops := 1, next := 8, link := 1 })], queue := [{ ltype := 0x14, odest := 9, osrc := 7, hops := 0, body := [1, 2], via := none }] } }, { ltype := 0x14, odest := 9, osrc := 7, hops := 0, body := [1, 2], via := none }, [], { cost := 1, hops := 1, next := 8, link := 1 }, by decide +kernel⟩,
   ⟨{ lnk with fab := { rdy.fab with queue := [{ ltype := 0x14, odest := 9, osrc := 7, hops := 0, body := [1, 2], via := none }] } }, { ltype := 0x14, odest := 9, osrc := 7, hops := 0, body := [1, 2], via := none }, [], by decide +kernel⟩,
   ⟨rdy, by decide +kernel⟩,
   ⟨{ (lnk.setAll [(FABRIC.EVT_FWD_EN .a, 1), (FABRIC.EVT_FWD_ADDR .a, 9)]) with log := { rdy.log with newest := some 20 }, fab := { rdy.fab with fwdNext := some 14, fwdAcked := 6 } }, (({ (lnk.setAll [(FABRIC.EVT_FWD_EN .a, 1), (FABRIC.EVT_FWD_ADDR .a, 9)]) with log := { rdy.log with newest := some 20 }, fab := { rdy.fab with fwdNext := some 14, fwdAcked := 6 } }).log.newest).get rfl, (({ (lnk.setAll [(FABRIC.EVT_FWD_EN .a, 1), (FABRIC.EVT_FWD_ADDR .a, 9)]) with log := { rdy.log with newest := some 20 }, fab := { rdy.fab with fwdNext := some 14, fwdAcked := 6 } }).fab.fwdNext).get rfl, by decide +kernel⟩,
   ⟨{ (lnk.setAll [(FABRIC.EVT_FWD_EN .a, 1), (FABRIC.EVT_FWD_ADDR .a, 9)]) with log := { rdy.log with newest := some 20 }, fab := { rdy.fab with fwdNext := some 8, fwdAcked := 6 } }, (({ (lnk.setAll [(FABRIC.EVT_FWD_EN .a, 1), (FABRIC.EVT_FWD_ADDR .a, 9)]) with log := { rdy.log with newest := some 20 }, fab := { rdy.fab with fwdNext := some 8, fwdAcked := 6 } }).log.newest).get rfl, (({ (lnk.setAll [(FABRIC.EVT_FWD_EN .a, 1), (FABRIC.EVT_FWD_ADDR .a, 9)]) with log := { rdy.log with newest := some 20 }, fab := { rdy.fab with fwdNext := some 8, fwdAcked := 6 } }).fab.fwdNext).get rfl, by decide +kernel⟩,
   ⟨{ lnk with fab := { rdy.fab with queue := [{ ltype := 0x14, odest := 9, osrc := 7, hops := 0, body := [1, 2], via := some (0, 8) }] } }, { ltype := 0x14, odest := 9, osrc := 7, hops := 0, body := [1, 2], via := some (0, 8) }, [], 0, 8, by decide +kernel⟩,
   ⟨{ fab0 with fab := { rdy.fab with small := [(9, { cost := 1, hops := 1, next := 8, link := 1 })], queue := [{ ltype := 0x14, odest := 9, osrc := 7, hops := 0, body := [1, 2], via := none }] } }, { ltype := 0x14, odest := 9, osrc := 7, hops := 0, body := [1, 2], via := none }, [], { cost := 1, hops := 1, next := 8, link := 1 }, by decide +kernel⟩,
   ⟨{ lnk with fab := { rdy.fab with queue := [{ ltype := 0x14, odest := 7, osrc := 7, hops := 0, body := [1, 2], via := none }] } }, { ltype := 0x14, odest := 7, osrc := 7, hops := 0, body := [1, 2], via := none }, [], by decide +kernel⟩⟩

/-- The hypotheses of the clauses of RemoteAccessAsksAndAnswers are met. -/
theorem witness_remoteAccessAsksAndAnswers :
    (∃ (s : State) (m : Master) (w : Wick) (c : Instr) (n : Nat), (c, n) ∈ [(Instr.rpaRead m w, 1), (.rpaWrite m w, 2), (.rpaOpenChal m w, 3), (.rpaOpen m w, 4), (.rpaClose m w, 5)] ∧ s.MayWrite m (w.page 0xB) 0x114 ∧ s.isController w = true ∧ s.get (FABRIC.RPA_STATUS w) = 1) ∧
    (∃ (s : State) (m : Master) (w : Wick) (c : Instr) (n : Nat), (c, n) ∈ [(Instr.rpaRead m w, 1), (.rpaWrite m w, 2), (.rpaOpenChal m w, 3), (.rpaOpen m w, 4), (.rpaClose m w, 5)] ∧ s.MayWrite m (w.page 0xB) 0x114 ∧ s.isController w = true ∧ s.get (FABRIC.RPA_STATUS w) ≠ 1 ∧ (s.fabRuns = false ∨ s.get (FABRIC.RPA_TARGET w) = s.fabAddr)) ∧
    (∃ (s : State) (m : Master) (w : Wick) (c : Instr) (n : Nat), (c, n) ∈ [(Instr.rpaRead m w, 1), (.rpaWrite m w, 2), (.rpaOpenChal m w, 3), (.rpaOpen m w, 4), (.rpaClose m w, 5)] ∧ s.MayWrite m (w.page 0xB) 0x114 ∧ s.isController w = true ∧ s.get (FABRIC.RPA_STATUS w) ≠ 1 ∧ s.fabRuns = true ∧ s.get (FABRIC.RPA_TARGET w) ≠ s.fabAddr ∧ s.routeOf (s.get (FABRIC.RPA_TARGET w)) (s.rpaBody w n).length = none) ∧
    (∃ (s : State) (m : Master) (w : Wick) (c : Instr) (n : Nat) (r : _), (c, n) ∈ [(Instr.rpaRead m w, 1), (.rpaWrite m w, 2), (.rpaOpenChal m w, 3), (.rpaOpen m w, 4), (.rpaClose m w, 5)] ∧ s.MayWrite m (w.page 0xB) 0x114 ∧ s.isController w = true ∧ s.get (FABRIC.RPA_STATUS w) ≠ 1 ∧ s.fabRuns = true ∧ s.get (FABRIC.RPA_TARGET w) ≠ s.fabAddr ∧ s.routeOf (s.get (FABRIC.RPA_TARGET w)) (s.rpaBody w n).length = some r) ∧
    (∃ (s : State) (r : RpaOut), s.fab.rpa = some r ∧ r.since + millis (s.get (FABRIC.RPA_TIMEOUT_MS s.cw)) ≤ s.base) ∧
    (∃ (s : State), s.fab.remote.state = 2 ∧ s.fab.remote.since + 32768 * s.get (FABRIC.RPA_IDLE_S s.cw) ≤ s.base) :=
  ⟨⟨(lnk.setAll [(FABRIC.RPA_STATUS .a, 1), (FABRIC.RPA_TARGET .a, 9)]), Master.hostS, Wick.a, _, _, ⟨List.Mem.head _, by simp only [State.MayWrite]; decide +kernel⟩⟩,
   ⟨rdy, Master.hostS, Wick.a, _, _, ⟨List.Mem.head _, by simp only [State.MayWrite]; decide +kernel⟩⟩,
   ⟨(lnk.setAll [(FABRIC.RPA_STATUS .a, 0), (FABRIC.RPA_TARGET .a, 9)]), Master.hostS, Wick.a, _, _, ⟨List.Mem.head _, by simp only [State.MayWrite]; decide +kernel⟩⟩,
   ⟨({ lnk with fab := { rdy.fab with small := [(9, { cost := 1, hops := 1, next := 8, link := 0 })], big := [(9, { cost := 1, hops := 1, next := 8, link := 0 })] } }.setAll [(FABRIC.RPA_STATUS .a, 0), (FABRIC.RPA_TARGET .a, 9)]), Master.hostS, Wick.a, _, _, { cost := 1, hops := 1, next := 8, link := 0 }, ⟨List.Mem.head _, by simp only [State.MayWrite]; decide +kernel⟩⟩,
   ⟨{ (rdy.setAll [(FABRIC.RPA_TIMEOUT_MS .a, 100)]) with fab := { rdy.fab with rpa := some { ctr := 3, cmd := 1, since := 5 } } }, (({ (rdy.setAll [(FABRIC.RPA_TIMEOUT_MS .a, 100)]) with fab := { rdy.fab with rpa := some { ctr := 3, cmd := 1, since := 5 } } }).fab.rpa).get rfl, by decide +kernel⟩,
   ⟨{ (rdy.setAll [(FABRIC.RPA_IDLE_S .a, 10)]) with fab := { rdy.fab with remote := { rdy.fab.remote with state := 2 } } }, by decide +kernel⟩⟩

/-- The hypotheses of the clauses of TimeFollowsItsSources are met. -/
theorem witness_timeFollowsItsSources :
    (∃ (s : State) (p : Fin 2) (a : _), s.portRuns p.val = true ∧ (∀ y, (s.port p.val).foreign = some y → y.sender = a.sender ∨ before (clockRank a) (clockRank y) = true)) ∧
    (∃ (s : State) (p : Fin 2) (d : _), s.portRuns p.val = true ∧ (s.port p.val).state = 3 ∧ (s.port p.val).delay = some d) ∧
    (∃ (s : State) (p : Fin 2) (seq : _) (t2 : _) (d : _), s.portRuns p.val = true ∧ (s.port p.val).state = 3 ∧ (s.port p.val).delay = some d ∧ (s.port p.val).sync = some (seq, t2)) ∧
    (∃ (s : State) (p : Fin 2) (seq : Nat) (q : Nat) (t1 : Int) (t2 : Int) (t3 : Int), s.portRuns p.val = true ∧ (s.port p.val).state = 3 ∧ (s.port p.val).sync = some (q, t2) ∧ (s.port p.val).t1 = some t1 ∧ (s.port p.val).t3 = some (seq, t3)) ∧
    (∃ (s : State) (p : Fin 2), s.portRuns p.val = true ∧ (s.port p.val).state = 2) ∧
    (∃ (s : State) (p : Fin 2) (k : PtpTx) (key : Nat) (state : Nat) (span : Nat), s.portRuns p.val = true ∧ (s.port p.val).state = state ∧ (k, key, state, span) ∈ [(PtpTx.sync, 0, 2, 1), (.announce, 1, 2, 2), (.delayReq, 2, 3, 1)] ∧ (∀ n b, (s.port p.val).sent.get? key = some (n, b) → b + 32768 * span ≤ s.base)) ∧
    (∃ (s : State) (p : Fin 2), s.due (tmAnnounce p.val) = true) ∧
    (∃ (s : State), s.on TIME.GNSS_EN = true) ∧
    (∃ (s : State) (ok : Bool), s.on TIME.GNSS_EN = true ∧ ok = false) ∧
    (∃ (s : State) (ok : Bool) (utc : BitVec 48) (e : _) (n : _), s.on TIME.GNSS_EN = true ∧ ok = true ∧ s.clock.gnss.edge = some e ∧ e + millis 10 ≤ s.base ∧ s.base ≤ e + millis 950 ∧ s.clock.gnss.named = false ∧ s.clock.gnss.name = some n ∧ utc.toNat = n + 1) ∧
    (∃ (s : State) (ok : Bool) (utc : BitVec 48) (e : _) (n : _), s.on TIME.GNSS_EN = true ∧ ok = true ∧ s.clock.gnss.edge = some e ∧ e + millis 10 ≤ s.base ∧ s.base ≤ e + millis 950 ∧ s.clock.gnss.named = false ∧ s.clock.gnss.name = some n ∧ utc.toNat ≠ n + 1) ∧
    (∃ (s : State), s.clock.gnss.valid = true ∧ (s.clock.gnss.edge.getD 0 + 32768 * 3 ≤ s.base ∨ s.clock.gnss.agreed + 32768 * 3 ≤ s.base)) ∧
    (∃ (s : State), s.clock.chosen + 32768 ≤ s.base) ∧
    (∃ (s : State) (m : Master), s.MayWrite m 0xD 0x044) ∧
    (∃ (s : State) (m : Master) (gained : Bool), s.MayWrite m 0xD 0x008 ∧ (m = .hostS ∨ m = .remote) ∧ (gained = true ∨ s.pickSource ≤ 2 ∨ s.get TIME.SOURCE ≤ 2)) ∧
    (∃ (s : State) (m : Master) (gained : Bool), s.MayWrite m 0xD 0x008 ∧ (m = .hostS ∨ m = .remote) ∧ gained = false ∧ 3 ≤ s.pickSource ∧ 3 ≤ s.get TIME.SOURCE) ∧
    (∃ (s : State) (m : Master), s.MayWrite m 0xD 0x008 ∧ m ≠ .hostS ∧ m ≠ .remote) ∧
    (∃ (s : State) (p : Fin 2) (d : _), s.portRuns p.val = true ∧ ((s.port p.val).state ≠ 2 ∨ d ≠ s.get TIME.DOMAIN)) :=
  ⟨⟨{ fab0 with clock := { rdy.clock with ports := [(0, { PtpPort.off with foreign := none })] } }, (0 : Fin 2), ann0, by decide +kernel⟩,
   ⟨{ fab0 with clock := { rdy.clock with ports := [(0, { PtpPort.off with state := 3, delay := some 5, sync := some (4, 100), t1 := some 5, t3 := some (4, 120) })] } }, (0 : Fin 2), 5, by decide +kernel⟩,
   ⟨{ fab0 with clock := { rdy.clock with ports := [(0, { PtpPort.off with state := 3, delay := some 5, sync := some (4, 100), t1 := some 5, t3 := some (4, 120) })] } }, (0 : Fin 2), 4, 100, 5, by decide +kernel⟩,
   ⟨{ fab0 with clock := { rdy.clock with ports := [(0, { PtpPort.off with state := 3, delay := some 5, sync := some (4, 100), t1 := some 5, t3 := some (4, 120) })] } }, (0 : Fin 2), 4, 4, 5, 100, 120, by decide +kernel⟩,
   ⟨{ fab0 with clock := { rdy.clock with ports := [(0, { PtpPort.off with state := 2 })] } }, (0 : Fin 2), by decide +kernel⟩,
   ⟨{ fab0 with clock := { rdy.clock with ports := [(0, { PtpPort.off with state := 2 })] } }, (0 : Fin 2), .sync, 0, 2, 1, ⟨by decide +kernel, by decide +kernel, by decide +kernel, fun n b h => by
      have h' : (none : Option (Nat × Nat)) = some (n, b) := h
      cases h'⟩⟩,
   ⟨{ rdy with timers := [(tmAnnounce 1, 4000000)] }, (1 : Fin 2), by decide +kernel⟩,
   ⟨{ (rdy.setAll [(TIME.GNSS_EN, 1)]) with clock := { rdy.clock with gnss := { rdy.clock.gnss with edge := none } } }, by decide +kernel⟩,
   ⟨{ (rdy.setAll [(TIME.GNSS_EN, 1)]) with clock := { rdy.clock with gnss := { rdy.clock.gnss with edge := none } } }, false, by decide +kernel⟩,
   ⟨{ (rdy.setAll [(TIME.GNSS_EN, 1)]) with clock := { rdy.clock with gnss := { rdy.clock.gnss with edge := some (4000000 - millis 950), name := some 7 } } }, true, (8 : BitVec 48), (({ (rdy.setAll [(TIME.GNSS_EN, 1)]) with clock := { rdy.clock with gnss := { rdy.clock.gnss with edge := some (4000000 - millis 950), name := some 7 } } }).clock.gnss.edge).get rfl, (({ (rdy.setAll [(TIME.GNSS_EN, 1)]) with clock := { rdy.clock with gnss := { rdy.clock.gnss with edge := some (4000000 - millis 950), name := some 7 } } }).clock.gnss.name).get rfl, by decide +kernel⟩,
   ⟨{ (rdy.setAll [(TIME.GNSS_EN, 1)]) with clock := { rdy.clock with gnss := { rdy.clock.gnss with edge := some (4000000 - millis 950), name := some 7 } } }, true, (9 : BitVec 48), (({ (rdy.setAll [(TIME.GNSS_EN, 1)]) with clock := { rdy.clock with gnss := { rdy.clock.gnss with edge := some (4000000 - millis 950), name := some 7 } } }).clock.gnss.edge).get rfl, (({ (rdy.setAll [(TIME.GNSS_EN, 1)]) with clock := { rdy.clock with gnss := { rdy.clock.gnss with edge := some (4000000 - millis 950), name := some 7 } } }).clock.gnss.name).get rfl, by decide +kernel⟩,
   ⟨{ (rdy.setAll [(TIME.GNSS_EN, 1)]) with clock := { rdy.clock with gnss := { rdy.clock.gnss with valid := true, edge := some (4000000 - 32768 * 3), agreed := 4000000 } } }, by decide +kernel⟩,
   ⟨rdy, by decide +kernel⟩,
   ⟨rdy, Master.hostS, by simp only [State.MayWrite]; decide +kernel⟩,
   ⟨{ (rdy.setAll [(TIME.GNSS_EN, 1)]) with clock := { rdy.clock with gnss := { rdy.clock.gnss with valid := true } } }, Master.hostS, false, by simp only [State.MayWrite]; decide +kernel⟩,
   ⟨rdy, Master.hostS, false, by simp only [State.MayWrite]; decide +kernel⟩,
   ⟨rdy, Master.mss, by simp only [State.MayWrite]; decide +kernel⟩,
   ⟨{ fab0 with clock := { rdy.clock with ports := [(0, { PtpPort.off with state := 2 })] } }, (0 : Fin 2), 200, by decide +kernel⟩⟩

/-- The hypotheses of the clauses of SuppliesAreFollowed are met. -/
theorem witness_suppliesAreFollowed :
    (∃ (mv : BitVec 16), mv.toNat < 8800) ∧
    (∃ (s : State) (mv : BitVec 16), 8800 ≤ mv.toNat ∧ s.pdOn 0 = true) ∧
    (∃ (s : State) (mv : BitVec 16), 8800 ≤ mv.toNat ∧ s.pdOn 0 = false) ∧
    (∃ (s : State), s.pdOn 0 = false) ∧
    (∃ (s : State), s.pdOn 0 = true) ∧
    (∃ (mv : BitVec 16), mv.toNat < 1600) ∧
    (∃ (mv : BitVec 16), 1600 ≤ mv.toNat) ∧
    (∃ (s : State), s.vauxOn = true) ∧
    (∃ (s : State), s.vauxOn = false) ∧
    (∃ (s : State) (mv : BitVec 16), 1600 ≤ mv.toNat ∧ (s.on PWR.PFAIL_LEVEL = false ∨ s.pdOn 0 = false ∨ s.power.started = false ∨ s.saving = true)) :=
  ⟨⟨(8799 : BitVec 16), by decide +kernel⟩,
   ⟨rdy, (8800 : BitVec 16), by decide +kernel⟩,
   ⟨(rdy.setAll [(PWR.PD_ON, 0)]), (8800 : BitVec 16), by decide +kernel⟩,
   ⟨(rdy.setAll [(PWR.PD_ON, 0)]), by decide +kernel⟩,
   ⟨rdy, by decide +kernel⟩,
   ⟨(1599 : BitVec 16), by decide +kernel⟩,
   ⟨(1600 : BitVec 16), by decide +kernel⟩,
   ⟨(rdy.setAll [(PWR.VAUX_EN, 1)]), by decide +kernel⟩,
   ⟨rdy, by decide +kernel⟩,
   ⟨rdy, 1600, by decide +kernel⟩⟩

/-- The hypotheses of the clauses of ModuleStartsWarmAWick are met. -/
theorem witness_moduleStartsWarmAWick :
    (∃ (s : State) (pfailHigh : Bool), s.on PWR.VIN_OK = true ∧ s.pdOn 0 = true ∧ s.power.started = false ∧ s.saving = false ∧ (pfailHigh = true ∨ s.on PWR.VIO_OK = false)) ∧
    (∃ (s : State), (s.on PWR.VIN_OK = false ∨ s.pdOn 0 = false ∨ s.power.started = true ∨ s.saving = true)) ∧
    (∃ (s : State) (mv : BitVec 16), s.pdOn 0 = true ∧ (mv.toNat < 11500 ∨ s.power.waiting = false)) ∧
    (∃ (s : State) (mv : BitVec 16), s.pdOn 0 = true ∧ 11500 ≤ mv.toNat ∧ s.power.waiting = true ∧ s.roleA = .off ∧ s.roleB = .off ∧ s.eligibility s.prefWick = 0) ∧
    (∃ (s : State), s.power.waiting = true ∧ s.holdWaited = true ∧ s.on PWR.HOLD_READY = false ∧ s.roleA = .off ∧ s.roleB = .off ∧ s.eligibility s.prefWick = 0) ∧
    (∃ (s : State), (s.power.waiting = false ∨ s.holdWaited = false ∨ s.on PWR.HOLD_READY = true)) ∧
    (∃ (s : State) (resetHigh : Bool) (pfailHigh : Bool), s.pdOn 0 = true ∧ (s.on PWR.VIN_OK = false ∨ s.power.started = true ∨ s.saving = true ∨ resetHigh = false ∨ (pfailHigh = false ∧ s.on PWR.VIO_OK = true))) :=
  ⟨⟨{ rdy with power := { rdy.power with started := false } }, true, by decide +kernel⟩,
   ⟨rdy, by decide +kernel⟩,
   ⟨rdy, (7 : BitVec 16), by decide +kernel⟩,
   ⟨{ rdy with roleA := .off, roleB := .off, power := { rdy.power with waiting := true } }, (11500 : BitVec 16), by decide +kernel⟩,
   ⟨{ (rdy.setAll [(PWR.HOLD_READY, 0), (PWR.HOLD_WAIT_S, 10)]) with roleA := .off, roleB := .off, power := { rdy.power with waiting := true, startBase := 0 } }, by decide +kernel⟩,
   ⟨rdy, by decide +kernel⟩,
   ⟨rdy, true, true, by decide +kernel⟩⟩

/-- The hypotheses of the clauses of SavesEndWithPilotAlone are met. -/
theorem witness_savesEndWithPilotAlone :
    (∃ (s : State), s.power.started = true ∧ s.saving = false) ∧
    (∃ (s : State), (s.power.started = false ∨ s.saving = true)) ∧
    (∃ (s : State), s.power.started = true ∧ s.saving = false ∧ s.on PWR.VIO_OK = true ∧ s.pdOn 0 = true) ∧
    (∃ (s : State), s.pdOn 0 = true ∧ (s.on PWR.VIO_OK = false ∨ s.power.started = false ∨ s.saving = true)) ∧
    (∃ (s : State) (mv : BitVec 16), mv.toNat < 8500 ∧ s.power.started = true ∧ s.saving = false) ∧
    (∃ (mv : BitVec 16), 8500 ≤ mv.toNat) ∧
    (∃ (s : State), s.saving = false) ∧
    (∃ (s : State), s.saving = true) ∧
    (∃ (s : State), s.saving = false) ∧
    (∃ (s : State), s.saving = true) ∧
    (∃ (s : State) (mv : BitVec 16), mv.toNat < 7000 ∧ s.get PWR.VIN_MV < 8500 ∧ s.pdOn 0 = true) ∧
    (∃ (s : State) (mv : BitVec 16), (7000 ≤ mv.toNat ∨ 8500 ≤ s.get PWR.VIN_MV ∨ s.pdOn 0 = false)) ∧
    (∃ (s : State) (m : Master), s.MayWrite m 1 0x05C ∧ (m = .mss ∨ m = .hostS)) ∧
    (∃ (s : State) (m : Master), s.MayWrite m 1 0x05C ∧ m ≠ .mss ∧ m ≠ .hostS) ∧
    (∃ (s : State) (m : Master) (b : _), s.MayWrite m 1 0x05C ∧ (m = .mss ∨ m = .hostS) ∧ s.power.frKey.get? m.id = some b ∧ s.base ≤ b + secs 1) ∧
    (∃ (s : State) (m : Master), s.MayWrite m 1 0x05C ∧ (m = .mss ∨ m = .hostS) ∧ (∀ b, s.power.frKey.get? m.id = some b → b + secs 1 < s.base)) ∧
    (∃ (s : State) (mv : BitVec 16), 1600 ≤ mv.toNat ∧ s.on PWR.PFAIL_LEVEL = true ∧ s.pdOn 0 = true ∧ s.power.started = true ∧ s.saving = false) :=
  ⟨⟨rdy, by decide +kernel⟩,
   ⟨State.reset, by decide +kernel⟩,
   ⟨rdy, by decide +kernel⟩,
   ⟨rdy.set PWR.VIO_OK 0, by decide +kernel⟩,
   ⟨rdy, (8499 : BitVec 16), by decide +kernel⟩,
   ⟨(8500 : BitVec 16), by decide +kernel⟩,
   ⟨rdy, by decide +kernel⟩,
   ⟨{ rdy with saving := true }, by decide +kernel⟩,
   ⟨rdy, by decide +kernel⟩,
   ⟨{ rdy with saving := true }, by decide +kernel⟩,
   ⟨rdy, (6999 : BitVec 16), by decide +kernel⟩,
   ⟨rdy, (7000 : BitVec 16), by decide +kernel⟩,
   ⟨rdy, Master.hostS, by simp only [State.MayWrite]; decide +kernel⟩,
   ⟨rdy, Master.remote, by simp only [State.MayWrite]; decide +kernel⟩,
   ⟨{ rdy with power := { rdy.power with frKey := [(4, 4000000 - secs 1)] } }, Master.hostS, (({ rdy with power := { rdy.power with frKey := [(4, 4000000 - secs 1)] } }).power.frKey.get? (Master.hostS).id).get rfl, by simp only [State.MayWrite]; decide +kernel⟩,
   ⟨rdy, Master.hostS, by simp only [State.MayWrite]; decide +kernel⟩,
   ⟨rdy.set PWR.PFAIL_LEVEL 1, 1600, by decide +kernel⟩⟩

/-- The hypotheses of the clauses of ContactorsAndPinsAreWatched are met. -/
theorem witness_contactorsAndPinsAreWatched :
    (∃ (s : State) (m : Master), s.MayWrite m 0xE 0x040) ∧
    (∃ (s : State) (n : Fin 4) (v : Bool), s.pdOn 0 = true ∧ bit s.cab.kf n.val ≠ v) ∧
    (∃ (s : State) (n : Fin 4) (v : Bool), s.pdOn 0 = true ∧ bit s.cab.kf n.val = v) ∧
    (∃ (s : State) (n : Fin 4), s.pdOn 0 = true ∧ s.due (tmKf n.val) = true ∧ bit s.kfIn n.val = bit s.koState n.val ∧ bit (s.get CABINET_IO.KF_CHECK) n.val = true ∧ bit (s.get CABINET_IO.KO_MISMATCH) n.val = false) ∧
    (∃ (s : State) (n : Fin 4), s.pdOn 0 = true ∧ s.due (tmKf n.val) = true ∧ bit s.kfIn n.val ≠ bit s.koState n.val) ∧
    (∃ (s : State), s.pdOn 0 = true ∧ s.on PWR.VIO_OK = true) ∧
    (∃ (s : State), (s.pdOn 0 = false ∨ s.on PWR.VIO_OK = false)) ∧
    (∃ (s : State) (m : Master), s.MayWrite m 0xE 0x060) :=
  ⟨⟨rdy, Master.hostS, by simp only [State.MayWrite]; decide +kernel⟩,
   ⟨rdy, (3 : Fin 4), true, by decide +kernel⟩,
   ⟨rdy, (3 : Fin 4), false, by decide +kernel⟩,
   ⟨({ rdy with timers := [(tmKf 2, 4000000)], cab := { rdy.cab with kf := 4 } }.setAll [(CABINET_IO.KF_CHECK, 4), (CABINET_IO.KO_OUT, 4)]), (2 : Fin 4), by decide +kernel⟩,
   ⟨({ rdy with timers := [(tmKf 2, 4000000)], cab := { rdy.cab with kf := 4 } }.setAll [(CABINET_IO.KF_CHECK, 4), (CABINET_IO.KO_OUT, 0)]), (2 : Fin 4), by decide +kernel⟩,
   ⟨rdy, by decide +kernel⟩,
   ⟨State.reset, by decide +kernel⟩,
   ⟨rdy, Master.hostS, by simp only [State.MayWrite]; decide +kernel⟩⟩

/-- The hypotheses of the clauses of SerialPortsMoveBytes are met. -/
theorem witness_serialPortsMoveBytes :
    (∃ (s : State) (m : Master), s.MayWrite m 0xE 0x074 ∧ s.on CABINET_IO.UART_EN = true ∧ s.cab.tx.length < 64) ∧
    (∃ (s : State) (m : Master), s.MayWrite m 0xE 0x074 ∧ s.on CABINET_IO.UART_EN = true ∧ 64 ≤ s.cab.tx.length) ∧
    (∃ (s : State), s.uartRuns = true ∧ s.cab.tx ≠ []) ∧
    (∃ (s : State), (s.uartRuns = false ∨ s.cab.tx = [])) ∧
    (∃ (s : State), s.uartRuns = true ∧ s.cab.tx = [] ∧ s.cab.rx.length < 64) ∧
    (∃ (s : State), s.uartRuns = true ∧ s.cab.tx = [] ∧ 64 ≤ s.cab.rx.length) ∧
    (∃ (s : State), (s.uartRuns = false ∨ s.cab.tx ≠ [])) ∧
    (∃ (s : State) (m : Master) (v : Byte) (p : Bool) (f : Bool) (rest : List (Byte × Bool × Bool)), s.MayRead m 0xE ∧ s.cab.rx = (v, p, f) :: rest) ∧
    (∃ (s : State) (m : Master), s.MayRead m 0xE ∧ s.cab.rx = []) ∧
    (∃ (s : State) (m : Master), s.MayWrite m 0xE 0x008) ∧
    (∃ (s : State) (m : Master), s.MayWrite m 0xE 0x084 ∧ s.cab.csb = false ∧ (s.get CABINET_IO.CSB_WLEN ≠ 0 ∨ s.get CABINET_IO.CSB_RLEN ≠ 0) ∧ s.on CABINET_IO.CSB_EN = true ∧ s.saving = false) ∧
    (∃ (s : State) (m : Master), s.MayWrite m 0xE 0x084 ∧ (s.cab.csb = true ∨ (s.get CABINET_IO.CSB_WLEN = 0 ∧ s.get CABINET_IO.CSB_RLEN = 0))) ∧
    (∃ (s : State) (data : List Byte), s.cab.csb = true ∧ data.length ≤ 16) ∧
    (∃ (s : State), s.cab.csb = false) :=
  ⟨⟨{ (rdy.setAll [(CABINET_IO.UART_EN, 1)]) with cab := { rdy.cab with tx := List.replicate 63 1 } }, Master.hostS, by simp only [State.MayWrite]; decide +kernel⟩,
   ⟨{ (rdy.setAll [(CABINET_IO.UART_EN, 1)]) with cab := { rdy.cab with tx := List.replicate 64 1 } }, Master.hostS, by simp only [State.MayWrite]; decide +kernel⟩,
   ⟨{ (rdy.setAll [(CABINET_IO.UART_EN, 1)]) with cab := { rdy.cab with tx := [3] } }, by decide +kernel⟩,
   ⟨rdy, by decide +kernel⟩,
   ⟨{ (rdy.setAll [(CABINET_IO.UART_EN, 1)]) with cab := { rdy.cab with rx := List.replicate 63 (3, true, false) } }, by decide +kernel⟩,
   ⟨{ (rdy.setAll [(CABINET_IO.UART_EN, 1)]) with cab := { rdy.cab with rx := List.replicate 64 (3, true, false) } }, by decide +kernel⟩,
   ⟨rdy, by decide +kernel⟩,
   ⟨{ (rdy.setAll [(CABINET_IO.UART_EN, 1)]) with cab := { rdy.cab with rx := [(0xFF, true, true), (3, true, false)] } }, Master.hostS, (0xFF : Byte), true, true, [(3, true, false)], by simp only [State.MayRead]; decide +kernel⟩,
   ⟨rdy, Master.hostS, by simp only [State.MayRead]; decide +kernel⟩,
   ⟨rdy, Master.hostS, by simp only [State.MayWrite]; decide +kernel⟩,
   ⟨(rdy.setAll [(CABINET_IO.CSB_EN, 1), (CABINET_IO.CSB_RLEN, 16)]), Master.hostS, by simp only [State.MayWrite]; decide +kernel⟩,
   ⟨rdy, Master.hostS, by simp only [State.MayWrite]; decide +kernel⟩,
   ⟨{ rdy with cab := { rdy.cab with csb := true } }, List.replicate 16 9, by decide +kernel⟩,
   ⟨rdy, by decide +kernel⟩⟩

/-- The hypotheses of the clauses of VaultHoldsItsRootAndSlots are met. -/
theorem witness_vaultHoldsItsRootAndSlots :
    (∃ (s : State), s.pdOn 8 = true ∧ s.vault.root = [] ∧ s.vault.tries = 0) ∧
    (∃ (s : State), (s.pdOn 8 = false ∨ s.vault.root ≠ [] ∨ s.vault.tries ≠ 0)) ∧
    (∃ (s : State), s.pdOn 8 = true ∧ s.vault.root = [] ∧ 1 ≤ s.vault.tries ∧ s.vault.tries ≤ 3) ∧
    (∃ (s : State), (s.pdOn 8 = false ∨ s.vault.root ≠ [] ∨ s.vault.tries = 0 ∨ 4 ≤ s.vault.tries)) ∧
    (∃ (s : State) (ch : Fin 16), s.mssMessage ch.val 0x0102 = true) ∧
    (∃ (s : State) (ch : Fin 16), s.mssMessage ch.val 0x0102 = false) ∧
    (∃ (s : State) (ch : Fin 16), s.mssMessage ch.val 0x0101 = true) ∧
    (∃ (s : State), s.pdOn 8 = true ∧ s.armed tmMask = true ∧ s.due tmMask = false) ∧
    (∃ (s : State), s.pdOn 8 = true ∧ (s.armed tmMask = false ∨ s.due tmMask = true)) :=
  ⟨⟨rdy, by decide +kernel⟩,
   ⟨State.reset, by decide +kernel⟩,
   ⟨{ rdy with vault := { rdy.vault with tries := 3 } }, by decide +kernel⟩,
   ⟨rdy, by decide +kernel⟩,
   ⟨(rdy.setAll [(MBOX.PENDING 3, 1), (MBOX.ANNOUNCED 3, 1), (MBOX.RECEIVER 3, 1), (MBOX.OPCODE 3, 0x0102), (MBOX.LENGTH 3, 200)]), (3 : Fin 16), by decide +kernel⟩,
   ⟨rdy, (15 : Fin 16), by decide +kernel⟩,
   ⟨(rdy.setAll [(MBOX.PENDING 3, 1), (MBOX.ANNOUNCED 3, 1), (MBOX.RECEIVER 3, 1), (MBOX.OPCODE 3, 0x0101), (MBOX.LENGTH 3, 200)]), (3 : Fin 16), by decide +kernel⟩,
   ⟨{ rdy with timers := [(tmMask, 5000000)] }, by decide +kernel⟩,
   ⟨rdy, by decide +kernel⟩⟩

/-- The hypotheses of the clauses of KeysRollAtTheirInstant are met. -/
theorem witness_keysRollAtTheirInstant :
    (∃ (s : State) (m : Master), s.MayWrite m 9 0x058 ∧ (m = .mss ∨ m = .hostS) ∧ s.author ≠ none ∧ s.on VAULT.NEXT_READY = true ∧ s.on VAULT.ROLL_ARMED = false) ∧
    (∃ (s : State) (m : Master) (force : Bool), s.MayWrite m 9 0x058 ∧ (m = .mss ∨ m = .hostS) ∧ s.author ≠ none ∧ s.on VAULT.NEXT_READY = true ∧ s.on VAULT.ROLL_ARMED = false ∧ (s.keyLeft = [] ∨ force = true)) ∧
    (∃ (s : State) (m : Master), s.MayWrite m 9 0x058 ∧ (m = .mss ∨ m = .hostS) ∧ s.keyLeft ≠ [] ∧ s.author ≠ none ∧ s.on VAULT.NEXT_READY = true ∧ s.on VAULT.ROLL_ARMED = false) ∧
    (∃ (s : State) (m : Master), s.MayWrite m 9 0x058 ∧ (m = .mss ∨ m = .hostS) ∧ (s.author = none ∨ s.on VAULT.NEXT_READY = false ∨ s.on VAULT.ROLL_ARMED = true)) ∧
    (∃ (s : State) (m : Master), s.MayWrite m 9 0x058 ∧ (m = .mss ∨ m = .hostS) ∧ s.on VAULT.ROLL_ARMED = true ∧ s.rollDue = false) ∧
    (∃ (s : State) (m : Master), s.MayWrite m 9 0x058 ∧ (m = .mss ∨ m = .hostS) ∧ (s.on VAULT.ROLL_ARMED = false ∨ s.rollDue = true)) ∧
    (∃ (s : State) (m : Master), s.MayWrite m 9 0x058 ∧ m ≠ .mss ∧ m ≠ .hostS) ∧
    (∃ (s : State), s.rollDue = true) ∧
    (∃ (s : State), s.rollDue = false) ∧
    (∃ (s : State), s.due tmGrace = true) ∧
    (∃ (s : State), s.due tmGrace = false) :=
  ⟨⟨{ (rdy.setAll [(VAULT.NEXT_READY, 1)]) with keyLeft := [] }, Master.mss, by simp only [State.MayWrite]; decide +kernel⟩,
   ⟨{ (rdy.setAll [(VAULT.NEXT_READY, 1)]) with keyLeft := [] }, Master.mss, false, by simp only [State.MayWrite]; decide +kernel⟩,
   ⟨{ (rdy.setAll [(VAULT.NEXT_READY, 1)]) with keyLeft := [3] }, Master.mss, by simp only [State.MayWrite]; decide +kernel⟩,
   ⟨{ (rdy.setAll [(VAULT.NEXT_READY, 1), (VAULT.ROLL_ARMED, 1), (VAULT.ROLL_AT_LO, 4500001)]) with keyLeft := [3] }, Master.mss, by simp only [State.MayWrite]; decide +kernel⟩,
   ⟨{ (rdy.setAll [(VAULT.NEXT_READY, 1), (VAULT.ROLL_ARMED, 1), (VAULT.ROLL_AT_LO, 4500001)]) with keyLeft := [3] }, Master.mss, by simp only [State.MayWrite]; decide +kernel⟩,
   ⟨{ (rdy.setAll [(VAULT.NEXT_READY, 1)]) with keyLeft := [] }, Master.mss, by simp only [State.MayWrite]; decide +kernel⟩,
   ⟨rdy, Master.remote, by simp only [State.MayWrite]; decide +kernel⟩,
   ⟨{ (lnk.setAll [(VAULT.ROLL_ARMED, 1), (VAULT.ROLL_AT_LO, 4500000)]) with timers := [(tmGrace, 5)] }, by decide +kernel⟩,
   ⟨rdy, by decide +kernel⟩,
   ⟨{ (lnk.setAll [(VAULT.ROLL_ARMED, 1), (VAULT.ROLL_AT_LO, 4500000)]) with timers := [(tmGrace, 5)] }, by decide +kernel⟩,
   ⟨rdy, by decide +kernel⟩⟩

/-- The hypotheses of the clauses of SnufferEndsEveryKey are met. -/
theorem witness_snufferEndsEveryKey :
    (∃ (s : State), s.on TAMPER.LID_CLOSED = true) ∧
    (∃ (s : State), s.on TAMPER.LID_CLOSED = false) ∧
    (∃ (s : State) (m : Master) (en : Bool) (loop : Bool) (lid : Bool), s.MayWrite m 0xB 0x008 ∧ let mine := m = .mss ∨ m = .hostS; let clears := (s.on (HDR.ENABLE 0xB) = true ∧ en = false) ∨ (s.on TAMPER.LOOP_EN = true ∧ loop = false) ∨ (s.on TAMPER.LID_EN = true ∧ lid = false); clears ∧ ¬ mine) ∧
    (∃ (s : State) (m : Master) (en : Bool) (loop : Bool) (lid : Bool), s.MayWrite m 0xB 0x008 ∧ let mine := m = .mss ∨ m = .hostS; let clears := (s.on (HDR.ENABLE 0xB) = true ∧ en = false) ∨ (s.on TAMPER.LOOP_EN = true ∧ loop = false) ∨ (s.on TAMPER.LID_EN = true ∧ lid = false); (mine ∨ ¬ clears)) ∧
    (∃ (s : State) (m : Master), s.MayWrite m 0xB 0x040 ∧ (m = .mss ∨ m = .hostS)) ∧
    (∃ (s : State) (m : Master), s.MayWrite m 0xB 0x040 ∧ (m = .mss ∨ m = .hostS) ∧ (∃ b, s.vault.snKey.get? m.id = some b ∧ s.base ≤ b + secs 1)) ∧
    (∃ (s : State) (m : Master), s.MayWrite m 0xB 0x040 ∧ (m = .mss ∨ m = .hostS) ∧ (∀ b, s.vault.snKey.get? m.id = some b → b + secs 1 < s.base)) ∧
    (∃ (s : State) (m : Master), s.MayWrite m 0xB 0x040 ∧ m ≠ .mss ∧ m ≠ .hostS) ∧
    (∃ (s : State) (causes : List (Fin 6)) (c : _), c ∈ causes ∧ s.causeHolds c.val = true ∧ (∀ d ∈ causes, s.causeHolds d.val = true → c ≤ d)) ∧
    (∃ (s : State) (causes : List (Fin 6)), (∀ c ∈ causes, s.causeHolds c.val = false)) ∧
    (∃ (s : State), s.on TAMPER.MARK_PENDING = true) ∧
    (∃ (s : State), s.on TAMPER.MARK_PENDING = false) ∧
    (∃ (s : State), s.snuffing = true ∧ s.on TAMPER.MARK_PENDING = false ∧ s.pdOn 8 = true) ∧
    (∃ (s : State), (s.snuffing = false ∨ s.on TAMPER.MARK_PENDING = true ∨ s.pdOn 8 = false)) :=
  ⟨⟨(rdy.setAll [(TAMPER.LID_CLOSED, 1)]), by decide +kernel⟩,
   ⟨(rdy.setAll [(TAMPER.LID_CLOSED, 0)]), by decide +kernel⟩,
   ⟨rdy, Master.remote, false, true, true, by simp only [State.MayWrite]; decide +kernel⟩,
   ⟨rdy, Master.hostS, true, true, true, by simp only [State.MayWrite]; decide +kernel⟩,
   ⟨{ rdy with vault := { rdy.vault with snKey := [(4, 4000000 - secs 1)] } }, Master.hostS, by simp only [State.MayWrite]; decide +kernel⟩,
   ⟨{ rdy with vault := { rdy.vault with snKey := [(4, 4000000 - secs 1)] } }, Master.hostS, by simp only [State.MayWrite]; decide +kernel⟩,
   ⟨rdy, Master.hostS, by simp only [State.MayWrite]; decide +kernel⟩,
   ⟨rdy, Master.remote, by simp only [State.MayWrite]; decide +kernel⟩,
   ⟨{ (rdy.setAll [(TAMPER.LID_EN, 1)]) with vault := { rdy.vault with snKey := [(4, 4000000 - secs 1)] } }, [5, 2, 3], 2, by decide +kernel⟩,
   ⟨rdy, [], by decide +kernel⟩,
   ⟨(rdy.setAll [(TAMPER.MARK_PENDING, 1)]), by decide +kernel⟩,
   ⟨(rdy.setAll [(TAMPER.SNUFFED, 1)]), by decide +kernel⟩,
   ⟨(rdy.setAll [(TAMPER.SNUFFED, 1)]), by decide +kernel⟩,
   ⟨(rdy.setAll [(TAMPER.MARK_PENDING, 1)]), by decide +kernel⟩⟩

/-- The hypotheses of the clauses of PackagesAreStagedAndVerified are met. -/
theorem witness_packagesAreStagedAndVerified :
    (∃ (s : State) (m : Master), s.MayWrite m 0xA 0x044 ∧ s.guardHeld m 28 = true) ∧
    (∃ (s : State) (m : Master), s.MayWrite m 0xA 0x044 ∧ s.guardHeld m 28 = false ∧ s.on (HDR.ENABLE 0xA) = false) ∧
    (∃ (s : State) (m : Master), s.MayWrite m 0xA 0x044 ∧ s.guardHeld m 28 = false ∧ s.on (HDR.ENABLE 0xA) = true ∧ let idle := s.get UPDATE.U_STATE = 0 ∨ s.get UPDATE.U_STATE = 5 ∨ s.get UPDATE.U_STATE = 6 ∨ s.get UPDATE.U_STATE = 8 ∨ s.get UPDATE.U_STATE = 9; let fits := 1024 ≤ s.get UPDATE.STG_LEN ∧ s.get UPDATE.STG_LEN ≤ 25165824; idle ∧ s.on TAMPER.SNUFFED = false ∧ fits) ∧
    (∃ (s : State) (m : Master), s.MayWrite m 0xA 0x044 ∧ s.guardHeld m 28 = false ∧ s.on (HDR.ENABLE 0xA) = true ∧ let idle := s.get UPDATE.U_STATE = 0 ∨ s.get UPDATE.U_STATE = 5 ∨ s.get UPDATE.U_STATE = 6 ∨ s.get UPDATE.U_STATE = 8 ∨ s.get UPDATE.U_STATE = 9; let fits := 1024 ≤ s.get UPDATE.STG_LEN ∧ s.get UPDATE.STG_LEN ≤ 25165824; (¬ idle ∨ s.on TAMPER.SNUFFED = true ∨ ¬ fits)) ∧
    (∃ (s : State) (m : Master), s.MayWrite m 0xA 0x044 ∧ s.guardHeld m 28 = false ∧ s.on (HDR.ENABLE 0xA) = true ∧ (s.get UPDATE.U_STATE = 3 ∨ s.get UPDATE.U_STATE = 9)) ∧
    (∃ (s : State) (m : Master), s.MayWrite m 0xA 0x044 ∧ s.guardHeld m 28 = false ∧ s.on (HDR.ENABLE 0xA) = true ∧ s.get UPDATE.U_STATE ≠ 3 ∧ s.get UPDATE.U_STATE ≠ 9) ∧
    (∃ (s : State), s.get UPDATE.U_STATE = 1 ∧ s.pdOn 1 = true) ∧
    (∃ (s : State), (s.get UPDATE.U_STATE ≠ 1 ∨ s.pdOn 1 = false)) ∧
    (∃ (s : State) (m : Master) (k : Fin 128), s.MayWrite m 0xA (0x400 + 4 * k.val) ∧ s.guardHeld m 28 = false ∧ s.get UPDATE.U_STATE ≠ 2) ∧
    (∃ (s : State) (m : Master) (k : Fin 128), s.MayWrite m 0xA (0x400 + 4 * k.val) ∧ s.guardHeld m 28 = false ∧ s.get UPDATE.U_STATE = 2) ∧
    (∃ (s : State), s.get UPDATE.U_STATE = 4 ∧ s.pdOn 1 = true) ∧
    (∃ (s : State), (s.get UPDATE.U_STATE ≠ 4 ∨ s.pdOn 1 = false)) :=
  ⟨⟨{ rdy with locks := [(28, 1)] }, Master.hostS, by simp only [State.MayWrite]; decide +kernel⟩,
   ⟨(rdy.setAll [(HDR.ENABLE 0xA, 0)]), Master.hostS, by simp only [State.MayWrite]; decide +kernel⟩,
   ⟨(rdy.setAll [(UPDATE.U_STATE, 9), (UPDATE.STG_LEN, 25165824)]), Master.hostS, by simp only [State.MayWrite]; decide +kernel⟩,
   ⟨(rdy.setAll [(UPDATE.U_STATE, 9), (UPDATE.STG_LEN, 1023)]), Master.hostS, by simp only [State.MayWrite]; decide +kernel⟩,
   ⟨(rdy.setAll [(UPDATE.U_STATE, 9), (UPDATE.STG_LEN, 25165824)]), Master.hostS, by simp only [State.MayWrite]; decide +kernel⟩,
   ⟨(rdy.setAll [(UPDATE.STG_LEN, 1024)]), Master.hostS, by simp only [State.MayWrite]; decide +kernel⟩,
   ⟨(rdy.setAll [(UPDATE.U_STATE, 1)]), by decide +kernel⟩,
   ⟨rdy, by decide +kernel⟩,
   ⟨rdy, Master.hostS, (127 : Fin 128), by simp only [State.MayWrite]; decide +kernel⟩,
   ⟨(rdy.setAll [(UPDATE.U_STATE, 2), (UPDATE.STG_LEN, 8192), (UPDATE.STG_OFFSET, 4096)]), Master.hostS, (127 : Fin 128), by simp only [State.MayWrite]; decide +kernel⟩,
   ⟨(rdy.setAll [(UPDATE.U_STATE, 4)]), by decide +kernel⟩,
   ⟨rdy, by decide +kernel⟩⟩

/-- The hypotheses of the clauses of TrialsCommitOrRollBack are met. -/
theorem witness_trialsCommitOrRollBack :
    (∃ (s : State) (m : Master) (confirm : Bool), s.MayWrite m 0xA 0x044 ∧ s.guardHeld m 28 = false ∧ s.on (HDR.ENABLE 0xA) = true ∧ let code := if s.get UPDATE.U_STATE ≠ 5 then 2 else if s.on TAMPER.SNUFFED = true then 3 else if s.on UPDATE.M_SCHEMA = true ∧ confirm = false then 5 else if s.handing = true ∨ s.incoming.isSome = true then 6 else if s.standbyBad = true then 7 else 0; code = 0) ∧
    (∃ (s : State) (m : Master) (confirm : Bool), s.MayWrite m 0xA 0x044 ∧ s.guardHeld m 28 = false ∧ s.on (HDR.ENABLE 0xA) = true ∧ let code := if s.get UPDATE.U_STATE ≠ 5 then 2 else if s.on TAMPER.SNUFFED = true then 3 else if s.on UPDATE.M_SCHEMA = true ∧ confirm = false then 5 else if s.handing = true ∨ s.incoming.isSome = true then 6 else if s.standbyBad = true then 7 else 0; code ≠ 0) ∧
    (∃ (s : State), s.upd.switchAt = none ∧ s.trial = false) ∧
    (∃ (s : State), s.upd.switchAt = none ∧ s.trial = true ∧ s.get UPDATE.ACT_STEP = 1) ∧
    (∃ (s : State) (ok : Bool) (w : _), s.upd.switchAt = none ∧ s.trial = true ∧ s.get UPDATE.ACT_STEP = 2 ∧ s.upd.alone = false ∧ s.dryWick = some w ∧ s.dryPassed w ok = true) ∧
    (∃ (s : State) (ok : Bool) (w : _), s.upd.switchAt = none ∧ s.trial = true ∧ s.get UPDATE.ACT_STEP = 2 ∧ s.upd.alone = false ∧ s.dryWick = some w ∧ s.dryPassed w ok = false) ∧
    (∃ (s : State) (w : _), s.upd.switchAt = none ∧ s.trial = true ∧ s.get UPDATE.ACT_STEP = 3 ∧ s.trialAuthor = some w) ∧
    (∃ (s : State), s.upd.switchAt = none ∧ s.trial = true ∧ s.get UPDATE.ACT_STEP = 3 ∧ s.trialAuthor = none) ∧
    (∃ (s : State) (ok : Bool) (w : _), s.upd.switchAt = none ∧ s.trial = true ∧ s.get UPDATE.ACT_STEP = 4 ∧ s.dryWick = some w ∧ s.dryPassed w ok = true) ∧
    (∃ (s : State) (ok : Bool), s.upd.switchAt = none ∧ s.trial = true ∧ s.get UPDATE.ACT_STEP = 5 ∧ ok = true) ∧
    (∃ (s : State) (at_ : _) (o : _), s.upd.switchAt = some at_ ∧ at_ ≤ s.now ∧ s.author = some o) ∧
    (∃ (s : State) (w : Wick) (b : Nat), s.trialAuthor = some w ∧ s.upd.tookAt = some b ∧ s.trial = true ∧ s.get UPDATE.ACT_STEP = 6 ∧ s.stopped w = false ∧ b + secs (s.get UPDATE.PROBATION_S) ≤ s.base) ∧
    (∃ (s : State) (w : Wick) (b : Nat), s.trialAuthor = some w ∧ s.upd.tookAt = some b ∧ s.trial = true ∧ s.get UPDATE.ACT_STEP = 6 ∧ s.stopped w = false ∧ s.base < b + secs (s.get UPDATE.PROBATION_S)) ∧
    (∃ (s : State) (reason : Fin 8), s.rollbackDue reason.val = true) ∧
    (∃ (s : State) (reason : Fin 8), s.rollbackDue reason.val = false) ∧
    (∃ (s : State) (m : Master), s.MayWrite m 0xA 0x044 ∧ s.guardHeld m 28 = false ∧ s.on (HDR.ENABLE 0xA) = true ∧ (s.get UPDATE.U_STATE = 0 ∨ s.get UPDATE.U_STATE = 8 ∨ s.get UPDATE.U_STATE = 9)) ∧
    (∃ (s : State) (m : Master), s.MayWrite m 0xA 0x044 ∧ s.guardHeld m 28 = false ∧ s.on (HDR.ENABLE 0xA) = true ∧ 1 ≤ s.get UPDATE.U_STATE ∧ s.get UPDATE.U_STATE ≤ 6) ∧
    (∃ (s : State) (m : Master), s.MayWrite m 0xA 0x044 ∧ s.guardHeld m 28 = false ∧ s.on (HDR.ENABLE 0xA) = true ∧ s.get UPDATE.U_STATE = 7) ∧
    (∃ (s : State) (m : Master), s.MayWrite m 0xA 0x044 ∧ s.guardHeld m 28 = false ∧ s.on (HDR.ENABLE 0xA) = true ∧ s.get UPDATE.U_STATE = 4 ∧ s.pdOn 1 = true) ∧
    (∃ (s : State) (m : Master), s.MayWrite m 0xA 0x008 ∧ s.on (HDR.ENABLE 0xA) = false) ∧
    (∃ (s : State) (m : Master), s.MayWrite m 0xA 0x008 ∧ s.on (HDR.ENABLE 0xA) = true ∧ 1 ≤ s.get UPDATE.U_STATE ∧ s.get UPDATE.U_STATE ≤ 6) ∧
    (∃ (s : State) (w : Wick), s.measures w = false) ∧
    (∃ (s : State) (w : Wick) (ok : Bool), s.measures w = true ∧ s.trial = true ∧ s.dryWick = some w ∧ w.idx ∉ s.upd.meterTrial ∧ ok = true) ∧
    (∃ (s : State) (w : Wick) (ok : Bool), s.measures w = true ∧ s.trial = true ∧ s.dryWick = some w ∧ w.idx ∉ s.upd.meterTrial ∧ ok = false) ∧
    (∃ (s : State) (w : Wick), s.measures w = true ∧ s.trial = false ∧ w.idx ∈ s.upd.meterTrial) :=
  ⟨⟨(rdy.setAll [(UPDATE.U_STATE, 5)]), Master.hostS, false, by simp only [State.MayWrite]; decide +kernel⟩,
   ⟨(rdy.setAll [(UPDATE.U_STATE, 5), (UPDATE.M_SCHEMA, 1)]), Master.hostS, false, by simp only [State.MayWrite]; decide +kernel⟩,
   ⟨rdy, by decide +kernel⟩,
   ⟨{ (rdy.setAll [(UPDATE.COMMIT_STATE, 1), (UPDATE.ACT_STEP, 1)]) with upd := { rdy.upd with alone := false } }, by decide +kernel⟩,
   ⟨{ (rdy.setAll [(UPDATE.COMMIT_STATE, 1), (UPDATE.ACT_STEP, 2)]) with upd := { rdy.upd with dry := some 1, meterTrial := [1] } }, true, (({ (rdy.setAll [(UPDATE.COMMIT_STATE, 1), (UPDATE.ACT_STEP, 2)]) with upd := { rdy.upd with dry := some 1, meterTrial := [1] } }).dryWick).get rfl, by decide +kernel⟩,
   ⟨{ (rdy.setAll [(UPDATE.COMMIT_STATE, 1), (UPDATE.ACT_STEP, 2)]) with upd := { rdy.upd with dry := some 1 } }, true, (({ (rdy.setAll [(UPDATE.COMMIT_STATE, 1), (UPDATE.ACT_STEP, 2)]) with upd := { rdy.upd with dry := some 1 } }).dryWick).get rfl, by decide +kernel⟩,
   ⟨{ (rdy.setAll [(UPDATE.COMMIT_STATE, 1), (UPDATE.ACT_STEP, 3)]) with upd := { rdy.upd with onTrial := [0] } }, (({ (rdy.setAll [(UPDATE.COMMIT_STATE, 1), (UPDATE.ACT_STEP, 3)]) with upd := { rdy.upd with onTrial := [0] } }).trialAuthor).get rfl, by decide +kernel⟩,
   ⟨{ (rdy.setAll [(UPDATE.COMMIT_STATE, 1), (UPDATE.ACT_STEP, 3)]) with upd := { rdy.upd with alone := false } }, by decide +kernel⟩,
   ⟨{ (rdy.setAll [(UPDATE.COMMIT_STATE, 1), (UPDATE.ACT_STEP, 4)]) with upd := { rdy.upd with dry := some 1, meterTrial := [1] } }, true, (({ (rdy.setAll [(UPDATE.COMMIT_STATE, 1), (UPDATE.ACT_STEP, 4)]) with upd := { rdy.upd with dry := some 1, meterTrial := [1] } }).dryWick).get rfl, by decide +kernel⟩,
   ⟨{ (rdy.setAll [(UPDATE.COMMIT_STATE, 1), (UPDATE.ACT_STEP, 5)]) with upd := { rdy.upd with alone := false } }, true, by decide +kernel⟩,
   ⟨{ (rdy.setAll [(UPDATE.COMMIT_STATE, 1), (UPDATE.ACT_STEP, 3)]) with upd := { rdy.upd with switchAt := some 4500000 } }, (({ (rdy.setAll [(UPDATE.COMMIT_STATE, 1), (UPDATE.ACT_STEP, 3)]) with upd := { rdy.upd with switchAt := some 4500000 } }).upd.switchAt).get rfl, (({ (rdy.setAll [(UPDATE.COMMIT_STATE, 1), (UPDATE.ACT_STEP, 3)]) with upd := { rdy.upd with switchAt := some 4500000 } }).author).get rfl, by decide +kernel⟩,
   ⟨{ (rdy.setAll [(UPDATE.COMMIT_STATE, 1), (UPDATE.ACT_STEP, 6), (UPDATE.PROBATION_S, 10)]) with upd := { rdy.upd with onTrial := [0], tookAt := some (4000000 - secs 10 + 0) } }, Wick.a, (({ (rdy.setAll [(UPDATE.COMMIT_STATE, 1), (UPDATE.ACT_STEP, 6), (UPDATE.PROBATION_S, 10)]) with upd := { rdy.upd with onTrial := [0], tookAt := some (4000000 - secs 10 + 0) } }).upd.tookAt).get rfl, by decide +kernel⟩,
   ⟨{ (rdy.setAll [(UPDATE.COMMIT_STATE, 1), (UPDATE.ACT_STEP, 6), (UPDATE.PROBATION_S, 10)]) with upd := { rdy.upd with onTrial := [0], tookAt := some (4000000 - secs 10 + 1) } }, Wick.a, (({ (rdy.setAll [(UPDATE.COMMIT_STATE, 1), (UPDATE.ACT_STEP, 6), (UPDATE.PROBATION_S, 10)]) with upd := { rdy.upd with onTrial := [0], tookAt := some (4000000 - secs 10 + 1) } }).upd.tookAt).get rfl, by decide +kernel⟩,
   ⟨{ (rdy.setAll [(UPDATE.COMMIT_STATE, 1), (UPDATE.ACT_STEP, 2)]) with upd := { rdy.upd with dry := some 1 } }, (1 : Fin 8), by decide +kernel⟩,
   ⟨rdy, (7 : Fin 8), by decide +kernel⟩,
   ⟨rdy, Master.hostS, by simp only [State.MayWrite]; decide +kernel⟩,
   ⟨(rdy.setAll [(UPDATE.U_STATE, 1)]), Master.hostS, by simp only [State.MayWrite]; decide +kernel⟩,
   ⟨{ (rdy.setAll [(UPDATE.COMMIT_STATE, 1), (UPDATE.ACT_STEP, 3), (UPDATE.U_STATE, 7)]) with upd := { rdy.upd with alone := false } }, Master.hostS, by simp only [State.MayWrite]; decide +kernel⟩,
   ⟨(rdy.setAll [(UPDATE.U_STATE, 4)]), Master.hostS, by simp only [State.MayWrite]; decide +kernel⟩,
   ⟨(rdy.setAll [(HDR.ENABLE 0xA, 0)]), Master.hostS, by simp only [State.MayWrite]; decide +kernel⟩,
   ⟨(rdy.setAll [(UPDATE.U_STATE, 6)]), Master.hostS, by simp only [State.MayWrite]; decide +kernel⟩,
   ⟨State.reset, Wick.a, by decide +kernel⟩,
   ⟨{ (rdy.setAll [(UPDATE.COMMIT_STATE, 1), (UPDATE.ACT_STEP, 2)]) with upd := { rdy.upd with dry := some 1 } }, Wick.b, true, by decide +kernel⟩,
   ⟨{ (rdy.setAll [(UPDATE.COMMIT_STATE, 1), (UPDATE.ACT_STEP, 2)]) with upd := { rdy.upd with dry := some 1 } }, Wick.b, false, by decide +kernel⟩,
   ⟨{ rdy with upd := { rdy.upd with meterTrial := [1] } }, Wick.b, by decide +kernel⟩⟩

/-- The hypotheses of the clauses of SensorsAndRestartsAreLogged are met. -/
theorem witness_sensorsAndRestartsAreLogged :
    (∃ (s : State), s.pdOn 1 = false) ∧
    (∃ (s : State), s.pdOn 1 = true) ∧
    (∃ (s : State), s.pdOn 1 = true) ∧
    (∃ (s : State), s.pdOn 1 = true) ∧
    (∃ (s : State) (n : Fin 8), s.pdOn 1 = true ∧ s.pdOn (railPd n.val) = false) ∧
    (∃ (s : State) (n : Fin 8), s.pdOn 1 = true ∧ s.pdOn (railPd n.val) = true) ∧
    (∃ (s : State), s.pdOn 1 = true ∧ s.saving = false) ∧
    (∃ (s : State), (s.pdOn 1 = false ∨ s.saving = true)) :=
  ⟨⟨State.reset, by decide +kernel⟩,
   ⟨rdy, by decide +kernel⟩,
   ⟨rdy, by decide +kernel⟩,
   ⟨rdy, by decide +kernel⟩,
   ⟨(rdy.setAll [(PWR.PD_ON, 0x003)]), (2 : Fin 8), by decide +kernel⟩,
   ⟨rdy, (2 : Fin 8), by decide +kernel⟩,
   ⟨rdy, by decide +kernel⟩,
   ⟨State.reset, by decide +kernel⟩⟩

/-- The hypotheses of the clauses of EventsBecomeRecords are met. -/
theorem witness_eventsBecomeRecords :
    (∃ (code : BitVec 16), let c := code.toNat; c ∉ limitedCodes ∧ c ∉ fixedCodes) ∧
    (∃ (s : State) (code : BitVec 16), let c := code.toNat; let limited := decide (c ∈ limitedCodes); (limited = true ∧ s.log.tokensOf c ≠ 0 ∨ c ∈ fixedCodes ∧ limited = false) ∧ s.log.queue.length < 64) ∧
    (∃ (s : State) (code : BitVec 16), let c := code.toNat; let limited := decide (c ∈ limitedCodes); (limited = true ∧ s.log.tokensOf c ≠ 0 ∨ c ∈ fixedCodes ∧ limited = false) ∧ 64 ≤ s.log.queue.length) ∧
    (∃ (s : State) (code : BitVec 16), let c := code.toNat; let limited := decide (c ∈ limitedCodes); limited = true ∧ s.log.tokensOf c = 0) ∧
    (∃ (s : State), (s.log.queue = [] ∨ s.deferring = true)) ∧
    (∃ (s : State) (e : Event) (rest : List Event), s.log.queue = e :: rest ∧ s.deferring = false) ∧
    (∃ (s : State) (code : BitVec 16) (b : Bucket), s.log.buckets.get? code.toNat = some b ∧ secs 60 * (b.added + 1) ≤ (s.base - b.since) * s.log.rateOf code.toNat) ∧
    (∃ (s : State) (code : BitVec 16) (b : Bucket), s.log.buckets.get? code.toNat = some b ∧ (s.base - b.since) * s.log.rateOf code.toNat < secs 60 * (b.added + 1)) ∧
    (∃ (s : State) (m : Master), s.MayWrite m 6 0x054 ∧ s.get EVLOG.RL_CODE ∈ limitedCodes) ∧
    (∃ (s : State) (m : Master), s.MayWrite m 6 0x054 ∧ s.get EVLOG.RL_CODE ∉ limitedCodes) ∧
    (∃ (s : State) (m : Master), s.MayWrite m 6 0x058) :=
  ⟨⟨(0xFFFF : BitVec 16), by decide +kernel⟩,
   ⟨{ rdy with log := { rdy.log with queue := (List.replicate 63 { code := 1, source := 2, time := 3, trusted := true, deferred := false, suppressed := 0, params := [] }) } }, ((BitVec.ofNat 16 (limitedCodes.headD 0)) : BitVec 16), by decide +kernel⟩,
   ⟨{ rdy with log := { rdy.log with queue := (List.replicate 64 { code := 1, source := 2, time := 3, trusted := true, deferred := false, suppressed := 0, params := [] }) } }, ((BitVec.ofNat 16 (limitedCodes.headD 0)) : BitVec 16), by decide +kernel⟩,
   ⟨{ rdy with log := { rdy.log with buckets := [(limitedCodes.headD 0, { tokens := 0, since := 5, added := 0 })] } }, ((BitVec.ofNat 16 (limitedCodes.headD 0)) : BitVec 16), by decide +kernel⟩,
   ⟨{ rdy with saving := true, log := { rdy.log with queue := (List.replicate 2 { code := 1, source := 2, time := 3, trusted := true, deferred := false, suppressed := 0, params := [] }) } }, by decide +kernel⟩,
   ⟨{ rdy with log := { rdy.log with queue := (List.replicate 2 { code := 1, source := 2, time := 3, trusted := true, deferred := false, suppressed := 0, params := [] }) } }, { code := 1, source := 2, time := 3, trusted := true, deferred := false, suppressed := 0, params := [] }, [{ code := 1, source := 2, time := 3, trusted := true, deferred := false, suppressed := 0, params := [] }], by decide +kernel⟩,
   ⟨{ rdy with log := { rdy.log with rate := [(5, 1)], buckets := [(5, { tokens := 0, since := 4000000 - secs 60, added := 0 })] } }, (5 : BitVec 16), (({ rdy with log := { rdy.log with rate := [(5, 1)], buckets := [(5, { tokens := 0, since := 4000000 - secs 60, added := 0 })] } }).log.buckets.get? ((5 : BitVec 16)).toNat).get rfl, by decide +kernel⟩,
   ⟨{ rdy with log := { rdy.log with rate := [(5, 1)], buckets := [(5, { tokens := 0, since := 4000000 - secs 60 + 1, added := 0 })] } }, (5 : BitVec 16), (({ rdy with log := { rdy.log with rate := [(5, 1)], buckets := [(5, { tokens := 0, since := 4000000 - secs 60 + 1, added := 0 })] } }).log.buckets.get? ((5 : BitVec 16)).toNat).get rfl, by decide +kernel⟩,
   ⟨(rdy.setAll [(EVLOG.RL_CODE, limitedCodes.headD 0)]), Master.hostS, by simp only [State.MayWrite]; decide +kernel⟩,
   ⟨rdy, Master.hostS, by simp only [State.MayWrite]; decide +kernel⟩,
   ⟨rdy, Master.hostS, by simp only [State.MayWrite]; decide +kernel⟩⟩

/-- The hypotheses of the clauses of SelfTestsRunAndEnd are met. -/
theorem witness_selfTestsRunAndEnd :
    (∃ (s : State) (m : Master), s.MayWrite m 8 0x044 ∧ (m = .mss ∨ m = .hostS) ∧ s.on (HDR.ENABLE 8) = false) ∧
    (∃ (s : State) (m : Master) (pll : Bool), s.MayWrite m 8 0x044 ∧ (m = .mss ∨ m = .hostS) ∧ s.on (HDR.ENABLE 8) = true ∧ s.bist = none ∧ s.arb.testing = [] ∧ 1 ≤ s.get BIST.TARGET ∧ s.get BIST.TARGET ≤ 8 ∧ s.bistRole (s.get BIST.TARGET) = true ∧ s.bistConditions (bistDestructive (s.get BIST.TARGET)) = true ∧ pll = true) ∧
    (∃ (s : State) (m : Master) (r : BistRun), s.MayWrite m 8 0x044 ∧ s.bist = some r) ∧
    (∃ (s : State) (m : Master), s.MayWrite m 8 0x044 ∧ m ≠ .mss ∧ m ≠ .hostS) ∧
    (∃ (s : State) (m : Master) (r : BistRun), s.MayWrite m 8 0x008 ∧ s.bist = some r) ∧
    (∃ (s : State) (m : Master), s.MayWrite m 8 0x008 ∧ s.bist = none) ∧
    (∃ (s : State) (r : BistRun), s.bist = some r ∧ s.bistConditions false = false) ∧
    (∃ (s : State), (s.bist = none ∨ s.bistConditions false = true)) ∧
    (∃ (s : State) (r : BistRun), s.bist = some r ∧ 1 ≤ r.target ∧ r.target ≤ 8 ∧ (r.target = 8 → s.scanServed = true) ∧ bistScrub r.target = false) ∧
    (∃ (s : State) (m : Master) (r : BistRun), s.MayWrite m 8 0x044 ∧ s.bist = some r ∧ r.target = 8 ∧ s.scanServed = true) ∧
    (∃ (s : State) (r : BistRun) (w : _), s.bist = some r ∧ 1 ≤ r.target ∧ r.target ≤ 8 ∧ (r.target = 8 → s.scanServed = true) ∧ bistWick r.target = some w ∧ bistDestructive r.target = true) ∧
    (∃ (s : State), s.bist = none) ∧
    (∃ (s : State) (m : Master), s.MayWrite m 8 0x050) ∧
    (∃ (s : State) (m : Master) (rival : Bool), s.MayWrite m 8 0x044 ∧ (m = .mss ∨ m = .hostS) ∧ s.on (HDR.ENABLE 8) = true ∧ (s.bist.isSome = true ∨ s.arb.testing ≠ [] ∨ (m = .hostS ∧ rival = true))) ∧
    (∃ (s : State) (m : Master) (pll : Bool) (rival : Bool), s.MayWrite m 8 0x044 ∧ s.bistRefusal m (s.get BIST.TARGET) pll rival ≠ 0) ∧
    (∃ (s : State) (m : Master) (pll : Bool) (rival : Bool), s.MayWrite m 8 0x044 ∧ (m = .mss ∨ m = .hostS) ∧ s.on (HDR.ENABLE 8) = true ∧ s.bist = none ∧ s.arb.testing = [] ∧ (m = .mss ∨ rival = false) ∧ 1 ≤ s.get BIST.TARGET ∧ s.get BIST.TARGET ≤ 8 ∧ s.bistRole (s.get BIST.TARGET) = true ∧ s.bistConditions (bistDestructive (s.get BIST.TARGET)) = true ∧ pll = true) ∧
    (∃ (s : State) (r : BistRun), s.bist = some r ∧ 1 ≤ r.target ∧ r.target ≤ 8 ∧ (r.target = 8 → s.scanServed = true) ∧ r.target = 7) ∧
    (∃ (s : State) (r : BistRun), (s.bist = none ∨ (s.bist = some r ∧ r.target = 8 ∧ s.scanServed = false))) :=
  ⟨⟨rdy.set (HDR.ENABLE 8) 0, Master.hostS, by simp only [State.MayWrite]; decide +kernel⟩,
   ⟨{ (rdy.setAll [(BIST.TARGET, 1), (PWR.VIN_MV, 24000)]) with roleA := .off }, Master.hostS, true, by simp only [State.MayWrite]; decide +kernel⟩,
   ⟨{ rdy with bist := some { target := 3, master := 4, since := 5 } }, Master.hostS, (({ rdy with bist := some { target := 3, master := 4, since := 5 } }).bist).get rfl, by simp only [State.MayWrite]; decide +kernel⟩,
   ⟨rdy, Master.wickA, by simp only [State.MayWrite]; decide +kernel⟩,
   ⟨{ rdy with bist := some { target := 3, master := 4, since := 5 } }, Master.hostS, (({ rdy with bist := some { target := 3, master := 4, since := 5 } }).bist).get rfl, by simp only [State.MayWrite]; decide +kernel⟩,
   ⟨rdy, Master.hostS, by simp only [State.MayWrite]; decide +kernel⟩,
   ⟨{ rdy with bist := some { target := 1, master := 4, since := 5 } }, (({ rdy with bist := some { target := 1, master := 4, since := 5 } }).bist).get rfl, by decide +kernel⟩,
   ⟨rdy, by decide +kernel⟩,
   ⟨{ rdy with bist := some { target := 8, master := 4, since := 5 } }, { target := 8, master := 4, since := 5 }, by decide +kernel⟩,
   ⟨{ rdy with bist := some { target := 8, master := 4, since := 5 } }, Master.hostS, { target := 8, master := 4, since := 5 }, by simp only [State.MayWrite]; decide +kernel⟩,
   ⟨{ rdy with bist := some { target := 1, master := 4, since := 5 } }, { target := 1, master := 4, since := 5 }, Wick.a, by decide +kernel⟩,
   ⟨rdy, by decide +kernel⟩,
   ⟨rdy, Master.hostS, by simp only [State.MayWrite]; decide +kernel⟩,
   ⟨rdy, Master.hostS, true, by simp only [State.MayWrite]; decide +kernel⟩,
   ⟨rdy, Master.hostS, true, true, by simp only [State.MayWrite]; decide +kernel⟩,
   ⟨rdy.setAll [(BIST.TARGET, 8), (PWR.VIN_MV, 10000)], Master.mss, true, true, by simp only [State.MayWrite]; decide +kernel⟩,
   ⟨{ rdy with bist := some { target := 7, master := 4, since := 5 } }, { target := 7, master := 4, since := 5 }, by decide +kernel⟩,
   ⟨rdy, { target := 7, master := 4, since := 5 }, Or.inl rfl⟩⟩


end Sys2Proof.Tests
end

/-! ### Guarded writes and counted refusals (R36, R42) -/

namespace Sys2Proof.Machine

/-- Two frames over the registers, one after the other. -/
theorem KeepsRegs.trans {s t u : State} {l : List Field} (h : KeepsRegs s t l) (k : KeepsRegs t u l) : KeepsRegs s u l :=
  fun f hf => (k f hf).trans (h f hf)

/-- A frame stays one when more fields are named. -/
theorem KeepsRegs.mono {s t : State} {l l' : List Field} (h : KeepsRegs s t l) (hl : l ⊆ l') : KeepsRegs s t l' :=
  fun f hf => h f fun hm => hf (List.map_subset _ hl hm)

/-- A write that no rule of all pages refuses and that adds no code of its own is carried out. -/
theorem State.MayWrite.carriedOut {s : State} {m : Master} {p off : Nat} (h : s.MayWrite m p off) (k : State → State) :
    s.write m p off [] k = k s := by
  obtain ⟨hacts, hpage, hcodes⟩ := h
  exact s.write_of_mayWrite hacts hpage hcodes k

/-- A write that only the page's own rule refuses is counted under that rule's code. -/
theorem State.MayWrite.refused {s : State} {m : Master} {p off : Nat} (h : s.MayWrite m p off) (c : Nat) (k : State → State) :
    s.write m p off [c] k = s.countErr (errPage p c) m p off c := by
  obtain ⟨hacts, hpage, hcodes⟩ := h
  simp [State.write, hacts, hpage, hcodes, minimum?]

theorem HDR.ERR_COUNT_key_ne_ERR_FIRST (p : Nat) : (HDR.ERR_COUNT p).key ≠ (HDR.ERR_FIRST p).key := by
  simp only [Field.key, HDR.ERR_COUNT, HDR.ERR_FIRST]
  omega

/-- A refusal adds one to COUNT, which stays at its largest value (R42). -/
theorem State.get_countErr_count (s : State) (p : Nat) (m : Master) (q off c : Nat) :
    (s.countErr p m q off c).get (HDR.ERR_COUNT p) = min (s.get (HDR.ERR_COUNT p) + 1) 0xFFFF := by
  simp only [State.countErr]
  rw [State.get_bump_same]
  split
  · rw [State.get_set_ne _ (HDR.ERR_COUNT_key_ne_ERR_FIRST p)]
    rfl
  · rfl

/-- The first refusal since COUNT was 0 is captured in ERR_FIRST (R42). -/
theorem State.get_countErr_first (s : State) (p : Nat) (m : Master) (q off c : Nat) (h : s.get (HDR.ERR_COUNT p) = 0) :
    (s.countErr p m q off c).get (HDR.ERR_FIRST p) =
      (off % 4096 + 2 ^ 12 * s.sentPage q + 2 ^ 24 * c + 2 ^ 28 * m.id + 2 ^ 31) % 2 ^ 32 := by
  simp only [State.countErr, h, if_true]
  rw [State.get_bump_ne _ (HDR.ERR_COUNT_key_ne_ERR_FIRST p).symm, State.get_set_same]
  rfl

/-- A refusal leaves every field but its page's COUNT and ERR_FIRST. -/
theorem State.countErr_keepsRegs (s : State) (p : Nat) (m : Master) (q off c : Nat) :
    KeepsRegs s (s.countErr p m q off c) [HDR.ERR_COUNT p, HDR.ERR_FIRST p] := by
  intro f hf
  simp only [List.map_cons, List.map_nil, List.mem_cons, List.not_mem_nil, or_false, not_or] at hf
  exact s.get_countErr_ne m q off c hf.1 hf.2

/-- The CODE field of ERR_FIRST holds the code of the captured refusal, for a page that no alias reaches (R42). -/
theorem State.countErr_captures_code (s : State) (m : Master) {p off c : Nat} (hp : p < 0x10) (hc : c < 16)
    (h : s.get (HDR.ERR_COUNT p) = 0) : bits ((s.countErr p m p off c).get (HDR.ERR_FIRST p)) 24 4 = c := by
  have hsent : s.sentPage p = p := if_neg (by omega)
  rw [s.get_countErr_first p m p off c h, hsent]
  unfold bits
  omega

/-! ### Interrupt bits (R41) -/

/-- Raising an interrupt sets its bit of IRQ_RAW. -/
theorem State.testBit_raise_same (s : State) (p : Nat) {n : Nat} (hn : n < 32) :
    ((s.raise p n).get (HDR.IRQ_RAW p)).testBit n = true := by
  rw [State.raise, State.get_set_same, Nat.testBit_mod_two_pow, Nat.testBit_or, Nat.testBit_two_pow_self]
  simp [HDR.IRQ_RAW, hn]

/-- A set bit of IRQ_RAW stays set when an interrupt of its page is raised. -/
theorem State.testBit_raise_of_set (s : State) (p n : Nat) {k : Nat} (hk : k < 32)
    (h : (s.get (HDR.IRQ_RAW p)).testBit k = true) : ((s.raise p n).get (HDR.IRQ_RAW p)).testBit k = true := by
  rw [State.raise, State.get_set_same, Nat.testBit_mod_two_pow, Nat.testBit_or, h]
  simp [HDR.IRQ_RAW, hk]

/-- Raising an interrupt leaves every field but its page's IRQ_RAW. -/
theorem State.raise_keepsRegs (s : State) (p n : Nat) : KeepsRegs s (s.raise p n) [HDR.IRQ_RAW p] := by
  intro f hf
  exact s.get_raise_ne (by simpa using hf)

/-- An event changes the log and registers only. -/
theorem State.event_frame (s : State) (src code : Nat) (ps : List Nat) :
    s.event src code ps = { s with regs := (s.event src code ps).regs, log := (s.event src code ps).log } := by
  rcases s.event_cases src code ps with ⟨l, e⟩ | ⟨l, e⟩
  · rw [e]
  · rw [e]
    rfl

end Sys2Proof.Machine

/-! ### The lock registers (R47 to R53) -/

namespace Sys2Proof.Machine

/-- Locks 16 to 31 are not for the non-secure port, and no other is refused to any master (R51). -/
theorem mayLock_eq_false_iff (m : Master) (n : Nat) : mayLock m n = false ↔ 16 ≤ n ∧ m = .hostN := by
  simp [mayLock]

theorem lockAnswer_eq (m : Master) (o : Nat) :
    lockAnswer m o = if o = m.id then BitVec.ofNat 32 (m.id + 2 ^ 31) else BitVec.ofNat 32 o := by
  unfold lockAnswer
  split <;> rfl

/-- The least ID among a number and the IDs of some masters: at most each of them, and one of them. -/
theorem foldl_min_id (l : List Master) (a : Nat) :
    l.foldl (fun x r => min x r.id) a ≤ a ∧ (∀ r ∈ l, l.foldl (fun x r => min x r.id) a ≤ r.id) ∧
      (l.foldl (fun x r => min x r.id) a = a ∨ ∃ r ∈ l, r.id = l.foldl (fun x r => min x r.id) a) := by
  induction l generalizing a with
  | nil => simp
  | cons r l ih =>
    obtain ⟨hle, hall, hone⟩ := ih (min a r.id)
    simp only [List.foldl_cons, List.mem_cons, forall_eq_or_imp, exists_eq_or_imp]
    refine ⟨by omega, ⟨by omega, hall⟩, ?_⟩
    rcases hone with h | h
    · omega
    · exact .inr (.inr h)

/-- The winner of a lock is the reader, or a rival that may use the lock, and none of them has a lower ID (R48). -/
theorem lockWinner_spec (m : Master) (rivals : List Master) (n : Nat) :
    lockWinner m rivals n ≤ m.id ∧
      (lockWinner m rivals n = m.id ∨ ∃ r ∈ rivals, r.id = lockWinner m rivals n ∧ mayLock r n = true) ∧
      (∀ r ∈ rivals, mayLock r n = true → lockWinner m rivals n ≤ r.id) := by
  obtain ⟨hle, hall, hone⟩ := foldl_min_id (rivals.filter (fun r => mayLock r n)) m.id
  refine ⟨hle, ?_, fun r hr hm => hall r (List.mem_filter.2 ⟨hr, hm⟩)⟩
  rcases hone with h | ⟨r, hr, h⟩
  · exact .inl h
  · obtain ⟨hmem, hmay⟩ := List.mem_filter.1 hr
    exact .inr ⟨r, hmem, h, hmay⟩

/-- The read of a free lock of an enabled page, by a master that may use it, grants it to the winner (R48). -/
theorem doLockAcquireRead_of_free {s : State} {m : Master} {n : Nat} (rivals : List Master) (hr : s.MayRead m 2)
    (hm : mayLock m n = true) (hen : s.on (HDR.ENABLE 2) = true) (hfree : s.locks.get? n = none) :
    doLockAcquireRead m n rivals s =
      { s with locks := s.locks.put n (lockWinner m rivals n), busData := lockAnswer m (lockWinner m rivals n) } := by
  obtain ⟨-, -, hcodes⟩ := hr
  simp only [doLockAcquireRead, hcodes, hm, if_true, List.append_nil, minimum?, hen, hfree]

/-- The read of a held lock of an enabled page, by a master that may use it, answers the owner (R48). -/
theorem doLockAcquireRead_of_held {s : State} {m : Master} {n o : Nat} (rivals : List Master) (hr : s.MayRead m 2)
    (hm : mayLock m n = true) (hen : s.on (HDR.ENABLE 2) = true) (hheld : s.locks.get? n = some o) :
    doLockAcquireRead m n rivals s = { s with busData := lockAnswer m o } := by
  obtain ⟨-, -, hcodes⟩ := hr
  simp only [doLockAcquireRead, hcodes, hm, if_true, List.append_nil, minimum?, hen, hheld]

/-- The read of a lock of a disabled page, by a master that may use it, answers zero and grants nothing (R52). -/
theorem doLockAcquireRead_of_disabled {s : State} {m : Master} {n : Nat} (rivals : List Master) (hr : s.MayRead m 2)
    (hm : mayLock m n = true) (hdis : s.on (HDR.ENABLE 2) = false) :
    doLockAcquireRead m n rivals s = { s with busData := 0 } := by
  obtain ⟨-, -, hcodes⟩ := hr
  simp only [doLockAcquireRead, hcodes, hm, if_true, List.append_nil, minimum?, hdis, Bool.false_eq_true, if_false]

/-- The read of a lock that its reader may not use is refused under SECURITY (R51). -/
theorem doLockAcquireRead_of_not_mayLock {s : State} {m : Master} {n : Nat} (rivals : List Master) (hr : s.MayRead m 2)
    (hm : mayLock m n = false) :
    doLockAcquireRead m n rivals s = { (s.countErr 2 m 2 (0x080 + 4 * n) 1) with busData := 0 } := by
  obtain ⟨-, -, hcodes⟩ := hr
  simp [doLockAcquireRead, hcodes, hm, minimum?, errPage]

/-- A read of a lock by a master that may act runs the lock register. -/
theorem exec_lockAcquireRead {s : State} {m : Master} (n : Fin 32) (rivals : List Master) (hr : s.MayRead m 2) :
    exec (.lockAcquireRead m n rivals) s = .next (doLockAcquireRead m n.val rivals s) := by
  obtain ⟨hacts, -, -⟩ := hr
  show Host.Outcome.next (if s.acts m then doLockAcquireRead m n.val rivals s else s) = _
  rw [if_pos hacts]

/-- A lock written with zero by its owner is released (R49). -/
theorem doLockRelease_of_owner {s : State} {m : Master} {n : Nat} (hw : s.MayWrite m 2 (0x080 + 4 * n))
    (ho : s.locks.get? n = some m.id) : doLockRelease m n 0 s = { s with locks := s.locks.del n } := by
  rw [doLockRelease, if_pos ⟨ho, rfl⟩, hw.carriedOut]

/-- Any other write of a lock is refused under NOT_OWNER (R49). -/
theorem doLockRelease_of_not_owner {s : State} {m : Master} {n v : Nat} (hw : s.MayWrite m 2 (0x080 + 4 * n))
    (h : s.locks.get? n ≠ some m.id ∨ v ≠ 0) : doLockRelease m n v s = s.countErr 2 m 2 (0x080 + 4 * n) 4 := by
  rw [doLockRelease, if_neg (by tauto), hw.refused]
  rfl

/-- While the LOCKS page is disabled no lock guards anything (R52, R53). -/
theorem State.guardHeld_of_disabled {s : State} (m : Master) (n : Nat) (h : s.on (HDR.ENABLE 2) = false) : s.guardHeld m n = false := by
  simp [State.guardHeld, h]

/-- A forced lock that nobody holds changes nothing (R53). -/
theorem State.forceLock_of_free {s : State} {n : Nat} (m : Master) (h : s.locks.get? n = none) : s.forceLock m n = s := by
  simp [State.forceLock, h]

/-- A forced lock that is held is released; FORCED is raised and the event logged (R53). -/
theorem State.forceLock_of_held {s : State} {n o : Nat} (m : Master) (h : s.locks.get? n = some o) :
    s.forceLock m n = (({ s with locks := s.locks.del n } : State).raise 2 0).event m.id 0x0102 [n, o, m.id] := by
  simp [State.forceLock, h]

/-- Two states differ in their locks, registers and log at most. -/
def SameButLocks (s t : State) : Prop := t = { s with regs := t.regs, locks := t.locks, log := t.log }

theorem SameButLocks.trans {s t u : State} (h : SameButLocks s t) (k : SameButLocks t u) : SameButLocks s u := by
  unfold SameButLocks at *
  rw [k, h]

/-- Forcing a lock changes locks, registers and the log only. -/
theorem State.forceLock_frame (s : State) (m : Master) (n : Nat) : SameButLocks s (s.forceLock m n) := by
  unfold SameButLocks
  cases h : s.locks.get? n with
  | none => rw [State.forceLock_of_free m h]
  | some o =>
    rw [State.forceLock_of_held m h, State.event_frame]
    rfl

/-- Forcing a lock frees it and leaves the others. -/
theorem State.forceLock_locks (s : State) (m : Master) (n k : Nat) :
    (s.forceLock m n).locks.get? k = if k = n then none else s.locks.get? k := by
  cases h : s.locks.get? n with
  | none =>
    rw [State.forceLock_of_free m h]
    split
    · subst k; exact h
    · rfl
  | some o =>
    rw [State.forceLock_of_held m h, State.event_frame]
    show (s.locks.del n).get? k = _
    split
    · subst k; exact Map.get?_del_same _ _
    · exact Map.get?_del_ne _ ‹_›

/-- An event leaves IRQ_RAW of the LOCKS page. -/
theorem State.event_locksIrq (s : State) (src code : Nat) (ps : List Nat) :
    (s.event src code ps).get (HDR.IRQ_RAW 2) = s.get (HDR.IRQ_RAW 2) := s.get_event_ne src code ps (by decide) (by decide)

/-- FORCED is set once a held lock is forced (R53). -/
theorem State.forceLock_raises {s : State} {n : Nat} (m : Master) (h : (s.locks.get? n).isSome = true) :
    ((s.forceLock m n).get (HDR.IRQ_RAW 2)).testBit 0 = true := by
  obtain ⟨o, ho⟩ := Option.isSome_iff_exists.1 h
  rw [State.forceLock_of_held m ho, State.event_locksIrq]
  exact State.testBit_raise_same _ 2 (by decide)

/-- FORCED stays set when a further lock is forced. -/
theorem State.forceLock_keeps_raised {s : State} (m : Master) (n : Nat) (h : (s.get (HDR.IRQ_RAW 2)).testBit 0 = true) :
    ((s.forceLock m n).get (HDR.IRQ_RAW 2)).testBit 0 = true := by
  cases ho : s.locks.get? n with
  | none => rwa [State.forceLock_of_free m ho]
  | some o =>
    rw [State.forceLock_of_held m ho, State.event_locksIrq]
    exact State.testBit_raise_of_set _ 2 0 (by decide) h

/-- Locks forced one after another, as a write of LOCK_FORCE does. -/
def State.forceLocks (s : State) (m : Master) (l : List Nat) : State := l.foldl (fun t n => t.forceLock m n) s

theorem State.forceLocks_frame (s : State) (m : Master) (l : List Nat) : SameButLocks s (s.forceLocks m l) := by
  induction l generalizing s with
  | nil => rfl
  | cons n l ih => exact (s.forceLock_frame m n).trans (ih _)

/-- Of the locks, those forced are free and the others stay. -/
theorem State.forceLocks_locks (s : State) (m : Master) (l : List Nat) (k : Nat) :
    (s.forceLocks m l).locks.get? k = if k ∈ l then none else s.locks.get? k := by
  induction l generalizing s with
  | nil => rfl
  | cons n l ih =>
    show ((s.forceLock m n).forceLocks m l).locks.get? k = _
    rw [ih, State.forceLock_locks]
    by_cases hk : k = n <;> simp [hk]

theorem State.forceLocks_keeps_raised {s : State} (m : Master) (l : List Nat) (h : (s.get (HDR.IRQ_RAW 2)).testBit 0 = true) :
    ((s.forceLocks m l).get (HDR.IRQ_RAW 2)).testBit 0 = true := by
  induction l generalizing s with
  | nil => exact h
  | cons n l ih => exact ih (State.forceLock_keeps_raised m n h)

/-- FORCED is set once any of the forced locks was held (R53). -/
theorem State.forceLocks_raises {s : State} (m : Master) {l : List Nat} {n : Nat} (hn : n ∈ l)
    (h : (s.locks.get? n).isSome = true) : ((s.forceLocks m l).get (HDR.IRQ_RAW 2)).testBit 0 = true := by
  induction l generalizing s with
  | nil => exact absurd hn List.not_mem_nil
  | cons k l ih =>
    show (((s.forceLock m k).forceLocks m l).get (HDR.IRQ_RAW 2)).testBit 0 = true
    by_cases hk : n = k
    · subst k
      exact State.forceLocks_keeps_raised m l (State.forceLock_raises m h)
    · refine ih ((List.mem_cons.1 hn).resolve_left hk) ?_
      rwa [State.forceLock_locks, if_neg hk]

/-- LOCK_FORCE, for a master that may force: the locks it names are forced (R53). -/
theorem doLockForce_of_mayWrite {s : State} {m : Master} (v : Nat) (hm : m = .mss ∨ m = .hostS) (hw : s.MayWrite m 2 0x044) :
    doLockForce m v s = s.forceLocks m ((List.range 32).filter (bit v)) := by
  rw [doLockForce, if_pos hm, hw.carriedOut]
  rfl

/-- Clearing ENABLE of the LOCKS page releases every lock; OWNER_LOST is raised where one was held (R50, R52). -/
theorem doLocksDisable_of_mayWrite {s : State} {m : Master} (hw : s.MayWrite m 2 0x008) :
    doLocksDisable m s = if s.locks = [] then s.set (HDR.ENABLE 2) 0
      else ({ s.set (HDR.ENABLE 2) 0 with locks := [] } : State).raise 2 1 := by
  rw [doLocksDisable, hw.carriedOut]
  rfl

theorem HDR.ENABLE_two_key_ne_IRQ_RAW : (HDR.ENABLE 2).key ≠ (HDR.IRQ_RAW 2).key := by decide

/-- What clearing ENABLE of the LOCKS page leaves (R50, R52). -/
theorem doLocksDisable_spec {s : State} {m : Master} (hw : s.MayWrite m 2 0x008) :
    let t := doLocksDisable m s
    t.locks = [] ∧ t.get (HDR.ENABLE 2) = 0 ∧ (s.locks ≠ [] → (t.get (HDR.IRQ_RAW 2)).testBit 1 = true) ∧
      KeepsRegs s t [HDR.ENABLE 2, HDR.IRQ_RAW 2] ∧ t = { s with regs := t.regs, locks := [] } := by
  have hset : KeepsRegs s (s.set (HDR.ENABLE 2) 0) [HDR.ENABLE 2, HDR.IRQ_RAW 2] := by
    intro f hf
    exact s.get_set_ne (fun e => hf (by simp [e])) 0
  rw [doLocksDisable_of_mayWrite hw]
  by_cases h : s.locks = []
  · rw [if_pos h]
    refine ⟨h, State.get_set_same _ _ _, fun hne => absurd h hne, hset, ?_⟩
    rw [← h]
    rfl
  · rw [if_neg h]
    refine ⟨rfl, ?_, fun _ => State.testBit_raise_same _ 2 (by decide), ?_, rfl⟩
    · rw [State.get_raise_ne _ HDR.ENABLE_two_key_ne_IRQ_RAW]
      exact State.get_set_same s (HDR.ENABLE 2) 0
    · exact hset.trans ((State.raise_keepsRegs _ 2 1).mono (by simp))

/-- Settles O11: each clause is the equation of its lock operation, read off field by field. -/
theorem locksAreGrantedReleasedAndForced : Obligations.LocksAreGrantedReleasedAndForced := by
  unfold Obligations.LocksAreGrantedReleasedAndForced
  refine ⟨?free, ?held, ?disabled, ?release, ?force, ?clear, ?notForPort, fun m n => mayLock_eq_false_iff m n.val, ?notOwner,
    fun s m n h => State.guardHeld_of_disabled m n h⟩
  case free =>
    intro s m n rivals hr hm hen hfree
    obtain ⟨hle, hone, hall⟩ := lockWinner_spec m rivals n.val
    refine ⟨_, exec_lockAcquireRead n rivals hr, lockWinner m rivals n.val, ?_⟩
    rw [doLockAcquireRead_of_free rivals hr hm hen hfree]
    exact ⟨Map.get?_put_same _ _ _, hle, hone, hall, lockAnswer_eq _ _, fun k hk => Map.get?_put_ne _ hk _, rfl⟩
  case held =>
    intro s m n rivals o hr hm hen hheld
    rw [exec_lockAcquireRead n rivals hr, doLockAcquireRead_of_held rivals hr hm hen hheld]
    rfl
  case disabled =>
    intro s m n rivals hr hm hdis
    rw [exec_lockAcquireRead n rivals hr, doLockAcquireRead_of_disabled rivals hr hm hdis]
  case release =>
    intro s m n hw ho
    exact ⟨_, congrArg Host.Outcome.next (doLockRelease_of_owner hw ho), Map.get?_del_same _ _, fun k hk => Map.get?_del_ne _ hk, rfl⟩
  case force =>
    intro s m v hm hw
    refine ⟨_, congrArg Host.Outcome.next (doLockForce_of_mayWrite v.toNat hm hw), ?_, ?_, ?_⟩
    · intro n
      rw [State.forceLocks_locks]
      simp [bit]
    · rintro ⟨n, hn, hbit, hheld⟩
      exact State.forceLocks_raises m (List.mem_filter.2 ⟨List.mem_range.2 hn, hbit⟩) hheld
    · rw [s.forceLocks_frame m]
      exact ⟨rfl, rfl, rfl, rfl, rfl⟩
  case clear =>
    intro s m hw
    exact ⟨_, rfl, doLocksDisable_spec hw⟩
  case notForPort =>
    intro s m n rivals hr hm
    refine ⟨_, (exec_lockAcquireRead n rivals hr).trans (congrArg _ (doLockAcquireRead_of_not_mayLock rivals hr hm)), rfl,
      s.get_countErr_count .., fun h => s.countErr_captures_code m (by decide) (by decide) h, s.countErr_keepsRegs 2 m 2 _ 1, ?_⟩
    rw [s.countErr_same 2 m 2 (0x080 + 4 * n.val) 1]
  case notOwner =>
    intro s m n v hw h
    have hv : s.locks.get? n.val ≠ some m.id ∨ v.toNat ≠ 0 := h.imp_right fun hne h0 => hne (BitVec.eq_of_toNat_eq h0)
    exact ⟨_, congrArg Host.Outcome.next (doLockRelease_of_not_owner hw hv), s.get_countErr_count ..,
      fun h0 => s.countErr_captures_code m (by decide) (by decide) h0, s.countErr_keepsRegs 2 m 2 _ 4, s.countErr_same ..⟩

end Sys2Proof.Machine

/-! ### The journal and plain writes (R43, R44, R57, R312) -/

namespace Sys2Proof.Machine

/-- A journal record changes the count of the journal and its ring only. -/
theorem State.jotAs_frame (s : State) (k : RecKind) : s.jotAs k = { s with jseq := (s.jotAs k).jseq, ring := (s.jotAs k).ring } := by
  rcases s.jotAs_cases k with h | ⟨-, -, r, h⟩ <;> rw [h]

/-- Two states differ in their registers and their journal at most. -/
def SameButJournal (s t : State) : Prop :=
  t = { s with regs := t.regs, journal := t.journal, jseq := t.jseq, ring := t.ring }

theorem SameButJournal.trans {s t u : State} (h : SameButJournal s t) (k : SameButJournal t u) : SameButJournal s u := by
  unfold SameButJournal at *
  rw [k, h]

/-- What a store of a field writes: the field, after it the journal, and the twin of the field where the other wick copies (R44). -/
theorem State.store_cases (s : State) (f : Field) (v : Nat) :
    s.store f v = s.set f (f.stored v) ∨
    ∃ t : State, t = { s.set f (f.stored v) with journal := t.journal, jseq := t.jseq, ring := t.ring } ∧
      (s.store f v = t ∨ s.store f v = t.set { f with page := twinPage f.page } (f.stored v)) := by
  unfold State.store
  extract_lets t
  split
  next u _ w hw =>
    have htwin : twinPage f.page = w.other.page (f.page % 16) := by rw [twinPage, hw]
    have hu : u = { t with journal := u.journal, jseq := u.jseq, ring := u.ring } := by
      simp only [u]
      rw [State.jotAs_frame]
    rw [htwin]
    split
    · refine .inr ⟨u, hu, ?_⟩
      split
      · exact .inr rfl
      · exact .inl rfl
    · exact .inl rfl
  next => exact .inl rfl

/-- A stored field changes registers and the journal only. -/
theorem State.store_sameButJournal (s : State) (f : Field) (v : Nat) : SameButJournal s (s.store f v) := by
  rcases s.store_cases f v with h | ⟨t, ht, h | h⟩
  · rw [h]
    rfl
  · rw [h, ht]
    rfl
  · rw [h, ht]
    rfl

/-- A stored field leaves every field but itself and its twin. -/
theorem State.store_keepsRegs (s : State) (f : Field) (v : Nat) : KeepsRegs s (s.store f v) (withTwin [f]) := by
  intro g hg
  have hkeys : g.key ≠ f.key ∧ g.key ≠ ({ f with page := twinPage f.page } : Field).key := by simpa [withTwin] using hg
  obtain ⟨hf, htwin⟩ := hkeys
  rcases s.store_cases f v with h | ⟨t, ht, h⟩
  · rw [h, s.get_set_ne hf]
  · have hstored : t.get g = s.get g := by
      rw [ht]
      exact s.get_set_ne hf _
    rcases h with h | h
    · rw [h, hstored]
    · rw [h, State.get_set_ne _ htwin, hstored]

theorem withTwin_subset {l l' : List Field} (h : l ⊆ l') : withTwin l ⊆ withTwin l' := by
  intro f hf
  rcases List.mem_append.1 hf with hf | hf
  · exact List.mem_append_left _ (h hf)
  · exact List.mem_append_right _ (List.map_subset _ h hf)

/-- Steps that each touch at most one field of a list, and its twin, leave every other register and all but the journal. -/
theorem foldl_keeps_of_store {g : State → Field → State} {L : List Field}
    (hg : ∀ t f, f ∈ L → SameButJournal t (g t f) ∧ KeepsRegs t (g t f) (withTwin L)) (l : List Field) (hl : l ⊆ L) (s : State) :
    SameButJournal s (l.foldl g s) ∧ KeepsRegs s (l.foldl g s) (withTwin L) := by
  induction l generalizing s with
  | nil => exact ⟨rfl, fun _ _ => rfl⟩
  | cons f l ih =>
    obtain ⟨hframe, hregs⟩ := hg s f (hl List.mem_cons_self)
    obtain ⟨hframe', hregs'⟩ := ih (fun x hx => hl (List.mem_cons_of_mem _ hx)) (g s f)
    exact ⟨hframe.trans hframe', hregs.trans hregs'⟩

/-- The write of a word outside the submission copies changes the word's fields, their twins and the journal only (R9, R44). -/
theorem State.storeWord_keeps (s : State) (m : Master) {page off : Nat} (v : Nat) (h : isSubmission page off = false) :
    SameButJournal s (s.storeWord m page off v) ∧ KeepsRegs s (s.storeWord m page off v) (withTwin (wordFields page off)) := by
  refine foldl_keeps_of_store (fun t f hf => ?_) _ (List.Subset.refl _) s
  rw [h]
  dsimp only
  split
  · exact ⟨t.store_sameButJournal f _, (t.store_keepsRegs f _).mono (withTwin_subset (by simpa using hf))⟩
  · exact ⟨rfl, fun _ _ => rfl⟩

end Sys2Proof.Machine

/-! ### The configuration banks (R57 to R65, R456) -/

namespace Sys2Proof.Machine

/-- While no final save runs the configuration takes the value it is given, under a record of the journal (R57). -/
theorem State.setCfg_of_not_saving {s : State} (x : Cfg) (h : s.saving = false) :
    ∃ n r, s.setCfg x = { s with cfg := x, jseq := n, ring := r } := by
  unfold State.setCfg
  rw [h]
  exact ⟨_, _, State.jotAs_frame _ _⟩

theorem State.setShadow_frame (s : State) (b : Bank) : s.setShadow b = { s with cfg := (s.setShadow b).cfg } := by
  unfold State.setShadow
  split <;> rfl

/-- While no final save runs a write of the shadow bank is carried out, under a record of the journal (R57). -/
theorem State.writeShadow_of_not_saving {s : State} (b : Bank) (h : s.saving = false) :
    ∃ n r, s.writeShadow b = { s with cfg := (s.setShadow b).cfg, jseq := n, ring := r } := by
  unfold State.writeShadow
  rw [if_neg (by simp [h]), s.setShadow_frame b]
  exact ⟨_, _, State.jotAs_frame _ _⟩

@[simp] theorem State.setShadow_shadow (s : State) (b : Bank) : (s.setShadow b).shadow = b := by
  unfold State.setShadow State.shadow
  split <;> simp [*]

@[simp] theorem State.setShadow_active (s : State) (b : Bank) : (s.setShadow b).active = s.active := by
  unfold State.setShadow State.active
  split <;> simp [*]

/-- What is left owing of the work on the banks is all that settling them changes (R62, R63). -/
theorem State.settleBanks_eq (s : State) : s.settleBanks = { s with cfg := { s.cfg with redo := s.cfg.redo && s.bankOpen } } := rfl

/-! #### ARM and CANCEL (R59, R64) -/

/-- The author's write of the word of ARM and CANCEL: MODE is stored, then ARM acts, then CANCEL. -/
theorem doCfgControl_of_author {s : State} {m : Master} {w : Wick} (v : Nat) (k : State → State) (hw : s.MayWrite m (w.page 0xC) 0x040)
    (hp : s.plainCodes m (w.page 0xC) 0x040 = []) (ha : s.isAuthor w = true) :
    doCfgControl m w v k s =
      let t := s.storeWord m (w.page 0xC) 0x040 v
      let u := if bit v 8 then t.arm1 w (bits v 0 2) else t
      if bit v 9 then k u else u := by
  have hextra : (if bit v 8 ∨ bit v 9 then s.authorCode w else []) = [] := by simp [State.authorCode, ha]
  rw [doCfgControl, hp, hextra, List.append_nil, hw.carriedOut]

/-- The word of MODE, ARM and CANCEL as CFG_ARM writes it. -/
theorem bits_armWord (mode : BitVec 2) :
    bit (mode.toNat + 2 ^ 8) 8 = true ∧ bit (mode.toNat + 2 ^ 8) 9 = false ∧ bits (mode.toNat + 2 ^ 8) 0 2 = mode.toNat := by
  revert mode
  decide

/-- The word of MODE, ARM and CANCEL as CFG_CANCEL writes it. -/
theorem bits_cancelWord (mode : BitVec 2) : bit (mode.toNat + 2 ^ 9) 8 = false ∧ bit (mode.toNat + 2 ^ 9) 9 = true := by
  revert mode
  decide

/-- The registers that decide on an ARM besides MODE. -/
def armFields (w : Wick) : List Field :=
  [HDR.ENABLE (w.page 0xC), CFGBANK.CFG_SWAP_TIME_LO w, CFGBANK.CFG_SWAP_TIME_HI w, TIME.TRUSTED]

/-- A write of MODE leaves the registers that decide on an ARM. -/
theorem State.storeMode_get (s : State) (m : Master) (w : Wick) (v : Nat) {f : Field} (hf : f ∈ armFields w) :
    (s.storeWord m (w.page 0xC) 0x040 v).get f = s.get f := by
  have hsub : isSubmission (w.page 0xC) 0x040 = false := by cases w <;> rfl
  have hkey : ∀ f ∈ armFields w, f.key ∉ (withTwin (wordFields (w.page 0xC) 0x040)).map Field.key := by cases w <;> decide
  exact (s.storeWord_keeps m v hsub).2 f (hkey f hf)

/-- A write of MODE changes registers and the journal only. -/
theorem State.storeMode_sameButJournal (s : State) (m : Master) (w : Wick) (v : Nat) :
    SameButJournal s (s.storeWord m (w.page 0xC) 0x040 v) :=
  (s.storeWord_keeps m v (by cases w <;> rfl)).1

/-- No reason of R65 refuses an ARM in a mode. -/
structure State.Armable (s : State) (w : Wick) (mode : Nat) : Prop where
  notArmed : s.swapArmed = false
  enabled : s.on (HDR.ENABLE (w.page 0xC)) = true
  knownMode : mode = 1 ∨ mode = 2
  noCmd : s.cfg.cmd = none
  noPreset : s.cfg.preset = none
  timeGood : mode = 2 → s.timedReason (s.get2 (CFGBANK.CFG_SWAP_TIME_LO w) (CFGBANK.CFG_SWAP_TIME_HI w)) = 0

/-- The configuration as an accepted ARM leaves it. -/
def State.armedCfg (s : State) (w : Wick) (mode : Nat) : Cfg :=
  { s.cfg with
    state := 1, reason := 0, failedTypes := 0, swapMode := mode
    swapTime := s.get2 (CFGBANK.CFG_SWAP_TIME_LO w) (CFGBANK.CFG_SWAP_TIME_HI w) }

/-- An ARM that no reason refuses takes mode and time, and validation begins (R59). -/
theorem State.Armable.arm1_eq {s : State} {w : Wick} {mode : Nat} (h : s.Armable w mode) : s.arm1 w mode = s.setCfg (s.armedCfg w mode) := by
  obtain ⟨harm, hen, hmode, hcmd, hpre, htime⟩ := h
  have hknown : ¬(mode ≠ 1 ∧ mode ≠ 2) := by omega
  simp only [State.arm1]
  rw [if_neg (by simp [harm]), if_neg (by simp [hen]), if_neg hknown, if_neg (by simp [hcmd, hpre]), if_neg fun ht => ht.2 (htime ht.1)]
  rfl

/-- The swap time is the same where the registers that decide on an ARM are. -/
theorem State.swapTime_congr {s t : State} {w : Wick} (hget : ∀ f ∈ armFields w, t.get f = s.get f) :
    t.get2 (CFGBANK.CFG_SWAP_TIME_LO w) (CFGBANK.CFG_SWAP_TIME_HI w) =
      s.get2 (CFGBANK.CFG_SWAP_TIME_LO w) (CFGBANK.CFG_SWAP_TIME_HI w) := by
  rw [State.get2, hget _ (by simp [armFields]), hget _ (by simp [armFields])]
  rfl

/-- What an ARM leaves is the same in two states that differ in their journal and other registers only. -/
theorem State.armedCfg_congr {s t : State} {w : Wick} (mode : Nat) (hframe : SameButJournal s t)
    (hget : ∀ f ∈ armFields w, t.get f = s.get f) : t.armedCfg w mode = s.armedCfg w mode := by
  have hcfg : t.cfg = s.cfg := by rw [hframe]
  rw [State.armedCfg, hcfg, State.swapTime_congr hget]
  rfl

/-- Whether an ARM is refused is the same in two states that differ in their journal and other registers only. -/
theorem State.Armable.congr {s t : State} {w : Wick} {mode : Nat} (h : s.Armable w mode) (hframe : SameButJournal s t)
    (hget : ∀ f ∈ armFields w, t.get f = s.get f) : t.Armable w mode := by
  have hcfg : t.cfg = s.cfg := by rw [hframe]
  have hnow : t.now = s.now := by rw [hframe]
  have hon : ∀ f ∈ armFields w, t.on f = s.on f := fun f hf => by rw [State.on, hget f hf]; rfl
  obtain ⟨harm, hen, hmode, hcmd, hpre, htime⟩ := h
  refine ⟨by rwa [State.swapArmed, hcfg], by rwa [hon _ (by simp [armFields])], hmode, by rwa [hcfg], by rwa [hcfg], fun h2 => ?_⟩
  rw [State.swapTime_congr hget, State.timedReason, hon _ (by simp [armFields]), hnow]
  exact htime h2

/-- CFG_ARM by the author, where no reason refuses it (R59). -/
theorem exec_cfgArm_accepted {s : State} {m : Master} {w : Wick} {mode : BitVec 2} (hw : s.MayWrite m (w.page 0xC) 0x040)
    (hp : s.plainCodes m (w.page 0xC) 0x040 = []) (ha : s.isAuthor w = true) (hsave : s.saving = false) (h : s.Armable w mode.toNat) :
    Answers (exec (.cfgArm m w mode) s) (fun t =>
      t.cfg = s.armedCfg w mode.toNat ∧
      t = { s with cfg := t.cfg, regs := t.regs, journal := t.journal, jseq := t.jseq, ring := t.ring }) := by
  obtain ⟨harmBit, hcancelBit, hmodeBits⟩ := bits_armWord mode
  have hframe := s.storeMode_sameButJournal m w (mode.toNat + 2 ^ 8)
  have hget : ∀ f ∈ armFields w, (s.storeWord m (w.page 0xC) 0x040 (mode.toNat + 2 ^ 8)).get f = s.get f :=
    fun f hf => s.storeMode_get m w _ hf
  have hsaving : (s.storeWord m (w.page 0xC) 0x040 (mode.toNat + 2 ^ 8)).saving = false := by
    rw [hframe]
    exact hsave
  obtain ⟨n, r, hset⟩ := State.setCfg_of_not_saving (s.armedCfg w mode.toNat) hsaving
  refine ⟨_, congrArg Host.Outcome.next (doCfgControl_of_author (mode.toNat + 2 ^ 8) id hw hp ha), ?_⟩
  simp only [harmBit, hcancelBit, hmodeBits, if_true, Bool.false_eq_true, if_false]
  rw [(h.congr hframe hget).arm1_eq, State.armedCfg_congr _ hframe hget, hset, hframe]
  exact ⟨rfl, rfl⟩

/-- CANCEL of an armed swap by the author (R64). -/
theorem exec_cfgCancel_armed {s : State} {m : Master} {w : Wick} {mode : BitVec 2} (hw : s.MayWrite m (w.page 0xC) 0x040)
    (hp : s.plainCodes m (w.page 0xC) 0x040 = []) (ha : s.isAuthor w = true) (harm : s.swapArmed = true) (hsave : s.saving = false) :
    Answers (exec (.cfgCancel m w mode false) s) (fun t =>
      t.cfg = { s.cfg with state := 5, reason := 0 } ∧ (t.get (HDR.IRQ_RAW (w.page 0xC))).testBit 2 = true ∧
      t = { s with cfg := t.cfg, regs := t.regs, journal := t.journal, jseq := t.jseq, ring := t.ring }) := by
  obtain ⟨harmBit, hcancelBit⟩ := bits_cancelWord mode
  have hframe := s.storeMode_sameButJournal m w (mode.toNat + 2 ^ 9)
  have hcfg : (s.storeWord m (w.page 0xC) 0x040 (mode.toNat + 2 ^ 9)).cfg = s.cfg := by rw [hframe]
  have hsaving : (s.storeWord m (w.page 0xC) 0x040 (mode.toNat + 2 ^ 9)).saving = false := by
    rw [hframe]
    exact hsave
  obtain ⟨n, r, hset⟩ := State.setCfg_of_not_saving { s.cfg with state := 5, reason := 0 } hsaving
  refine ⟨_, congrArg Host.Outcome.next (doCfgControl_of_author (mode.toNat + 2 ^ 9) _ hw hp ha), ?_⟩
  simp only [harmBit, hcancelBit, if_true, Bool.false_eq_true, if_false, State.cancel1]
  rw [if_pos (by rwa [State.swapArmed, hcfg]), hcfg, hset]
  refine ⟨rfl, State.testBit_raise_same _ _ (by decide), ?_⟩
  rw [hframe]
  rfl

/-! #### The end of the validation (R59, R60, R63) -/

/-- An ARM refused outside a final save leaves the state REFUSED with its reason, and raises SWAP_REFUSED (R65). -/
theorem State.refuseArm_of_not_saving {s : State} (w : Wick) (reason : Nat) (h : s.saving = false) :
    ∃ n r, s.refuseArm w reason =
      ({ s with cfg := { s.cfg with state := 4, reason := reason }, jseq := n, ring := r } : State).raise (w.page 0xC) 1 := by
  obtain ⟨n, r, hset⟩ := State.setCfg_of_not_saving { s.cfg with state := 4, reason := reason } h
  exact ⟨n, r, congrArg (State.raise · (w.page 0xC) 1) hset⟩

/-- What the end of the validation does at an AUTHOR that runs (R59, R60, R63). -/
theorem doCfgValidationDone_of_author {s : State} {w : Wick} (hauth : s.author = some w) (hstop : s.stopped w = false)
    (hsave : s.saving = false) (hst : s.cfg.state = 1) :
    doCfgValidationDone s =
      (if s.shadowFails ≠ 0 then ({ s with cfg := { s.cfg with failedTypes := s.shadowFails } } : State).refuseArm w 4
      else if s.cfg.swapMode = 2 then
        if s.timedReason s.cfg.swapTime ≠ 0 then s.refuseArm w (s.timedReason s.cfg.swapTime)
        else s.setCfg { s.cfg with state := 2, swapAt := s.cfg.swapTime }
      else s.setCfg { s.cfg with state := 2, swapAt := nextMultiple (s.now + millis 100) s.active.beaconTicks }).settleBanks := by
  simp only [doCfgValidationDone, hauth]
  rw [if_pos ⟨hst, hstop, hsave⟩]

/-- Where the shadow bank fails its validation the swap is refused (R59). -/
theorem exec_cfgValidationDone_fails {s : State} {w : Wick} (hauth : s.author = some w) (hstop : s.stopped w = false)
    (hsave : s.saving = false) (hst : s.cfg.state = 1) (hf : s.shadowFails ≠ 0) :
    Answers (exec .cfgValidationDone s) (fun t =>
      t.cfg = { s.cfg with state := 4, reason := 4, failedTypes := s.shadowFails, redo := s.cfg.redo && t.bankOpen } ∧
      (t.get (HDR.IRQ_RAW (w.page 0xC))).testBit 1 = true ∧ KeepsRegs s t [HDR.IRQ_RAW (w.page 0xC)] ∧
      t = { s with cfg := t.cfg, regs := t.regs, jseq := t.jseq, ring := t.ring }) := by
  obtain ⟨n, r, hrefuse⟩ :=
    State.refuseArm_of_not_saving (s := { s with cfg := { s.cfg with failedTypes := s.shadowFails } }) w 4 hsave
  refine ⟨_, congrArg Host.Outcome.next (doCfgValidationDone_of_author hauth hstop hsave hst), ?_⟩
  rw [if_pos hf, hrefuse]
  exact ⟨rfl, State.testBit_raise_same _ _ (by decide), State.raise_keepsRegs _ _ 1, rfl⟩

/-- Where the shadow bank is good an immediate swap is armed with its instant (R60). -/
theorem exec_cfgValidationDone_passes {s : State} {w : Wick} (hauth : s.author = some w) (hstop : s.stopped w = false)
    (hsave : s.saving = false) (hst : s.cfg.state = 1) (hf : s.shadowFails = 0) (hmode : s.cfg.swapMode = 1) :
    Answers (exec .cfgValidationDone s) (fun t =>
      t.cfg = { s.cfg with
        state := 2, swapAt := nextMultiple (s.now + millis 100) s.active.beaconTicks, redo := s.cfg.redo && t.bankOpen } ∧
      t = { s with cfg := t.cfg, jseq := t.jseq, ring := t.ring }) := by
  obtain ⟨n, r, hset⟩ := State.setCfg_of_not_saving
    { s.cfg with state := 2, swapAt := nextMultiple (s.now + millis 100) s.active.beaconTicks } hsave
  refine ⟨_, congrArg Host.Outcome.next (doCfgValidationDone_of_author hauth hstop hsave hst), ?_⟩
  rw [if_neg (not_not_intro hf), if_neg (by omega), hset]
  exact ⟨rfl, rfl⟩

/-! #### Bank commands (R65, R456) -/

/-- A bank command by the author is taken while no swap is armed and no other runs (R65, R456). -/
theorem doCfgCmd_accepted {s : State} {m : Master} {w : Wick} (c : BankCmd) (hw : s.MayWrite m (w.page 0xC) 0x068)
    (hp : s.plainCodes m (w.page 0xC) 0x068 = []) (ha : s.isAuthor w = true) (harm : s.swapArmed = false) (hsave : s.saving = false)
    (hcmd : s.cfg.cmd = none) :
    ∃ n r, doCfgCmd m w c s = { s with cfg := { s.cfg with cmd := some c, cmdDone := false, cmdFailed := 0 }, jseq := n, ring := r } := by
  have hextra : s.plainCodes m (w.page 0xC) 0x068 ++ s.authorCode w ++ (if s.swapArmed then [0x6] else []) ++
      (if s.cfg.cmd.isSome then [0x8] else []) = [] := by
    simp [hp, State.authorCode, ha, harm, hcmd]
  simp only [doCfgCmd]
  rw [hextra, hw.carriedOut]
  exact State.setCfg_of_not_saving _ hsave

/-- The shadow bank as a bank command leaves it at its completion (R65, R456). -/
def State.shadowAfter (s : State) : BankCmd → Bank
  | .copyActive => s.copiedShadow
  | .clearShadow => s.clearedShadow
  | .validate => s.shadow

/-- The content types a bank command finds failing: VALIDATE judges, the others do not (R65). -/
def State.failsOf (s : State) : BankCmd → Nat
  | .validate => s.shadowFails
  | _ => 0

/-- The end of a bank command at an AUTHOR that runs: the shadow bank takes what the command leaves in it, the active bank stays, the
verdict is noted and CMD_DONE raised (R65, R456). -/
theorem doCfgCmdDone_of_author {s : State} {w : Wick} {c : BankCmd} (hcmd : s.cfg.cmd = some c) (hauth : s.author = some w)
    (hstop : s.stopped w = false) (hsave : s.saving = false) :
    ∃ x n r, doCfgCmdDone s =
        (({ s with cfg := { x with cmd := none, cmdDone := decide (s.failsOf c = 0), cmdFailed := s.failsOf c }
                   jseq := n, ring := r } : State).raise (w.page 0xC) 3).settleBanks ∧
      ({ s with cfg := x } : State).shadow = s.shadowAfter c ∧ ({ s with cfg := x } : State).active = s.active := by
  have hruns : ¬(s.stopped w = true ∨ s.saving = true) := by simp [hstop, hsave]
  have hwritten : ∀ b : Bank, ∃ n r,
      (s.writeShadow b).setCfg { (s.writeShadow b).cfg with
          cmd := none, cmdDone := decide (s.failsOf c = 0), cmdFailed := s.failsOf c } =
        { s with
          cfg := { (s.setShadow b).cfg with cmd := none, cmdDone := decide (s.failsOf c = 0), cmdFailed := s.failsOf c }
          jseq := n, ring := r } := by
    intro b
    obtain ⟨n, r, hb⟩ := State.writeShadow_of_not_saving b hsave
    rw [hb]
    exact State.setCfg_of_not_saving _ hsave
  simp only [doCfgCmdDone, hcmd, hauth]
  rw [if_neg hruns]
  cases c with
  | copyActive =>
    obtain ⟨n, r, h⟩ := hwritten s.copiedShadow
    refine ⟨_, n, r, congrArg (fun t : State => (t.raise (w.page 0xC) 3).settleBanks) h, ?_⟩
    rw [← State.setShadow_frame]
    exact ⟨s.setShadow_shadow _, s.setShadow_active _⟩
  | clearShadow =>
    obtain ⟨n, r, h⟩ := hwritten s.clearedShadow
    refine ⟨_, n, r, congrArg (fun t : State => (t.raise (w.page 0xC) 3).settleBanks) h, ?_⟩
    rw [← State.setShadow_frame]
    exact ⟨s.setShadow_shadow _, s.setShadow_active _⟩
  | validate =>
    obtain ⟨n, r, h⟩ := State.setCfg_of_not_saving
      { s.cfg with cmd := none, cmdDone := decide (s.failsOf .validate = 0), cmdFailed := s.failsOf .validate } hsave
    exact ⟨s.cfg, n, r, congrArg (fun t : State => (t.raise (w.page 0xC) 3).settleBanks) h, rfl, rfl⟩

/-- What the end of a bank command leaves (R65, R456). -/
theorem exec_cfgCmdDone_of_author {s : State} {w : Wick} {c : BankCmd} (hcmd : s.cfg.cmd = some c) (hauth : s.author = some w)
    (hstop : s.stopped w = false) (hsave : s.saving = false) :
    Answers (exec .cfgCmdDone s) (fun t =>
      t.cfg.cmd = none ∧ t.active = s.active ∧ t.shadow = s.shadowAfter c ∧
      t.cfg.cmdFailed = s.failsOf c ∧ t.cfg.cmdDone = decide (s.failsOf c = 0) ∧
      (t.get (HDR.IRQ_RAW (w.page 0xC))).testBit 3 = true ∧ KeepsRegs s t [HDR.IRQ_RAW (w.page 0xC)] ∧
      t = { s with cfg := t.cfg, regs := t.regs, jseq := t.jseq, ring := t.ring }) := by
  obtain ⟨x, n, r, hdone, hshadow, hactive⟩ := doCfgCmdDone_of_author hcmd hauth hstop hsave
  exact ⟨_, congrArg Host.Outcome.next hdone, rfl, hactive, hshadow, rfl, rfl, State.testBit_raise_same _ _ (by decide),
    State.raise_keepsRegs _ _ 3, rfl⟩

end Sys2Proof.Machine

/-! ### What takes effect at a swap leaves the banks, the roles and the keys (R61) -/

namespace Sys2Proof.Machine

/-- The configuration, the roles, the keys and the final save are the same in two states. -/
structure KeepsBanks (s t : State) : Prop where
  cfg : t.cfg = s.cfg
  roleA : t.roleA = s.roleA
  roleB : t.roleB = s.roleB
  keys : t.keys = s.keys
  saving : t.saving = s.saving

theorem KeepsBanks.refl (s : State) : KeepsBanks s s := ⟨rfl, rfl, rfl, rfl, rfl⟩

theorem KeepsBanks.trans {s t u : State} (h : KeepsBanks s t) (k : KeepsBanks t u) : KeepsBanks s u :=
  ⟨k.cfg.trans h.cfg, k.roleA.trans h.roleA, k.roleB.trans h.roleB, k.keys.trans h.keys, k.saving.trans h.saving⟩

/-- A choice between two steps that keep the banks keeps them. -/
theorem KeepsBanks.ite {s t u : State} {c : Prop} [Decidable c] (h : KeepsBanks s t) (k : KeepsBanks s u) :
    KeepsBanks s (if c then t else u) := by
  split
  · exact h
  · exact k

/-- Steps that each keep the banks keep them together. -/
theorem KeepsBanks.foldl {α : Type} {g : State → α → State} (hg : ∀ t x, KeepsBanks t (g t x)) (l : List α) (s : State) :
    KeepsBanks s (l.foldl g s) := by
  induction l generalizing s with
  | nil => exact .refl s
  | cons x l ih => exact (hg s x).trans (ih _)

theorem SameButRegs.keepsBanks {s t : State} (h : SameButRegs s t) : KeepsBanks s t := by
  rw [h]
  exact ⟨rfl, rfl, rfl, rfl, rfl⟩

theorem KeepsBanks.jot {s t : State} (h : KeepsBanks s t) : KeepsBanks s t.jot := by
  refine h.trans ?_
  rw [State.jot, State.jotAs_frame]
  exact ⟨rfl, rfl, rfl, rfl, rfl⟩

theorem KeepsBanks.raise {s t : State} {p n : Nat} (h : KeepsBanks s t) : KeepsBanks s (t.raise p n) :=
  h.trans (t.raise_same p n).keepsBanks

theorem State.event_keepsBanks (s : State) (src code : Nat) (ps : List Nat) : KeepsBanks s (s.event src code ps) := by
  rw [State.event_frame]
  exact ⟨rfl, rfl, rfl, rfl, rfl⟩

/-! #### The lantern registry -/

theorem State.rset_keepsBanks (s : State) (a off n v : Nat) : KeepsBanks s (s.rset a off n v) := by
  unfold State.rset
  exact KeepsBanks.jot ⟨rfl, rfl, rfl, rfl, rfl⟩

theorem State.raisePush_keepsBanks (s : State) (a n : Nat) : KeepsBanks s (s.raisePush a n) :=
  (KeepsBanks.refl s).ite (s.rset_keepsBanks ..)

theorem State.assignSample_keepsBanks (s : State) (a : Nat) : KeepsBanks s (s.assignSample a) :=
  (KeepsBanks.refl s).ite ((s.rset_keepsBanks ..).trans (State.rset_keepsBanks ..))

theorem State.checkPin_keepsBanks (s : State) (a : Nat) : KeepsBanks s (s.checkPin a) := by
  unfold State.checkPin
  split
  · exact ((s.rset_keepsBanks ..).trans (State.assignSample_keepsBanks _ a)).trans (State.raisePush_keepsBanks _ a 0)
  · exact .refl s

/-! #### The region profile -/

theorem State.endPresumptions_keepsBanks (s : State) (l : Ledger) : KeepsBanks s (s.endPresumptions l) := by
  unfold State.endPresumptions
  dsimp only
  split <;> exact ⟨rfl, rfl, rfl, rfl, rfl⟩

theorem State.carryLedger_keepsBanks (s : State) (old new : Bank) : KeepsBanks s (s.carryLedger old new) :=
  s.endPresumptions_keepsBanks _

theorem State.releaseDemods_keepsBanks (s : State) (w : Wick) : KeepsBanks s (s.releaseDemods w) :=
  KeepsBanks.foldl (g := fun t d => t.releaseDemod w d) (fun _ _ => ⟨rfl, rfl, rfl, rfl, rfl⟩) _ s

theorem State.profileSwapped_keepsBanks (s : State) (old new : Bank) : KeepsBanks s (s.profileSwapped old new) := by
  have hdemods : KeepsBanks s (((s.carryLedger old new).releaseDemods .a).releaseDemods .b) :=
    ((s.carryLedger_keepsBanks old new).trans (State.releaseDemods_keepsBanks _ .a)).trans (State.releaseDemods_keepsBanks _ .b)
  have hpins := hdemods.trans (KeepsBanks.foldl State.checkPin_keepsBanks
    (((s.carryLedger old new).releaseDemods .a).releaseDemods .b).entries _)
  unfold State.profileSwapped
  dsimp only
  split
  · exact hpins
  · exact hpins.trans (KeepsBanks.foldl (fun t a => t.raisePush_keepsBanks a 4) _ _)

/-! #### Schedules and groups -/

theorem State.setSlot_keepsBanks (s : State) (n : Nat) (x : Slot) : KeepsBanks s (s.setSlot n x) := by
  unfold State.setSlot
  exact KeepsBanks.jot ⟨rfl, rfl, rfl, rfl, rfl⟩

theorem State.takeSlot_keepsBanks (s : State) (n : Nat) (d : Desc) (since : Nat) : KeepsBanks s (s.takeSlot n d since) :=
  (s.setSlot_keepsBanks n _).trans ⟨rfl, rfl, rfl, rfl, rfl⟩

theorem State.submit_keepsBanks (s : State) (d : Desc) : KeepsBanks s (s.submit d) := by
  unfold State.submit
  split
  · split
    · exact s.takeSlot_keepsBanks _ d _
    · exact KeepsBanks.jot ⟨rfl, rfl, rfl, rfl, rfl⟩
  · exact .refl s

/-- A plan for a program's target is sent, or becomes pending at its members. -/
theorem State.scheduleSwapped_keepsBanks (s : State) (old new : Bank) : KeepsBanks s (s.scheduleSwapped old new) := by
  have hpush : ∀ (n : Nat) (l : List Nat) (t : State), KeepsBanks t (l.foldl (fun (t : State) a => t.raisePush a n) t) :=
    fun n => KeepsBanks.foldl (fun t a => t.raisePush_keepsBanks a n)
  unfold State.scheduleSwapped
  extract_lets l t1 t2 affected t3
  have hplans : KeepsBanks t2 t3 := by
    refine KeepsBanks.foldl (fun t p => ?_) affected t2
    split
    · exact t.submit_keepsBanks _
    · exact hpush 2 _ t
  exact (((hpush 1 _ s).trans (hpush 2 _ t1)).trans hplans).trans ⟨rfl, rfl, rfl, rfl, rfl⟩

/-! #### Waves -/

theorem KeepsBanks.setWave {s t : State} {x : Wave} (h : KeepsBanks s t) : KeepsBanks s (t.setWave x) := by
  refine h.trans ?_
  unfold State.setWave
  exact KeepsBanks.jot ⟨rfl, rfl, rfl, rfl, rfl⟩

theorem State.waveSwapped_keepsBanks (s : State) (old new : Bank) : KeepsBanks s (s.waveSwapped old new) := by
  unfold State.waveSwapped State.profileReset
  split
  · exact (KeepsBanks.refl s).setWave.trans (State.event_keepsBanks _ _ _ _)
  · exact .refl s

theorem State.fabPost_keepsBanks (s : State) (ltype odest : Nat) (body : List Byte) : KeepsBanks s (s.fabPost ltype odest body) := by
  unfold State.fabPost
  split <;> exact ⟨rfl, rfl, rfl, rfl, rfl⟩

theorem State.fabPostSeg_keepsBanks (s : State) (ltype seg : Nat) (body : List Byte) : KeepsBanks s (s.fabPostSeg ltype seg body) := by
  unfold State.fabPostSeg
  split
  · split
    · exact s.fabPost_keepsBanks ltype _ body
    · exact (s.bump_same _ 1).keepsBanks
  · exact .refl s

/-- A hand-off takes a number where its track has no wave, is posted, and counted where it leaves. -/
theorem State.sendHandoff_keepsBanks (s : State) (k : Track) (node flags tArr : Nat) (v : Rat) :
    KeepsBanks s (s.sendHandoff k node flags tArr v) := by
  unfold State.sendHandoff
  extract_lets b
  split
  next id t hdraw =>
    have ht : KeepsBanks s t := by
      cases hw : k.wave with
      | none =>
        rw [hw] at hdraw
        obtain ⟨-, rfl⟩ := Prod.mk.inj hdraw
        exact ⟨rfl, rfl, rfl, rfl, rfl⟩
      | some x =>
        rw [hw] at hdraw
        obtain ⟨-, rfl⟩ := Prod.mk.inj hdraw
        exact .refl s
    extract_lets body u
    have hu : KeepsBanks s u := ht.trans (t.fabPostSeg_keepsBanks _ _ _)
    split
    · exact hu
    · exact hu.trans (u.bump_same _ 1).keepsBanks

/-- The end of a track ends its wave, cancels its hand-offs and forgets it. -/
theorem State.endTrack_keepsBanks (s : State) (n : Nat) (cancels : Bool) : KeepsBanks s (s.endTrack n cancels) := by
  unfold State.endTrack
  split
  · exact .refl s
  next k _ =>
    extract_lets t u
    have ht : KeepsBanks s t := by
      simp only [t]
      split
      · exact .refl s
      · exact (s.event_keepsBanks _ _ _).raise.setWave
    have hu : KeepsBanks t u := by
      simp only [u]
      split
      · refine KeepsBanks.foldl (fun t h => ?_) _ t
        exact t.sendHandoff_keepsBanks k h.1 2 h.2 _
      · exact .refl t
    exact (ht.trans hu).setWave

theorem State.endTracks_keepsBanks (s : State) (cancels : Bool) : KeepsBanks s (s.endTracks cancels) :=
  KeepsBanks.foldl (fun t n => t.endTrack_keepsBanks n cancels) _ s

/-! #### The swap -/

/-- The configuration once a commit word names a half: the swap is counted and complete (R61). -/
def Cfg.swapped (c : Cfg) (half : Bool) (count now : Nat) : Cfg :=
  { c with
    activeHalf := half, commitHalf := half, commits := commitOf half count now :: c.commits.take 1, commitCount := count, state := 3
    reason := 0, lastAt := now }

/-- The state in which a swap writes its commit word: the waves whose configuration changes have ended (R215). -/
def State.beforeSwap (s : State) : State := if wavesChange s.dirtyTypes s.active s.shadow then s.endTracks true else s

/-- The commit word is written, SWAP_DONE raised and the event logged (R61). -/
def State.commitSwap (s : State) (w : Wick) (half : Bool) (count : Nat) : State :=
  let t := (s.setCfg (s.cfg.swapped half count s.now)).raise (w.page 0xC) 0
  t.event t.srcCtl 0x0103 [count, s.now, s.now / 2 ^ 24]

/-- A changed region profile takes effect. -/
def State.swapProfile (s : State) (changed : Nat) (old new : Bank) : State :=
  if bit changed 4 then s.profileSwapped old new else s

/-- A changed schedule, group map or SH field takes effect. -/
def State.swapSchedule (s : State) (changed : Nat) (old new : Bank) : State :=
  if bit changed 0 ∨ bit changed 1 then s.scheduleSwapped old new
  else if bit changed 6 then { s with reg := { s.reg with day := none } } else s

/-- A changed street graph takes effect. -/
def State.swapWaves (s : State) (changed : Nat) (old new : Bank) : State :=
  if wavesChange changed old new then s.waveSwapped old new else s

/-- A swap ends the waves, writes the commit word, and lets each content type take effect. -/
theorem State.swapNow_eq (s : State) (w : Wick) :
    s.swapNow w =
      (((s.beforeSwap.commitSwap w (!s.cfg.activeHalf) ((s.cfg.commitCount + 1) % 2 ^ 16)).swapProfile s.dirtyTypes s.active
        s.shadow).swapSchedule s.dirtyTypes s.active s.shadow).swapWaves s.dirtyTypes s.active s.shadow := rfl

theorem State.beforeSwap_keepsBanks (s : State) : KeepsBanks s s.beforeSwap := (s.endTracks_keepsBanks true).ite (.refl s)

/-- What takes effect once the commit word is written does not reach back to the banks. -/
theorem State.swapEffects_keepsBanks (s : State) (changed : Nat) (old new : Bank) :
    KeepsBanks s (((s.swapProfile changed old new).swapSchedule changed old new).swapWaves changed old new) := by
  have hprofile : KeepsBanks s (s.swapProfile changed old new) := (s.profileSwapped_keepsBanks old new).ite (.refl s)
  have hschedule : ∀ t : State, KeepsBanks t (t.swapSchedule changed old new) := fun t =>
    (t.scheduleSwapped_keepsBanks old new).ite (KeepsBanks.ite ⟨rfl, rfl, rfl, rfl, rfl⟩ (.refl t))
  have hwaves : ∀ t : State, KeepsBanks t (t.swapWaves changed old new) := fun t =>
    (t.waveSwapped_keepsBanks old new).ite (.refl t)
  exact (hprofile.trans (hschedule _)).trans (hwaves _)

/-- Outside a final save the commit word is written; the event then leaves the configuration. -/
theorem State.commitSwap_cfg {s : State} (w : Wick) (half : Bool) (count : Nat) (hsave : s.saving = false) :
    (s.commitSwap w half count).cfg = s.cfg.swapped half count s.now ∧ (s.commitSwap w half count).roleA = s.roleA ∧
      (s.commitSwap w half count).roleB = s.roleB ∧ (s.commitSwap w half count).keys = s.keys := by
  obtain ⟨n, r, hset⟩ := State.setCfg_of_not_saving (s.cfg.swapped half count s.now) hsave
  unfold State.commitSwap
  rw [hset, State.event_frame]
  exact ⟨rfl, rfl, rfl, rfl⟩

/-- A swap outside a final save leaves the swapped configuration, with the roles and the keys as they were (R61). -/
theorem State.swapNow_spec {s : State} (w : Wick) (hsave : s.saving = false) :
    ∃ now, (s.swapNow w).cfg = s.cfg.swapped (!s.cfg.activeHalf) ((s.cfg.commitCount + 1) % 2 ^ 16) now ∧
      (s.swapNow w).roleA = s.roleA ∧ (s.swapNow w).roleB = s.roleB ∧ (s.swapNow w).keys = s.keys := by
  have hbefore := s.beforeSwap_keepsBanks
  obtain ⟨hcfg, hA, hB, hkeys⟩ := State.commitSwap_cfg w (!s.cfg.activeHalf) ((s.cfg.commitCount + 1) % 2 ^ 16)
    (hbefore.saving.trans hsave)
  rw [hbefore.cfg] at hcfg
  have hafter := State.swapEffects_keepsBanks (s.beforeSwap.commitSwap w (!s.cfg.activeHalf) ((s.cfg.commitCount + 1) % 2 ^ 16))
    s.dirtyTypes s.active s.shadow
  rw [State.swapNow_eq]
  exact ⟨_, hafter.cfg.trans hcfg, hafter.roleA.trans (hA.trans hbefore.roleA), hafter.roleB.trans (hB.trans hbefore.roleB),
    hafter.keys.trans (hkeys.trans hbefore.keys)⟩

/-- Once the other half is the active one the banks are exchanged (R58). -/
theorem State.banks_exchanged {s t : State} (h0 : t.cfg.half0 = s.cfg.half0) (h1 : t.cfg.half1 = s.cfg.half1)
    (h : t.cfg.activeHalf = !s.cfg.activeHalf) : t.active = s.shadow ∧ t.shadow = s.active := by
  simp only [State.active, State.shadow, h0, h1, h]
  cases s.cfg.activeHalf <;> exact ⟨rfl, rfl⟩

/-- At the instant of an armed swap the banks are exchanged; the swap is counted, and the roles and keys stay (R60 to R62). -/
theorem exec_cfgSwapInstant_due {s : State} {w : Wick} (hauth : s.author = some w) (hstop : s.stopped w = false)
    (hsave : s.saving = false) (hst : s.cfg.state = 2) (hdue : s.cfg.swapAt ≤ s.now) :
    Answers (exec .cfgSwapInstant s) (fun t =>
      t.active = s.shadow ∧ t.shadow = s.active ∧ t.cfg.commitHalf = t.cfg.activeHalf ∧ t.cfg.state = 3 ∧
      t.cfg.commitCount = (s.cfg.commitCount + 1) % 2 ^ 16 ∧ t.roleA = s.roleA ∧ t.roleB = s.roleB ∧ t.keys = s.keys) := by
  have hrun : doCfgSwapInstant s = (s.swapNow w).settleBanks := by
    simp only [doCfgSwapInstant, hauth]
    rw [if_pos ⟨hst, hdue, hstop, hsave⟩]
  obtain ⟨now, hcfg, hA, hB, hkeys⟩ := State.swapNow_spec w hsave
  obtain ⟨hactive, hshadow⟩ : (s.swapNow w).settleBanks.active = s.shadow ∧ (s.swapNow w).settleBanks.shadow = s.active := by
    rw [State.settleBanks_eq, hcfg]
    exact State.banks_exchanged rfl rfl rfl
  refine ⟨_, congrArg Host.Outcome.next hrun, hactive, hshadow, ?_⟩
  rw [State.settleBanks_eq, hcfg]
  exact ⟨rfl, rfl, rfl, hA, hB, hkeys⟩

/-- Settles O13: each clause is the lemma of its command; at a swap nothing that takes effect touches the banks again. -/
theorem swapsAndBankCommands : Obligations.SwapsAndBankCommands := by
  unfold Obligations.SwapsAndBankCommands
  refine ⟨?arm, ?validated, fun s m w mode => exec_cfgCancel_armed, fun s w hauth hstop hsave hst hdue =>
    exec_cfgSwapInstant_due hauth hstop hsave hst hdue, ?command, ?done⟩
  case arm =>
    intro s m w mode hw hp ha harm hsave hen hmode hcmd hpre htime
    exact exec_cfgArm_accepted hw hp ha hsave
      ⟨harm, hen, hmode.imp (congrArg BitVec.toNat) (congrArg BitVec.toNat), hcmd, hpre, fun h2 => htime (BitVec.eq_of_toNat_eq h2)⟩
  case validated =>
    intro s w hauth hstop hsave hst
    exact ⟨exec_cfgValidationDone_passes hauth hstop hsave hst, exec_cfgValidationDone_fails hauth hstop hsave hst⟩
  case command =>
    intro s m w x c hx hw hp ha harm hsave hcmd
    obtain ⟨n, r, hdo⟩ := doCfgCmd_accepted c hw hp ha harm hsave hcmd
    have hexec : exec x s = .next (doCfgCmd m w c s) := by
      rcases hx with ⟨rfl, rfl⟩ | ⟨rfl, rfl⟩ | ⟨rfl, rfl⟩ <;> rfl
    exact ⟨_, hexec.trans (congrArg _ hdo), rfl, rfl⟩
  case done =>
    intro s w c hcmd hauth hstop hsave
    obtain ⟨t, hexec, hnone, hactive, hshadow, hfailed, hdone, hirq, hregs, hframe⟩ := exec_cfgCmdDone_of_author hcmd hauth hstop hsave
    refine ⟨t, hexec, hnone, hactive, ?_, ?_, ?_, hirq, hregs, hframe⟩
    · rintro rfl
      rw [hshadow]
      exact ⟨rfl, rfl, hdone⟩
    · rintro rfl
      rw [hshadow]
      exact ⟨rfl, rfl, hdone⟩
    · rintro rfl
      exact ⟨hshadow, hfailed, hdone⟩

end Sys2Proof.Machine

/-! ### Registers of a mailbox channel (R94) -/

namespace Sys2Proof.Machine

theorem KeepsRegs.refl (s : State) (l : List Field) : KeepsRegs s s l := fun _ _ => rfl

/-- A write of a field that a frame names keeps the frame. -/
theorem KeepsRegs.set {s t : State} {l : List Field} {f : Field} (h : KeepsRegs s t l) (hf : f ∈ l) (v : Nat) : KeepsRegs s (t.set f v) l := by
  intro g hg
  have hne : g.key ≠ f.key := fun e => hg (List.mem_map.2 ⟨f, hf, e.symm⟩)
  exact (t.get_set_ne hne v).trans (h g hg)

/-- A condition raises an interrupt of a page. -/
def State.raiseIf (s : State) (c : Bool) (p n : Nat) : State := if c then s.raise p n else s

theorem State.raiseIf_same (s : State) (c : Bool) (p n : Nat) : SameButRegs s (s.raiseIf c p n) := by
  cases c <;> rfl

theorem State.testBit_raiseIf (s : State) {c : Bool} (p : Nat) {n : Nat} (hc : c = true) (hn : n < 32) :
    ((s.raiseIf c p n).get (HDR.IRQ_RAW p)).testBit n = true := by
  rw [State.raiseIf, if_pos hc]
  exact s.testBit_raise_same p hn

theorem State.get_raiseIf_ne (s : State) (c : Bool) {p n : Nat} {g : Field} (h : g.key ≠ (HDR.IRQ_RAW p).key) :
    (s.raiseIf c p n).get g = s.get g := by
  cases c
  · rfl
  · exact s.get_raise_ne h

theorem KeepsRegs.raiseIf {s t : State} {l : List Field} {p : Nat} (h : KeepsRegs s t l) (hp : HDR.IRQ_RAW p ∈ l) (c : Bool) (n : Nat) :
    KeepsRegs s (t.raiseIf c p n) l := by
  cases c
  · exact h
  · exact h.set hp _

/-- A one-bit field written with a condition is on where the condition holds. -/
theorem State.on_set_b2n (s : State) {f : Field} (hf : f.width = 1) (b : Bool) : (s.set f (b2n b)).on f = b := by
  rw [State.on, State.get_set_same, hf]
  cases b <;> rfl

theorem State.on_of_get_zero {s : State} {f : Field} (h : s.get f = 0) : s.on f = false := by
  simp [State.on, h]

/-- The key of the field that starts at bit `lo` of the word `off` of a channel's register block, `off` counted in channel 0 of its page. -/
def chKey (ch off lo : Nat) : Nat := (chPage ch * 4096 + (off + 0x20 * (ch % 8))) * 32 + lo

/-- Fields of channels share a key only where channel, word and first bit agree. -/
@[simp] theorem chKey_eq_iff {ch ch' off off' lo lo' : Nat} (ho : 0x40 ≤ off) (ho2 : off < 0x60) (ho' : 0x40 ≤ off') (ho2' : off' < 0x60)
    (hl : lo < 32) (hl' : lo' < 32) : chKey ch off lo = chKey ch' off' lo' ↔ ch = ch' ∧ off = off' ∧ lo = lo' := by
  unfold chKey chPage
  omega

/-- No field of a channel shares its key with a field of a page's header. -/
theorem chKey_ne_header {ch off lo : Nat} {f : Field} (ho : 0x40 ≤ off) (ho2 : off < 0x60) (hl : lo < 32) (hf : f.off < 0x40)
    (hf2 : f.lo < 32) : chKey ch off lo ≠ f.key := by
  unfold chKey Field.key
  omega

@[simp] theorem chKey_ne_irqRaw {ch off lo p : Nat} (ho : 0x40 ≤ off) (ho2 : off < 0x60) (hl : lo < 32) :
    chKey ch off lo ≠ (HDR.IRQ_RAW p).key := chKey_ne_header ho ho2 hl (by simp [HDR.IRQ_RAW]) (by simp [HDR.IRQ_RAW])

@[simp] theorem chKey_ne_enable {ch off lo p : Nat} (ho : 0x40 ≤ off) (ho2 : off < 0x60) (hl : lo < 32) :
    chKey ch off lo ≠ (HDR.ENABLE p).key := chKey_ne_header ho ho2 hl (by simp [HDR.ENABLE]) (by simp [HDR.ENABLE])

@[simp] theorem enable_ne_chKey {ch off lo p : Nat} (ho : 0x40 ≤ off) (ho2 : off < 0x60) (hl : lo < 32) :
    (HDR.ENABLE p).key ≠ chKey ch off lo := (chKey_ne_enable ho ho2 hl).symm

@[simp] theorem HDR.ENABLE_key_ne_IRQ_RAW (p q : Nat) : (HDR.ENABLE p).key ≠ (HDR.IRQ_RAW q).key := by
  simp only [Field.key, HDR.ENABLE, HDR.IRQ_RAW]
  omega

/-- PD_SLEEP stands on the page before the mailbox pages. -/
@[simp] theorem chKey_ne_pdSleep (ch off lo : Nat) : chKey ch off lo ≠ PWR.PD_SLEEP.key := by
  simp only [chKey, chPage, Field.key, PWR.PD_SLEEP]
  omega

@[simp] theorem pdSleep_ne_irqRaw_chPage (ch : Nat) : PWR.PD_SLEEP.key ≠ (HDR.IRQ_RAW (chPage ch)).key := by
  simp only [chPage, Field.key, PWR.PD_SLEEP, HDR.IRQ_RAW]
  omega

/-! The key of each field of a channel. The proofs stand in brackets so that `simp` takes them for equations it rewrites with and not for
unfoldings: an unfolded key leaves the side goal of `State.get_set_ne` in a form that does not match. -/

@[simp] theorem MBOX.SENDER_key (ch : Nat) : (MBOX.SENDER ch).key = chKey ch 0x40 0 := (rfl)
@[simp] theorem MBOX.RECEIVER_key (ch : Nat) : (MBOX.RECEIVER ch).key = chKey ch 0x40 4 := (rfl)
@[simp] theorem MBOX.OPEN_key (ch : Nat) : (MBOX.OPEN ch).key = chKey ch 0x40 8 := (rfl)
@[simp] theorem MBOX.CFG_INVALID_key (ch : Nat) : (MBOX.CFG_INVALID ch).key = chKey ch 0x40 9 := (rfl)
@[simp] theorem MBOX.RET_CODE_key (ch : Nat) : (MBOX.RET_CODE ch).key = chKey ch 0x54 0 := (rfl)
@[simp] theorem MBOX.ACK_SEQ_key (ch : Nat) : (MBOX.ACK_SEQ ch).key = chKey ch 0x54 16 := (rfl)
@[simp] theorem MBOX.PENDING_key (ch : Nat) : (MBOX.PENDING ch).key = chKey ch 0x58 0 := (rfl)
@[simp] theorem MBOX.ANNOUNCED_key (ch : Nat) : (MBOX.ANNOUNCED ch).key = chKey ch 0x58 1 := (rfl)
@[simp] theorem MBOX.CMD_STATUS_key (ch : Nat) : (MBOX.CMD_STATUS ch).key = chKey ch 0x58 2 := (rfl)
@[simp] theorem MBOX.POST_SEQ_key (ch : Nat) : (MBOX.POST_SEQ ch).key = chKey ch 0x58 8 := (rfl)
@[simp] theorem MBOX.RESULT_key (ch : Nat) : (MBOX.RESULT ch).key = chKey ch 0x58 16 := (rfl)
@[simp] theorem MBOX.REVOKED_CNT_key (ch : Nat) : (MBOX.REVOKED_CNT ch).key = chKey ch 0x5C 0 := (rfl)

@[simp] theorem MBOX.SENDER_width (ch : Nat) : (MBOX.SENDER ch).width = 3 := rfl
@[simp] theorem MBOX.RECEIVER_width (ch : Nat) : (MBOX.RECEIVER ch).width = 3 := rfl
@[simp] theorem MBOX.PENDING_width (ch : Nat) : (MBOX.PENDING ch).width = 1 := rfl
@[simp] theorem MBOX.ANNOUNCED_width (ch : Nat) : (MBOX.ANNOUNCED ch).width = 1 := rfl

end Sys2Proof.Machine

/-! ### A message ends (R88, R89, R91) -/

namespace Sys2Proof.Machine

/-- Two states differ in their registers and in the doorbells held back at most. -/
def SameButWaiting (s t : State) : Prop := t = { s with regs := t.regs, chWaiting := t.chWaiting }

theorem SameButWaiting.trans {s t u : State} (h : SameButWaiting s t) (k : SameButWaiting t u) : SameButWaiting s u := by
  unfold SameButWaiting at *
  rw [k, h]

theorem SameButRegs.sameButWaiting {s t : State} (h : SameButRegs s t) : SameButWaiting s t := by
  unfold SameButRegs SameButWaiting at *
  rw [h]

/-- The slot of a channel without its message: nothing pending or announced, and a code in RESULT. -/
def State.emptySlot (s : State) (ch code : Nat) : State :=
  { ((s.set (MBOX.PENDING ch) 0).set (MBOX.ANNOUNCED ch) 0).set (MBOX.RESULT ch) code with chWaiting := s.chWaiting.filter (· ≠ ch) }

/-- A message closed leaves its slot empty and signals a sender that is a host port (R88). -/
theorem State.closeMessage_eq (s : State) (ch code : Nat) :
    s.closeMessage ch code = (s.emptySlot ch code).raiseIf (hostEndpoint (s.get (MBOX.SENDER ch))) (chPage ch) (8 + ch % 8) := rfl

theorem State.emptySlot_get (s : State) (ch code : Nat) (f : Field) :
    (s.emptySlot ch code).get f = (((s.set (MBOX.PENDING ch) 0).set (MBOX.ANNOUNCED ch) 0).set (MBOX.RESULT ch) code).get f := rfl

theorem State.closeMessage_pending (s : State) (ch code : Nat) : (s.closeMessage ch code).get (MBOX.PENDING ch) = 0 := by
  simp [State.closeMessage_eq, State.get_raiseIf_ne, State.emptySlot_get, State.get_set_ne]

theorem State.closeMessage_result (s : State) (ch code : Nat) : (s.closeMessage ch code).get (MBOX.RESULT ch) = code % 2 ^ 16 := by
  rw [State.closeMessage_eq, State.get_raiseIf_ne _ _ (by simp), State.emptySlot_get, State.get_set_same]
  rfl

/-- RESULT_c is raised for a sender that is a host port (R88). -/
theorem State.closeMessage_raises (s : State) {ch : Nat} (code : Nat) (h : hostEndpoint (s.get (MBOX.SENDER ch)) = true) :
    ((s.closeMessage ch code).get (HDR.IRQ_RAW (chPage ch))).testBit (8 + ch % 8) = true :=
  State.testBit_raiseIf _ _ h (by omega)

/-- The registers that closing a message writes. -/
def closedRegs (ch : Nat) : List Field := [MBOX.PENDING ch, MBOX.ANNOUNCED ch, MBOX.RESULT ch, HDR.IRQ_RAW (chPage ch)]

theorem State.closeMessage_keepsRegs (s : State) (ch code : Nat) : KeepsRegs s (s.closeMessage ch code) (closedRegs ch) := by
  have empty : KeepsRegs s (s.emptySlot ch code) (closedRegs ch) :=
    (((KeepsRegs.refl s _).set (by simp [closedRegs]) 0).set (by simp [closedRegs]) 0).set (by simp [closedRegs]) code
  exact empty.raiseIf (by simp [closedRegs]) _ _

theorem State.closeMessage_frame (s : State) (ch code : Nat) : SameButWaiting s (s.closeMessage ch code) :=
  SameButWaiting.trans (t := s.emptySlot ch code) rfl (State.raiseIf_same ..).sameButWaiting

/-- A pending message that is revoked is closed and counted, and a receiver that is a host port is told (R89, R91). -/
theorem State.revokeMessage_of_pending {s : State} {ch : Nat} (code : Nat) (h : s.on (MBOX.PENDING ch) = true) :
    s.revokeMessage ch code = ((s.closeMessage ch code).bump (MBOX.REVOKED_CNT ch) 1).raiseIf
      (hostEndpoint (s.get (MBOX.RECEIVER ch))) (chPage ch) (16 + ch % 8) := by
  rw [State.revokeMessage, if_pos h]
  rfl

/-- An empty slot has nothing to revoke. -/
theorem State.revokeMessage_of_empty {s : State} {ch : Nat} (code : Nat) (h : s.on (MBOX.PENDING ch) = false) :
    s.revokeMessage ch code = s := by
  simp [State.revokeMessage, h]

theorem State.revokeMessage_pending {s : State} {ch : Nat} (code : Nat) (h : s.on (MBOX.PENDING ch) = true) :
    (s.revokeMessage ch code).get (MBOX.PENDING ch) = 0 := by
  rw [State.revokeMessage_of_pending code h, State.get_raiseIf_ne _ _ (by simp), State.get_bump_ne _ (by simp), State.closeMessage_pending]

theorem State.revokeMessage_result {s : State} {ch : Nat} (code : Nat) (h : s.on (MBOX.PENDING ch) = true) :
    (s.revokeMessage ch code).get (MBOX.RESULT ch) = code % 2 ^ 16 := by
  rw [State.revokeMessage_of_pending code h, State.get_raiseIf_ne _ _ (by simp), State.get_bump_ne _ (by simp), State.closeMessage_result]

theorem State.revokeMessage_counted {s : State} {ch : Nat} (code : Nat) (h : s.on (MBOX.PENDING ch) = true) :
    (s.revokeMessage ch code).get (MBOX.REVOKED_CNT ch) =
      min (s.get (MBOX.REVOKED_CNT ch) + 1) (2 ^ (MBOX.REVOKED_CNT ch).width - 1) := by
  have hcnt : (s.closeMessage ch code).get (MBOX.REVOKED_CNT ch) = s.get (MBOX.REVOKED_CNT ch) :=
    s.closeMessage_keepsRegs ch code _ (by simp [closedRegs])
  rw [State.revokeMessage_of_pending code h, State.get_raiseIf_ne _ _ (by simp), State.get_bump_same, hcnt]

/-- The registers that revoking a message writes. -/
def revokedRegs (ch : Nat) : List Field := MBOX.REVOKED_CNT ch :: closedRegs ch

theorem State.revokeMessage_keepsRegs (s : State) (ch code : Nat) : KeepsRegs s (s.revokeMessage ch code) (revokedRegs ch) := by
  cases h : s.on (MBOX.PENDING ch) with
  | false => simp [State.revokeMessage_of_empty code h, KeepsRegs]
  | true =>
    rw [State.revokeMessage_of_pending code h]
    have closed := (s.closeMessage_keepsRegs ch code).mono (List.subset_cons_self (MBOX.REVOKED_CNT ch) _)
    exact (closed.set List.mem_cons_self _).raiseIf (by simp [closedRegs]) _ _

theorem State.revokeMessage_frame (s : State) (ch code : Nat) : SameButWaiting s (s.revokeMessage ch code) := by
  cases h : s.on (MBOX.PENDING ch) with
  | false => rw [State.revokeMessage_of_empty code h]; rfl
  | true =>
    rw [State.revokeMessage_of_pending code h]
    exact (s.closeMessage_frame ch code).trans ((State.bump_same ..).trans (State.raiseIf_same ..)).sameButWaiting

end Sys2Proof.Machine

/-! ### The channels of a page are revoked together (R93) -/

namespace Sys2Proof.Machine

/-- What R93 says of a channel's slot: whether a message is pending, and the return code of the last. -/
def State.mailSlot (s : State) (ch : Nat) : Nat × Nat := (s.get (MBOX.PENDING ch), s.get (MBOX.RESULT ch))

theorem State.mailSlot_eq_iff {s : State} {ch p r : Nat} : s.mailSlot ch = (p, r) ↔ s.get (MBOX.PENDING ch) = p ∧ s.get (MBOX.RESULT ch) = r :=
  Prod.mk_inj

/-- Revoking empties the slot of its own channel if that has a message, and leaves every other slot. -/
theorem State.revokeMessage_mailSlot (s : State) (d code ch : Nat) :
    (s.revokeMessage d code).mailSlot ch = if ch = d ∧ s.on (MBOX.PENDING ch) = true then (0, code % 2 ^ 16) else s.mailSlot ch := by
  by_cases hd : ch = d
  · subst hd
    cases h : s.on (MBOX.PENDING ch) with
    | false => simp [State.revokeMessage_of_empty code h]
    | true => simpa using State.mailSlot_eq_iff.2 ⟨State.revokeMessage_pending code h, State.revokeMessage_result code h⟩
  · rw [if_neg fun h => hd h.1]
    exact State.mailSlot_eq_iff.2 ⟨s.revokeMessage_keepsRegs d code _ (by simp [revokedRegs, closedRegs, hd]),
      s.revokeMessage_keepsRegs d code _ (by simp [revokedRegs, closedRegs, hd])⟩

/-- The messages of a list of channels are revoked one after the other. -/
def State.revokeAll (s : State) (l : List Nat) (code : Nat) : State := l.foldl (fun t ch => t.revokeMessage ch code) s

/-- Of the slots, those named that have a message are emptied and the others stay. -/
theorem State.revokeAll_mailSlot (s : State) (l : List Nat) (code ch : Nat) :
    (s.revokeAll l code).mailSlot ch = if ch ∈ l ∧ s.on (MBOX.PENDING ch) = true then (0, code % 2 ^ 16) else s.mailSlot ch := by
  induction l generalizing s with
  | nil => simp [State.revokeAll]
  | cons d l ih =>
    show ((s.revokeMessage d code).revokeAll l code).mailSlot ch = _
    rw [ih, State.revokeMessage_mailSlot]
    by_cases h : ch = d ∧ s.on (MBOX.PENDING ch) = true
    · have hmem : ch ∈ d :: l := h.1 ▸ List.mem_cons_self
      rw [if_pos h, ite_self, if_pos ⟨hmem, h.2⟩]
    · have hsame := (s.revokeMessage_mailSlot d code ch).trans (if_neg h)
      have hon : (s.revokeMessage d code).on (MBOX.PENDING ch) = s.on (MBOX.PENDING ch) := by
        rw [State.on, (State.mailSlot_eq_iff.1 hsame).1, State.on]
      rw [if_neg h, hon]
      refine if_congr ?_ rfl rfl
      simp only [List.mem_cons]
      tauto

theorem State.revokeAll_enable (s : State) (l : List Nat) (code p : Nat) :
    (s.revokeAll l code).get (HDR.ENABLE p) = s.get (HDR.ENABLE p) := by
  induction l generalizing s with
  | nil => rfl
  | cons d l ih => exact (ih _).trans (s.revokeMessage_keepsRegs d code _ (by simp [revokedRegs, closedRegs]))

theorem State.revokeAll_frame (s : State) (l : List Nat) (code : Nat) : SameButWaiting s (s.revokeAll l code) := by
  induction l generalizing s with
  | nil => rfl
  | cons d l ih => exact (s.revokeMessage_frame d code).trans (ih _)

/-- The channels of a mailbox page. -/
def pageChannels (page : Nat) : List Nat := (List.range 8).map (8 * (page - 3) + ·)

theorem mem_pageChannels {page ch : Nat} (hp : 3 ≤ page) : ch ∈ pageChannels page ↔ chPage ch = page := by
  simp only [pageChannels, List.mem_map, List.mem_range, chPage]
  constructor
  · rintro ⟨c, hc, rfl⟩
    omega
  · intro h
    exact ⟨ch % 8, by omega⟩

/-- Clearing ENABLE of a mailbox page revokes the messages of its channels with CHANNEL_CLOSED (R93). -/
theorem doMboxPageDisable_of_mayWrite {s : State} {m : Master} {page : Nat} (hw : s.MayWrite m page 0x008) :
    doMboxPageDisable m page s = (s.set (HDR.ENABLE page) 0).revokeAll (pageChannels page) 0xFF02 := by
  rw [doMboxPageDisable, hw.carriedOut, State.revokeAll, pageChannels, List.foldl_map]

/-- Each slot after ENABLE of a mailbox page is cleared (R93). -/
theorem doMboxPageDisable_mailSlot {s : State} {m : Master} {page : Nat} (hp : 3 ≤ page) (hw : s.MayWrite m page 0x008) (ch : Nat) :
    (doMboxPageDisable m page s).mailSlot ch =
      if chPage ch = page ∧ s.on (MBOX.PENDING ch) = true then (0, 0xFF02) else s.mailSlot ch := by
  rw [doMboxPageDisable_of_mayWrite hw, State.revokeAll_mailSlot]
  simp [mem_pageChannels hp, State.mailSlot, State.on, State.get_set_ne]

/-- What clearing ENABLE of a mailbox page leaves (R93). -/
theorem doMboxPageDisable_spec {s : State} {m : Master} {page : Nat} (hp : 3 ≤ page) (hw : s.MayWrite m page 0x008) :
    let t := doMboxPageDisable m page s
    t.on (HDR.ENABLE page) = false ∧ (∀ ch, chPage ch = page → t.on (MBOX.PENDING ch) = false) ∧
      (∀ ch, chPage ch = page → s.on (MBOX.PENDING ch) = true → t.get (MBOX.RESULT ch) = 0xFF02) ∧
      (∀ ch, chPage ch ≠ page → t.get (MBOX.PENDING ch) = s.get (MBOX.PENDING ch) ∧ t.get (MBOX.RESULT ch) = s.get (MBOX.RESULT ch)) ∧
      SameButWaiting s t := by
  have hslot := doMboxPageDisable_mailSlot hp hw
  refine ⟨?_, ?_, ?_, ?_, ?_⟩
  · rw [doMboxPageDisable_of_mayWrite hw]
    exact State.on_of_get_zero ((State.revokeAll_enable ..).trans (State.get_set_same ..))
  · intro ch hch
    cases hon : s.on (MBOX.PENDING ch) with
    | true => exact State.on_of_get_zero (State.mailSlot_eq_iff.1 ((hslot ch).trans (if_pos ⟨hch, hon⟩))).1
    | false =>
      have hpend := (State.mailSlot_eq_iff.1 ((hslot ch).trans (if_neg (by simp [hon])))).1
      rwa [State.on, hpend]
  · intro ch hch hon
    exact (State.mailSlot_eq_iff.1 ((hslot ch).trans (if_pos ⟨hch, hon⟩))).2
  · intro ch hch
    exact State.mailSlot_eq_iff.1 ((hslot ch).trans (if_neg fun h => hch h.1))
  · rw [doMboxPageDisable_of_mayWrite hw]
    exact (s.set_same _ _).sameButWaiting.trans (State.revokeAll_frame ..)

end Sys2Proof.Machine

/-! ### The life of a mailbox message (R84 to R93) -/

namespace Sys2Proof.Machine

/-- A write whose own rule a condition meets is carried out. -/
theorem State.MayWrite.carriedOut_of {s : State} {m : Master} {p off : Nat} {c : Prop} [Decidable c] (h : s.MayWrite m p off) (hc : c)
    (l : List Nat) (k : State → State) : s.write m p off (if c then [] else l) k = k s := by
  rw [if_pos hc, h.carriedOut]

/-- A write of CH_CFG while OPEN is 0 (R84, R85). -/
theorem exec_chCfgWrite_closed {s : State} {m : Master} {ch : Fin 16} {v : Word} (hm : m = .mss ∨ m = .hostS)
    (hw : s.MayWrite m (chPage ch.val) (0x040 + 0x20 * (ch.val % 8))) (hopen : s.on (MBOX.OPEN ch.val) = false) :
    Answers (exec (.chCfgWrite m ch v none) s) (fun t =>
      let snd := v.toNat % 8
      let rcv := v.toNat / 16 % 8
      t.get (MBOX.SENDER ch.val) = snd ∧ t.get (MBOX.RECEIVER ch.val) = rcv ∧ t.on (MBOX.CFG_INVALID ch.val) = cfgInvalid ch.val snd rcv ∧
      t.on (MBOX.OPEN ch.val) = (v.toNat.testBit 8 && !cfgInvalid ch.val snd rcv) ∧
      KeepsRegs s t [MBOX.SENDER ch.val, MBOX.RECEIVER ch.val, MBOX.CFG_INVALID ch.val, MBOX.OPEN ch.val] ∧ t = { s with regs := t.regs }) := by
  have hmay : m = .mss ∨ m = .hostS ∨ (m = .hostN ∧ ch.val < 8) := hm.imp_right .inl
  have hsnd : bits v.toNat 0 3 = v.toNat % 8 := by simp [bits]
  have hrcv : bits v.toNat 4 3 = v.toNat / 16 % 8 := rfl
  have hdo : doChCfgWrite m ch.val v.toNat s =
      (((s.set (MBOX.SENDER ch.val) (v.toNat % 8)).set (MBOX.RECEIVER ch.val) (v.toNat / 16 % 8)).set (MBOX.CFG_INVALID ch.val)
        (b2n (cfgInvalid ch.val (v.toNat % 8) (v.toNat / 16 % 8)))).set (MBOX.OPEN ch.val)
        (b2n (v.toNat.testBit 8 && !cfgInvalid ch.val (v.toNat % 8) (v.toNat / 16 % 8))) := by
    simp only [doChCfgWrite, hw.carriedOut_of hmay, hopen, hsnd, hrcv]
    rfl
  refine ⟨_, congrArg Host.Outcome.next hdo, ?_, ?_, ?_, State.on_set_b2n _ rfl _, ?_, rfl⟩
  · simp [State.get_set_ne]
  · simp [State.get_set_ne]
  · rw [State.on, State.get_set_ne _ (by simp)]
    exact State.on_set_b2n _ rfl _
  · exact ((((KeepsRegs.refl s _).set (by simp) _).set (by simp) _).set (by simp) _).set (by simp) _

/-- The field that a write of CH_OFFSET, CH_LENGTH or CH_OPCODE fills. -/
def descField (ch : Nat) : DescReg → Field
  | .offset => MBOX.OFFSET ch
  | .length => MBOX.LENGTH ch
  | .opcode => MBOX.OPCODE ch

/-- The sender's write of a descriptor register of an empty slot (R86). -/
theorem exec_descriptorWrite_empty {s : State} {m : Master} {ch : Fin 16} (r : DescReg) (v : Word)
    (hm : s.actsAs m (s.get (MBOX.SENDER ch.val)) = true) (hpend : s.on (MBOX.PENDING ch.val) = false)
    (hw : s.MayWrite m (chPage ch.val) (descField ch.val r).off) :
    Answers (exec (.descriptorWrite m ch r v) s) (fun t =>
      t.get (descField ch.val r) = v.toNat % 2 ^ (descField ch.val r).width ∧ KeepsRegs s t [descField ch.val r] ∧
      t = { s with regs := t.regs }) := by
  have hdo : doDescriptorWrite m ch.val r v.toNat s = s.set (descField ch.val r) v.toNat := by
    cases r <;>
    · simp only [doDescriptorWrite, Nat.add_right_comm 0x040]
      exact (hw.carriedOut_of hm _ _).trans (by rw [hpend]; rfl)
  exact ⟨_, congrArg Host.Outcome.next hdo, State.get_set_same .., (KeepsRegs.refl s _).set List.mem_cons_self _, rfl⟩

/-- The registers of a channel once a POST is accepted (R86). -/
def State.markPosted (s : State) (ch : Nat) : State :=
  (((s.set (MBOX.CMD_STATUS ch) 0).set (MBOX.PENDING ch) 1).set (MBOX.ANNOUNCED ch) 0).wrapInc (MBOX.POST_SEQ ch)

theorem State.markPosted_same (s : State) (ch : Nat) : SameButRegs s (s.markPosted ch) :=
  (((s.set_same _ _).trans (State.set_same ..)).trans (State.set_same ..)).trans (State.wrapInc_same ..)

theorem State.markPosted_keepsRegs (s : State) (ch : Nat) :
    KeepsRegs s (s.markPosted ch) [MBOX.PENDING ch, MBOX.ANNOUNCED ch, MBOX.CMD_STATUS ch, MBOX.POST_SEQ ch] :=
  ((((KeepsRegs.refl s _).set (by simp) _).set (by simp) _).set (by simp) _).set (by simp) _

/-- The sender's POST of a descriptor that nothing refuses (R86). -/
theorem exec_post_accepted {s : State} {m : Master} {ch : Fin 16} (hw : s.MayWrite m (chPage ch.val) (0x050 + 0x20 * (ch.val % 8)))
    (hm : s.actsAs m (s.get (MBOX.SENDER ch.val)) = true) (hstatus : s.postStatus ch.val = 0) :
    Answers (exec (.post m ch) s) (fun t =>
      t.on (MBOX.PENDING ch.val) = true ∧ t.on (MBOX.ANNOUNCED ch.val) = false ∧ t.get (MBOX.CMD_STATUS ch.val) = 0 ∧
      t.get (MBOX.POST_SEQ ch.val) = (s.get (MBOX.POST_SEQ ch.val) + 1) % 2 ^ (MBOX.POST_SEQ ch.val).width ∧
      t.chPoster.get? ch.val = some m.id ∧
      KeepsRegs s t [MBOX.PENDING ch.val, MBOX.ANNOUNCED ch.val, MBOX.CMD_STATUS ch.val, MBOX.POST_SEQ ch.val] ∧
      t = { s with regs := t.regs, chPoster := t.chPoster, chReset := s.chReset.del ch.val }) := by
  have hdo : doPost m ch.val s =
      { s.markPosted ch.val with chPoster := s.chPoster.put ch.val m.id, chReset := s.chReset.del ch.val } := by
    rw [doPost, hw.carriedOut_of hm, hstatus]
    rfl
  have hget : ∀ f, (doPost m ch.val s).get f = (s.markPosted ch.val).get f := State.get_of_regs (by rw [hdo])
  refine ⟨_, rfl, ?_, ?_, ?_, ?_, ?_, fun f hf => (hget f).trans (s.markPosted_keepsRegs ch.val f hf), ?_⟩
  · simp [State.on, hget, State.markPosted, State.get_wrapInc_ne, State.get_set_ne]
  · simp [State.on, hget, State.markPosted, State.get_wrapInc_ne]
  · simp [hget, State.markPosted, State.get_wrapInc_ne, State.get_set_ne]
  · simp [hget, State.markPosted, State.get_wrapInc_same, State.get_set_ne]
  · rw [hdo]
    exact Map.get?_put_same _ _ _
  · rw [hdo, s.markPosted_same ch.val]

/-- A POST that is refused only leaves its reason in CMD_STATUS (R86, R93). -/
theorem exec_post_refused {s : State} {m : Master} {ch : Fin 16} (hw : s.MayWrite m (chPage ch.val) (0x050 + 0x20 * (ch.val % 8)))
    (hm : s.actsAs m (s.get (MBOX.SENDER ch.val)) = true) {c : Nat} (hstatus : s.postStatus ch.val = c) (hc : c ≠ 0) :
    Answers (exec (.post m ch) s) (fun t => t.get (MBOX.CMD_STATUS ch.val) = c % 8 ∧ KeepsRegs s t [MBOX.CMD_STATUS ch.val] ∧
      t = { s with regs := t.regs }) := by
  have hdo : doPost m ch.val s = s.set (MBOX.CMD_STATUS ch.val) c := by
    simp only [doPost, hw.carriedOut_of hm, hstatus, if_neg hc]
  exact ⟨_, congrArg Host.Outcome.next hdo, State.get_set_same .., (KeepsRegs.refl s _).set List.mem_cons_self _, rfl⟩

/-- Nothing refuses a POST on an open channel of an enabled page whose descriptor lies in the window (R86). -/
theorem State.postStatus_accepted {s : State} {ch : Nat} (hpend : s.on (MBOX.PENDING ch) = false) (hopen : s.on (MBOX.OPEN ch) = true)
    (hen : s.on (HDR.ENABLE (chPage ch)) = true) (hlen : s.get (MBOX.LENGTH ch) ≠ 0)
    (hend : s.get (MBOX.OFFSET ch) + s.get (MBOX.LENGTH ch) ≤ 0x20000) : s.postStatus ch = 0 := by
  simp [State.postStatus, hpend, hopen, hen, hlen, hend]

/-- While ENABLE of its page is 0 a channel answers POST with CLOSED (R93). -/
theorem State.postStatus_pageDisabled {s : State} {ch : Nat} (hpend : s.on (MBOX.PENDING ch) = false)
    (hen : s.on (HDR.ENABLE (chPage ch)) = false) : s.postStatus ch = 2 := by
  simp [State.postStatus, hpend, hen]

/-- A bit that is cleared reads as 0. -/
theorem testBit_setBits_zero (v n : Nat) : (setBits v n 1 0).testBit n = false := by
  have hset : setBits v n 1 0 = v - 2 ^ n * (v / 2 ^ n % 2) := by simp [setBits, bits, Nat.mul_comm]
  have hbit : (v - 2 ^ n * (v / 2 ^ n % 2)) / 2 ^ n % 2 = 0 := by
    rw [Nat.sub_mul_div]
    omega
  simp [Nat.testBit_eq_decide_div_mod_eq, hset, hbit]

/-- The doorbell of a message for a host port (R87). -/
theorem exec_doorbellDeliver_host {s : State} {ch : Fin 16} (hpend : s.on (MBOX.PENDING ch.val) = true)
    (hann : s.on (MBOX.ANNOUNCED ch.val) = false) (hup : s.receiverUp ch.val = true)
    (hhost : hostEndpoint (s.get (MBOX.RECEIVER ch.val)) = true) :
    Answers (exec (.doorbellDeliver ch) s) (fun t =>
      t.on (MBOX.ANNOUNCED ch.val) = true ∧ t.on (MBOX.PENDING ch.val) = true ∧ (t.get PWR.PD_SLEEP).testBit 10 = false ∧
      (t.get (HDR.IRQ_RAW (chPage ch.val))).testBit (ch.val % 8) = true ∧
      KeepsRegs s t [MBOX.ANNOUNCED ch.val, PWR.PD_SLEEP, HDR.IRQ_RAW (chPage ch.val)] ∧ t = { s with regs := t.regs }) := by
  have hdo : doDoorbellDeliver ch.val s = ((s.set (MBOX.ANNOUNCED ch.val) 1).set PWR.PD_SLEEP
      (setBits ((s.set (MBOX.ANNOUNCED ch.val) 1).get PWR.PD_SLEEP) 10 1 0)).raise (chPage ch.val) (ch.val % 8) := by
    simp only [doDoorbellDeliver, hpend, hann, hup, hhost]
    rfl
  refine ⟨_, congrArg Host.Outcome.next hdo, ?_, ?_, ?_, State.testBit_raise_same _ _ (by omega), ?_, rfl⟩
  · simp [State.on, State.get_raise_ne, State.get_set_ne]
  · rw [← hpend]
    simp [State.on, State.get_raise_ne, State.get_set_ne]
  · rw [State.get_raise_ne _ (by simp), State.get_set_same, Nat.testBit_mod_two_pow, testBit_setBits_zero, Bool.and_false]
  · exact (((KeepsRegs.refl s _).set (by simp) _).set (by simp) _).set (by simp) _

/-- CH_ACK as the receiver wrote it (R88). -/
def State.writeAck (s : State) (ch ret seq : Nat) : State := (s.set (MBOX.RET_CODE ch) ret).set (MBOX.ACK_SEQ ch) seq

theorem State.writeAck_keepsRegs (s : State) (ch ret seq : Nat) :
    KeepsRegs s (s.writeAck ch ret seq) [MBOX.RET_CODE ch, MBOX.ACK_SEQ ch] :=
  ((KeepsRegs.refl s _).set (by simp) ret).set (by simp) seq

/-- The receiver's acknowledgement of the message that is pending (R88, R89). -/
theorem exec_chAck_taken {s : State} {m : Master} {ch : Fin 16} {ret : BitVec 16} {seq : Byte}
    (hw : s.MayWrite m (chPage ch.val) (0x054 + 0x20 * (ch.val % 8))) (hm : s.actsAs m (s.get (MBOX.RECEIVER ch.val)) = true)
    (hpend : s.on (MBOX.PENDING ch.val) = true) (hseq : seq.toNat = s.get (MBOX.POST_SEQ ch.val))
    (hret : hostEndpoint (endpointOf m) = false ∨ ret.toNat < 0xFF00) :
    Answers (exec (.chAck m ch ret seq false) s) (fun t =>
      t.on (MBOX.PENDING ch.val) = false ∧ t.get (MBOX.RESULT ch.val) = ret.toNat ∧
      (hostEndpoint (s.get (MBOX.SENDER ch.val)) = true → (t.get (HDR.IRQ_RAW (chPage ch.val))).testBit (8 + ch.val % 8) = true) ∧
      KeepsRegs s t [MBOX.PENDING ch.val, MBOX.ANNOUNCED ch.val, MBOX.RESULT ch.val, MBOX.RET_CODE ch.val, MBOX.ACK_SEQ ch.val,
        HDR.IRQ_RAW (chPage ch.val)] ∧ t = { s with regs := t.regs, chWaiting := t.chWaiting }) := by
  have hdo : doChAck m ch.val ret.toNat seq.toNat false s = (s.writeAck ch.val ret.toNat seq.toNat).closeMessage ch.val ret.toNat := by
    rw [doChAck, hw.carriedOut_of hm]
    simp only [if_pos (And.intro hseq hret), hpend, if_true, State.writeAck]
  have hsender : (s.writeAck ch.val ret.toNat seq.toNat).get (MBOX.SENDER ch.val) = s.get (MBOX.SENDER ch.val) := by
    simp [State.writeAck, State.get_set_ne]
  refine ⟨_, congrArg Host.Outcome.next hdo, State.on_of_get_zero (State.closeMessage_pending ..),
    (State.closeMessage_result ..).trans (Nat.mod_eq_of_lt ret.isLt), fun h => State.closeMessage_raises _ _ (hsender ▸ h), ?_,
    SameButWaiting.trans (t := s.writeAck ch.val ret.toNat seq.toNat) rfl (State.closeMessage_frame ..)⟩
  exact ((s.writeAck_keepsRegs ch.val ret.toNat seq.toNat).mono (by simp)).trans
    ((State.closeMessage_keepsRegs _ _ _).mono (by simp [closedRegs]))

/-- The sender's REVOKE of its pending message (R86, R89). -/
theorem exec_revoke_pending {s : State} {m : Master} {ch : Fin 16} (hw : s.MayWrite m (chPage ch.val) (0x050 + 0x20 * (ch.val % 8)))
    (hm : s.actsAs m (s.get (MBOX.SENDER ch.val)) = true) (hpend : s.on (MBOX.PENDING ch.val) = true) :
    Answers (exec (.revoke m ch none) s) (fun t =>
      t.on (MBOX.PENDING ch.val) = false ∧ t.get (MBOX.RESULT ch.val) = 0xFF03 ∧ t.get (MBOX.CMD_STATUS ch.val) = 0 ∧
      t.get (MBOX.REVOKED_CNT ch.val) = min (s.get (MBOX.REVOKED_CNT ch.val) + 1) (2 ^ (MBOX.REVOKED_CNT ch.val).width - 1) ∧
      KeepsRegs s t [MBOX.PENDING ch.val, MBOX.ANNOUNCED ch.val, MBOX.RESULT ch.val, MBOX.CMD_STATUS ch.val, MBOX.REVOKED_CNT ch.val,
        HDR.IRQ_RAW (chPage ch.val)] ∧ t = { s with regs := t.regs, chWaiting := t.chWaiting }) := by
  have hdo : doRevoke m ch.val s = (s.revokeMessage ch.val 0xFF03).set (MBOX.CMD_STATUS ch.val) 0 := by
    rw [doRevoke, hw.carriedOut_of hm, if_pos hpend]
  refine ⟨_, congrArg Host.Outcome.next hdo, State.on_of_get_zero ?_, ?_, ?_, ?_, ?_,
    (s.revokeMessage_frame ch.val 0xFF03).trans (State.set_same ..).sameButWaiting⟩
  · rw [State.get_set_ne _ (by simp), State.revokeMessage_pending _ hpend]
  · rw [State.get_set_ne _ (by simp), State.revokeMessage_result _ hpend]
    rfl
  · rw [State.get_set_same, Nat.zero_mod]
  · rw [State.get_set_ne _ (by simp), State.revokeMessage_counted _ hpend]
  · exact ((s.revokeMessage_keepsRegs ch.val 0xFF03).mono (by simp [revokedRegs, closedRegs])).set (by simp) 0

/-- Settles O16: each clause is the lemma of its command; closing and revoking are said once, for one channel and for all of a page. -/
theorem mailboxMessagesPassOnce : Obligations.MailboxMessagesPassOnce := by
  unfold Obligations.MailboxMessagesPassOnce
  refine ⟨fun s m ch v => exec_chCfgWrite_closed, ?descriptor, ?post, fun s ch => exec_doorbellDeliver_host,
    fun s m ch ret seq => exec_chAck_taken, fun s m ch => exec_revoke_pending, ?disable, ?closed⟩
  case descriptor =>
    intro s m ch v hm hpend
    exact ⟨exec_descriptorWrite_empty .offset v hm hpend, exec_descriptorWrite_empty .length v hm hpend,
      exec_descriptorWrite_empty .opcode v hm hpend⟩
  case post =>
    intro s m ch hw hm hpend hopen hen hlen hend
    exact exec_post_accepted hw hm (State.postStatus_accepted hpend hopen hen hlen hend)
  case disable =>
    intro s m secure hw
    obtain ⟨hen, hpend, hresult, hothers, hframe⟩ := doMboxPageDisable_spec (Nat.le_add_right 3 _) hw
    exact ⟨_, rfl, hen, fun ch _ => hpend ch, fun ch _ => hresult ch, fun ch _ => hothers ch, hframe⟩
  case closed =>
    intro s m ch hw hm hpend hen
    exact exec_post_refused hw hm (State.postStatus_pageDisabled hpend hen) (by decide)

end Sys2Proof.Machine
